-- ==== Sys2Proof/Word.lean ====
section
/-! DEFINITION. The plain value types of the AV2416: bytes, frame numbers, pixel words, station and slot numbers. -/

namespace Sys2Proof

/-- A byte of the service port (R169) or of the frame store (R163). -/
abbrev Byte := BitVec 8

/-- A frame number: 16 bits, wrapping (00_scope.md, Conventions, Frame numbers). -/
abbrev FrameNo := BitVec 16

/-- One pixel of a pixel link: red on bits 29..20, green on 19..10, blue on 9..0 (R181). -/
abbrev Pixel := BitVec 30

/-- A station number 0..15 (00_scope.md, Conventions, Station numbers). -/
abbrev StationNo := Fin 16

/-- One of the four frame slots of the frame store (R150). -/
abbrev SlotNo := Fin 4

end Sys2Proof
end

