-- ==== Sys2Proof/Config.lean ====
section
/-! DEFINITION. The fixed figures the manual gives the part: instants in nanoseconds, run lengths, limits.
The one value the manual leaves open stands at the end, without a body. -/

namespace Sys2Proof.Config

/-- Nanoseconds in a microsecond: the model's timebase counts nanoseconds (assumption log, entry 1). -/
def nsPerMicro : Nat := 1000

/-- 1.0 on the manual's fraction scale (00_scope.md, Conventions, Fractions). -/
def one : Nat := 32768

/-- Counters saturate here (00_scope.md, Conventions, Counters). -/
def counterMax : Nat := 65535

/-- One bit time of the seam link, in ns (R31). -/
def bitTime : Nat := 1000

/-- The lead sample's place in a cell, in ns (R31). -/
def leadSample : Nat := 125

/-- The value sample's place in a cell, in ns (R31). -/
def valueSample : Nat := 500

/-- The tail sample's place in a cell, in ns (R31). -/
def tailSample : Nat := 875

/-- The dominant pulse of a 0 cell, in ns (R31). -/
def zeroPulse : Nat := 750

/-- The dominant pulse of a 1 cell, in ns (R31). -/
def onePulse : Nat := 250

/-- One step of the glitch width, in ns (R32). -/
def glitchStep : Nat := 50

/-- The quiet count stops here, in bit times (R32). -/
def quietMax : Nat := 40

/-- A line dominant for this long makes the link STUCK, in bit times (R43). -/
def stuckTime : Nat := 8

/-- A station joins a start mark at most this long after its first edge, in ns (R37). -/
def joinWindow : Nat := 100

/-- A PULSE must start less than this many microseconds after its frame start (R42). -/
def pulseDeadline : Nat := 4096

/-- Own frame starts in the join window (R9, R11). -/
def joinWindowFrames : Nat := 4

/-- In-tolerance reference PULSEs that lock (R79), and orphan frame starts before the test (R76). -/
def lockFrames : Nat := 4

/-- Computing one vertex of a pass, in ns (R107). -/
def vertexTime : Nat := 40

/-- One burst on the memory, in ns (R162). -/
def burstTime : Nat := 4

/-- Pixels in a burst (R130). -/
def burstPixels : Nat := 16

/-- Bytes in a burst (00_scope.md, Key figures). -/
def burstBytes : Nat := 64

/-- The prefetch holds at most this many bursts (R130, R160). -/
def prefetchMax : Nat := 256

/-- The reader's budget, in bursts (R162). -/
def readerRun : Nat := 32

/-- The writer's budget, in bursts (R162). -/
def writerRun : Nat := 16

/-- Bytes in a frame slot: 48 MiB (10_frame_store_and_pixel_input.md, Slots). -/
def slotBytes : Nat := 48 * 1024 * 1024

/-- One lamp conversion, in ns (R138). -/
def conversionTime : Nat := 16000

/-- The sensor code of a faulted conversion (R139). -/
def sensorFullScale : Nat := 4095

/-- AUTO sequences in an average (R139). -/
def sequencesPerAverage : Nat := 4

/-- From PXO_FS to the first active pixel, in ns (R119). -/
def rasterDelay : Nat := 16000

/-- A pixel falls due this long before it appears on PXO_D, in ns (R119). -/
def dueLead : Nat := 1000

/-- Line blanking of the output link, in pixel times of 1 ns (R119). -/
def lineBlanking : Nat := 64

/-- The pitch of the vertex grid, in output pixels (R18). -/
def gridPitch : Nat := 32

/-- The trailer mark in a trailer pixel's blue channel (R156). -/
def trailerMark : Nat := 707

/-- MESH records taken from one command (R21). -/
def meshRun : Nat := 64

/-- Bytes of a PROFILE payload (R183). -/
def profileBytes : Nat := 45

/-- Bytes of a vertex record (R182). -/
def vertexBytes : Nat := 16

/-- What PXO_D carries at an instant (ns) at which no pixel is sent, which the manual does not tell: a free value
(DESIGN CHOICE, assumption log, entry 46). -/
opaque blankingData : Nat → Pixel

end Sys2Proof.Config
end

