-- ==== Sys2Proof/Syntax.lean ====
section
/-! DEFINITION. The commands of the block: one constructor of `Instr` per row of spec/opcode_table.json.

Every command carries `dt` (RESET and TRANSACTION_BEGIN within their operand), the nanoseconds since the command before it,
so that time never runs back and commands at one instant (`dt = 0`) are taken in the order they stand in the queue: this is
how "whichever is taken first" of the manual is expressed (assumption log, entries 1 and 2). -/

namespace Sys2Proof

/-- How the blocks take one own frame start among themselves, where the manual allows either order. -/
structure SameInstant where
  /-- The PULSE requested at this frame start takes the station state and lock AFTER the change made at the same
  frame start (true) or before it (false): R47. -/
  pulseAfter : Bool
  /-- The pipeline takes its frame start AFTER the station's move into SHOWING of the same instant (true: PICTURE) or
  before it (false: BLACK): R120. -/
  outputAfter : Bool
  deriving DecidableEq, Repr

/-- Why a message being received ends short (R44). -/
inductive ShortCause where
  /-- A lead sample is recessive. -/
  | leadRecessive
  /-- A tail sample is dominant. -/
  | tailDominant
  /-- The kind sampled in cells 5 and 6 is 3. -/
  | kindThree
  deriving DecidableEq, Repr

/-- Bits of one byte of a burst that the memory returns other than they were written: `flips` bits 7..0 are the byte's,
bit 8 is its parity bit's (R163). -/
structure Upset where
  /-- The byte of the burst. -/
  offset : Fin 64
  /-- The bits turned over. -/
  flips : BitVec 9
  deriving DecidableEq, Repr

/-- What SEAM shows at an instant (R30): its level, and how long it has stood at it, in ns. -/
structure LineLevel where
  dominant : Bool
  run : Nat
  deriving DecidableEq, Repr

/-- When a command that looks at SEAM is taken, `dt` ns after the command before it, and what SEAM shows then. -/
structure LineAt where
  dt : Nat
  line : LineLevel
  deriving DecidableEq, Repr

/-- When SVC_CSN falls, `dt` ns after the command before it, and how long it stays low, in ns (R169). -/
structure Selection where
  dt : Nat
  low : Nat
  deriving DecidableEq, Repr

/-- The commands and events of the AV2416, one constructor per row of the table. -/
inductive Instr where
  /-- PROFILE (R4): the payload bytes that arrived before SVC_CSN rose. -/
  | profile (dt : Nat) (payload : List Byte)
  /-- MESH (R21, R22): the payload bytes that arrived before SVC_CSN rose. -/
  | mesh (dt : Nat) (payload : List Byte)
  /-- START (R9). -/
  | start (dt : Nat)
  /-- STOP (R14). -/
  | stop (dt : Nat)
  /-- RESET (R16), and what SEAM shows then, which the line monitor goes on from where the soft reset ends a message on the
  line (R32, R46). -/
  | reset (taken : LineAt)
  /-- SAMPLE with mode SINGLE (R144): the channel byte and the mode byte as they arrived. -/
  | sampleSingle (dt : Nat) (channel mode : Byte)
  /-- SAMPLE with mode CONTINUOUS (R144). -/
  | sampleContinuous (dt : Nat) (channel mode : Byte)
  /-- SAMPLE with mode STOP (R144). -/
  | sampleStop (dt : Nat) (channel mode : Byte)
  /-- STATUS, at the end of its command byte (R170, R174). -/
  | status (dt : Nat)
  /-- PEERS (R175). -/
  | peers (dt : Nat)
  /-- COUNTERS (R176). -/
  | counters (dt : Nat)
  /-- TRAP (R164). -/
  | trap (dt : Nat)
  /-- READSAMPLE (R146). -/
  | readSample (dt : Nat)
  /-- A transaction whose command byte names no command (R171). -/
  | unknown (dt : Nat) (code : Byte)
  /-- An action transaction that ends before its full payload (R171): its command byte and what arrived. -/
  | length (dt : Nat) (code : Byte) (payload : List Byte)
  /-- RSTN goes low (R17). -/
  | hardwareReset (dt : Nat)
  /-- RSTN is released (R17, R179). -/
  | rstnRelease (dt : Nat)
  /-- The frame timer reaches the period end (R70). -/
  | frameStart (dt : Nat) (order : SameInstant)
  /-- The instant C before the period end (R72). -/
  | cutoff (dt : Nat)
  /-- The due station opens a start mark, or joins one whose first edge fell `joined` ns ago (R37). -/
  | startMarkBegin (dt : Nat) (joined : Nat)
  /-- A value sample of the arbitration field is dominant where this station sent 1 (R38). -/
  | arbitrationLost (dt : Nat)
  /-- A sample of the message this station sends finds the line so, a bit fault (R39). -/
  | bitFault (dt : Nat) (line : LineLevel)
  /-- The last CRC cell of this station's message ends (R41). -/
  | messageComplete (dt : Nat)
  /-- A queued PULSE reaches its deadline (R42). -/
  | pulseExpired (dt : Nat)
  /-- The line has been dominant for 8 bit times (R43). -/
  | stuck (dt : Nat)
  /-- The quiet count reaches 40 while STUCK (R43). -/
  | linkNormal (dt : Nat)
  /-- A start mark, at the sample that decides it: the levels (true dominant) at the value samples of cells 2, 3
  and 4, and how long the line has stood at its present level (R33). -/
  | startMarkRecognised (dt : Nat) (cell2 cell3 cell4 : Bool) (run : Nat)
  /-- A message being received ends short, at the deciding instant; `run` is how long the line has stood at its
  present level (R44). -/
  | messageEndedShort (dt : Nat) (cause : ShortCause) (run : Nat)
  /-- The end of a received PULSE: the sender, payload and CRC bits as sampled (R45, R54, R180). -/
  | pulse (dt : Nat) (sender : StationNo) (payload : BitVec 64) (crc : Byte)
  /-- The end of a received READY (R45, R55, R180). -/
  | ready (dt : Nat) (sender : StationNo) (payload : BitVec 16) (crc : Byte)
  /-- The end of a received LEAVE (R45, R56, R180). -/
  | leave (dt : Nat) (sender : StationNo) (payload : BitVec 8) (crc : Byte)
  /-- At an own frame start, a peer's silence count stands at the silence limit (R57). -/
  | silent (dt : Nat) (peer : StationNo) (order : SameInstant)
  /-- At an own frame start, the unheard count stands at the silence limit (R59). -/
  | isolated (dt : Nat) (order : SameInstant)
  /-- The cold-start test of the fourth own frame start after START (R75). -/
  | coldStartTest (dt : Nat) (order : SameInstant)
  /-- The orphan test of an own frame start at which the orphan count stands at 4 (R76). -/
  | orphanTest (dt : Nat) (order : SameInstant)
  /-- At an own frame start, the lock-timeout count reaches the lock timeout (R11). -/
  | lockTimeout (dt : Nat) (order : SameInstant)
  /-- The last vertex of a pass has been computed (R108). -/
  | passComplete (dt : Nat)
  /-- A conversion of an AUTO sequence completes with this code (R139). -/
  | conversionComplete (dt : Nat) (code : BitVec 12)
  /-- A manual conversion completes with this code (R145). -/
  | manualConversionComplete (dt : Nat) (code : BitVec 12)
  /-- PXI_FS (R152, R153). -/
  | inputFrameStart (dt : Nat)
  /-- A pixel with PXI_DE asserted (R154). -/
  | inputPixel (dt : Nat) (pixel : Pixel)
  /-- PXI_DE released at the end of a line that is not the trailer line (R152, R154). -/
  | lineEnd (dt : Nat)
  /-- PXI_DE released at the end of the trailer line (R156). -/
  | trailerLineEnd (dt : Nat)
  /-- 2 x P without an input frame start (R158). -/
  | inputLost (dt : Nat)
  /-- The memory completes a burst of the writer, a discarded one too (R154, R162). -/
  | writeBurst (dt : Nat)
  /-- The memory completes a burst of the reader, a discarded one too, returning these bytes upset (R160, R163). -/
  | readBurst (dt : Nat) (upsets : List Upset)
  /-- An output pixel's due instant (R119, R125). -/
  | pixelDue (dt : Nat)
  /-- A dominant run of `width` ns ends without opening a start mark (R32). -/
  | strayPulse (dt : Nat) (width : Nat)
  /-- The end of cell 10 of this station's message (R38). -/
  | arbitrationFieldEnd (dt : Nat)
  /-- SVC_CSN falls, and stays low for a while (R169). -/
  | transactionBegin (select : Selection)
  deriving DecidableEq, Repr

end Sys2Proof
end

