-- ==== Sys2Proof/Decode.lean ====
section
/-! DEFINITION. The bytes that the bits of SVC_SDI form (R169), the command byte of the service port (R185), the payload
each action command needs (R170), the row that a transaction's bits and bytes name, and `decodeTableWord` over the rows of spec/opcode_table.json that give bits: the table gives
none. -/

namespace Sys2Proof

/-- The number that bits make, most significant bit first. -/
def numberOf (bits : List Bool) : Nat := bits.foldl (fun n b => 2 * n + b.toNat) 0

/-- The bytes that a transaction's bits form, most significant bit first and eight at a time; a final partial byte is
discarded (R169). -/
def bytesOfBits : List Bool → List Byte
  | b7 :: b6 :: b5 :: b4 :: b3 :: b2 :: b1 :: b0 :: rest =>
    BitVec.ofNat 8 (numberOf [b7, b6, b5, b4, b3, b2, b1, b0]) :: bytesOfBits rest
  | _ => []

/-- The commands that a command byte names (R185). -/
inductive CommandName where
  | profile | mesh | start | stop | reset | sample
  | status | peers | counters | trap | readSample
  deriving DecidableEq, Repr

/-- The command code table of R185; any other value names no command. -/
def decodeCommand (code : Byte) : Option CommandName :=
  match code.toNat with
  | 0x10 => some .profile
  | 0x11 => some .mesh
  | 0x20 => some .start
  | 0x21 => some .stop
  | 0x2F => some .reset
  | 0x30 => some .sample
  | 0x80 => some .status
  | 0x81 => some .peers
  | 0x82 => some .counters
  | 0x83 => some .trap
  | 0x84 => some .readSample
  | _ => none

/-- The records a MESH payload carries: its count byte, taken as at most 64 (R21); 0 before that byte has arrived. -/
def meshCount (payload : List Byte) : Nat :=
  min (payload.getD 2 0).toNat Config.meshRun

/-- The full payload of an action command in bytes, as far as `payload` tells it (R170); `none` for a read command. -/
def payloadNeeded (c : CommandName) (payload : List Byte) : Option Nat :=
  match c with
  | .profile => some Config.profileBytes
  | .mesh => some (3 + Config.vertexBytes * meshCount payload)
  | .start => some 0
  | .stop => some 0
  | .reset => some 0
  | .sample => some 2
  | .status => none
  | .peers => none
  | .counters => none
  | .trap => none
  | .readSample => none

/-- An action transaction with this command byte and payload ended before its full payload had arrived (R171). -/
def shortTransaction (code : Byte) (payload : List Byte) : Bool :=
  match (decodeCommand code).bind fun c => payloadNeeded c payload with
  | some n => payload.length < n
  | none => false

/-- The row that SAMPLE's payload names by its mode byte: SINGLE 0, CONTINUOUS 1, STOP 2; a byte that names no mode comes
with the last and is refused by its own check (R144, R185; assumption log, entry 17). -/
def sampleInstr (dt : Nat) (channel mode : Byte) : Instr :=
  match mode.toNat with
  | 0 => .sampleSingle dt channel mode
  | 1 => .sampleContinuous dt channel mode
  | _ => .sampleStop dt channel mode

/-- The row that a transaction with this command byte and these payload bytes makes (R169, R170, R171, R185): for a read
command at the end of its command byte, for every other at the rise of SVC_CSN, `dt` ns after the command before it. What
SEAM shows at that instant, which RESET alone needs, is `line`. -/
def transactionInstr (dt : Nat) (line : LineLevel) (code : Byte) (payload : List Byte) : Instr :=
  match decodeCommand code with
  | none => .unknown dt code
  | some c =>
    if shortTransaction code payload then .length dt code payload
    else
      match c with
      | .profile => .profile dt payload
      | .mesh => .mesh dt payload
      | .start => .start dt
      | .stop => .stop dt
      | .reset => .reset ⟨dt, line⟩
      | .sample => sampleInstr dt (payload.getD 0 0) (payload.getD 1 0)
      | .status => .status dt
      | .peers => .peers dt
      | .counters => .counters dt
      | .trap => .trap dt
      | .readSample => .readSample dt

/-- The row that the bits of SVC_SDI sampled in a transaction make: their first eight are the command byte, those after
it the payload; none while the command byte is incomplete, and then the transaction changes nothing (R169). -/
def bitsInstr (dt : Nat) (line : LineLevel) (bits : List Bool) : Option Instr :=
  match bytesOfBits bits with
  | [] => none
  | code :: payload => some (transactionInstr dt line code payload)

/-- The command a word of the table's bits spells. No row of spec/opcode_table.json gives bits, so no word spells a
command. -/
def decodeTableWord (_nbits _w : Nat) : Option Instr := none

end Sys2Proof
end

