-- ==== Sys2Proof/Machine/State.lean ====
section
/-! DEFINITION. The state of the block: one record per block of the manual, the waiting commands, and reset.

Instants are counted in nanoseconds of the part's timebase, except where a field says microseconds. -/

namespace Sys2Proof.Machine

/-! ### Station Controller (R1) -/

/-- The station states (01_stations_profiles_and_show_states.md, Station states). -/
inductive ShowState where
  | config | joining | showing | dark | stopping
  deriving DecidableEq, Repr

/-- The transfer curves (R126). -/
inductive Curve where
  | linear | power22 | power24
  deriving DecidableEq, Repr

/-- The lamp modes (09_lamp_sensing.md, Channels and the sampler's state). -/
inductive LampMode where
  | single | dual
  deriving DecidableEq, Repr

/-- The result codes of R172. -/
inductive ResultCode where
  | ok | busy | badField | badVertex | noProfile | noMesh | notRunning | length | unknown
  deriving DecidableEq, Repr

/-- The 26 fields of the profile record, in record order (R4, R5). -/
structure Profile where
  station : StationNo
  period : Nat
  outWidth : Nat
  outHeight : Nat
  inWidth : Nat
  inHeight : Nat
  curve : Curve
  lampMode : LampMode
  dark0 : Nat
  rated0 : Nat
  dark1 : Nat
  rated1 : Nat
  blackStep : Nat
  tMin : Nat
  tReturn : Nat
  lStep : Nat
  silenceLimit : Nat
  lockTolerance : Nat
  unlockThreshold : Nat
  freeEnter : Nat
  freeExit : Nat
  slew : Nat
  cutoffLead : Nat
  lockTimeout : Nat
  retryLimit : Nat
  glitchWidth : Nat
  deriving DecidableEq, Repr

/-- The profile after hardware reset: every field 0, which reads as curve LINEAR and lamp mode SINGLE (R1, R183). -/
def Profile.zero : Profile :=
  { station := 0, period := 0, outWidth := 0, outHeight := 0, inWidth := 0, inHeight := 0, curve := .linear,
    lampMode := .single, dark0 := 0, rated0 := 0, dark1 := 0, rated1 := 0, blackStep := 0, tMin := 0, tReturn := 0,
    lStep := 0, silenceLimit := 0, lockTolerance := 0, unlockThreshold := 0, freeEnter := 0, freeExit := 0, slew := 0,
    cutoffLead := 0, lockTimeout := 0, retryLimit := 0, glitchWidth := 0 }

/-- The station record of R1. -/
@[ext] structure Station where
  state : ShowState
  profile : Profile
  profileValid : Bool
  domeTag : BitVec 5
  clamped : Bool
  firstClamped : Nat
  joinCount : Nat
  lockTimeoutCount : Nat
  /-- The JOINING lock condition has been waived (R11). -/
  lockWaived : Bool
  /-- The model's own: the instant, in ns, at which JOINING was last left by its exit test; it lets a change of L_ann at
  that same instant decide the exit (R10). -/
  leftJoining : Option Nat
  lastResult : ResultCode
  lastIndex : Nat
  deriving DecidableEq, Repr

/-! ### Mesh Table (R19, R24, R26) -/

/-- One coverer entry of a vertex record (R19). -/
structure Coverer where
  peer : StationNo
  ramp : Nat
  deriving DecidableEq, Repr

/-- The vertex record of R19. -/
structure Vertex where
  u : Nat
  v : Nat
  inside : Bool
  rSelf : Nat
  coverers : List Coverer
  deriving DecidableEq, Repr

/-- The mesh: the written vertices with their indices rising (a vertex not listed is unmarked and blank), the count of
marked vertices and the neighbour set. -/
@[ext] structure Mesh where
  records : List (Nat × Vertex)
  marked : Nat
  neighbours : List StationNo
  deriving DecidableEq, Repr

/-- The unmarked mesh (R28). -/
def Mesh.blank : Mesh := { records := [], marked := 0, neighbours := [] }

/-! ### Seam Link Controller (R35 to R46) -/

/-- The lock states (R69). -/
inductive LockState where
  | idle | seeking | locked | free | reference | hold
  deriving DecidableEq, Repr

/-- A LEAVE as requested (R35, R48). -/
structure LeaveRequest where
  reason : BitVec 4
  /-- It is the LEAVE requested by STOP. -/
  forStop : Bool
  deriving DecidableEq, Repr

/-- A PULSE as requested: the fields of R47 but for the delay, and the requesting own frame start in µs (R35). -/
structure PulseRequest where
  beat : BitVec 8
  shown : FrameNo
  level : BitVec 16
  depth : BitVec 2
  state : BitVec 2
  lock : BitVec 3
  tag : BitVec 5
  frameStart : Nat
  deriving DecidableEq, Repr

/-- A message in its slot of the transmit queue (R35). -/
structure Queued (α : Type) where
  msg : α
  retries : Nat
  /-- It returned to the queue after a bit fault (R36, R39). -/
  retried : Bool
  deriving DecidableEq, Repr

/-- The message a transmitter holds on the line, a PULSE with the delay filled at its start mark (R37). -/
inductive Body where
  | leave (m : LeaveRequest)
  | ready (frame : FrameNo)
  | pulse (m : PulseRequest) (delay : BitVec 12)
  deriving DecidableEq, Repr

/-- The on-line message (R35): its body, its retry count, the first dominant edge of its start mark in ns, and whether it
has passed its arbitration field. -/
structure OnLine where
  body : Body
  retries : Nat
  t0 : Nat
  sending : Bool
  deriving DecidableEq, Repr

/-- The transmit queue: one slot for each kind (R35). -/
@[ext] structure TransmitQueue where
  leave : Option (Queued LeaveRequest)
  ready : Option (Queued FrameNo)
  pulse : Option (Queued PulseRequest)
  deriving DecidableEq, Repr

/-- The empty transmit queue. -/
def TransmitQueue.empty : TransmitQueue := { leave := none, ready := none, pulse := none }

/-- The receiver (R33, R44). -/
inductive Receiver where
  /-- It has been stopped by an entry to CONFIG (R44, R46). -/
  | stopped
  /-- It waits for a start mark. -/
  | waiting
  /-- It waits for the line to be recessive before a further start mark can begin (R33). -/
  | spent
  /-- A message with start mark at `t0` (ns) is being received; `own` says this station aborted it (R39). -/
  | receiving (t0 : Nat) (own : Bool)
  deriving DecidableEq, Repr

/-- The link condition (R43). -/
inductive LinkCondition where
  | normal | stuck
  deriving DecidableEq, Repr

/-- The Seam Link Controller. -/
@[ext] structure Link where
  queue : TransmitQueue
  onLine : Option OnLine
  lastWon : Bool
  condition : LinkCondition
  receiver : Receiver
  /-- The level the line monitor last found, glitches left out: true dominant (R32). -/
  dominant : Bool
  /-- Since when the line has stood at that level, in ns; the quiet count of R32 is measured from here. -/
  since : Nat
  /-- The model's own: the instant of the last START, in ns; a start mark recognised before it is not taken (R44). -/
  listenFrom : Nat
  deriving DecidableEq, Repr

/-! ### Peer Table (R50, R62) -/

/-- The peer statuses (R50). -/
inductive PeerStatus where
  | absent | joining | live | dark | silent | mismatch
  deriving DecidableEq, Repr

/-- The announced station states (R47). -/
inductive AnnouncedState where
  | joining | showing | dark
  deriving DecidableEq, Repr

/-- A peer entry (R50). -/
@[ext] structure PeerEntry where
  status : PeerStatus
  level : Option Nat
  depth : Option Nat
  state : Option AnnouncedState
  lock : Option LockState
  shown : Option FrameNo
  latestReady : Option FrameNo
  silence : Nat
  reason : Option (BitVec 4)
  deriving DecidableEq, Repr

/-- An entry after hardware reset: ABSENT, every field none, count 0 (R50). -/
def PeerEntry.absent : PeerEntry :=
  { status := .absent, level := none, depth := none, state := none, lock := none, shown := none, latestReady := none,
    silence := 0, reason := none }

/-- The view record (R62). -/
structure View where
  alive : List StationNo
  lSelf : Nat
  ceiling : Nat
  kDome : Nat
  serial : BitVec 8
  deriving DecidableEq, Repr

/-- The view held in CONFIG, with the serial as it stands (R64). -/
def View.config (serial : BitVec 8) : View :=
  { alive := [], lSelf := 0, ceiling := 0, kDome := 1, serial := serial }

/-- The table condition (R50). -/
inductive TableCondition where
  | normal | isolated
  deriving DecidableEq, Repr

/-- The Peer Table. The entry at the station's own number is not stored: `ownEntry` computes it from the station's own
blocks (R51). -/
@[ext] structure PeerTable where
  entries : List PeerEntry
  condition : TableCondition
  unheard : Nat
  view : View
  deriving DecidableEq, Repr

/-! ### Cadence Unit (R69) -/

/-- The previous reference PULSE's timing: t_ref in µs and its beat (R69, R77). -/
structure Timing where
  tRef : Int
  beat : BitVec 8
  deriving DecidableEq, Repr

/-- The Cadence Unit's record; instants and lengths in µs (R69). -/
@[ext] structure Cadence where
  running : Bool
  latestFrameStart : Option Nat
  periodEnd : Option Nat
  cutoffTaken : Bool
  baseLength : Nat
  lastPeriod : Option Nat
  frameCount : BitVec 16
  lock : LockState
  reference : Option StationNo
  lockCount : Nat
  orphanCount : Nat
  previous : Option Timing
  /-- The model's own: own frame starts since START, up to 5, which says whether the join window of R9 has ended. -/
  windowCount : Nat
  deriving DecidableEq, Repr

/-! ### Swap Unit (R86) -/

/-- The decision record: none, a HOLD with target none and no slot, or a SWAP with its target and slot (R86). -/
inductive Decision where
  | none
  | hold
  | swap (target : FrameNo) (slot : SlotNo)
  deriving DecidableEq, Repr

/-! ### Weight Engine (R98) -/

/-- One entry of a weight table: image gain and floor (R99). -/
structure Weight where
  gain : Nat
  floor : Nat
  deriving DecidableEq, Repr

/-- The engine states (R98). -/
inductive EngineState where
  | idle | computing | pending
  deriving DecidableEq, Repr

/-- The Weight Engine's record (R98); the pass start is in ns. -/
@[ext] structure WeightEngine where
  engine : EngineState
  again : Bool
  promoted : Bool
  shown : List Weight
  work : List Weight
  copy : View
  position : Nat
  passStart : Option Nat
  passMaximum : Nat
  kLocal : Nat
  saturated : Bool
  /-- The model's own: the instant, in ns, at which a table was last promoted since START; a view change at that same
  instant has the effect of R111. -/
  promotedAt : Option Nat
  deriving DecidableEq, Repr

/-! ### Warp and Blend Pipeline (R118) -/

/-- The output modes (R118). -/
inductive OutputMode where
  | none | black | picture
  deriving DecidableEq, Repr

/-- The Warp and Blend Pipeline's record. The need list of R118 is the frame store's prefetch and need sequence taken
together (`State.needList`). -/
@[ext] structure Pipeline where
  mode : OutputMode
  frameSlot : Option SlotNo
  /-- Line and pixel of the next output pixel. -/
  position : Option (Nat × Nat)
  underrun : Bool
  /-- The model's own: the instant, in ns, at which the output frame in progress began. -/
  frameAt : Nat
  /-- The model's own: the first output line whose need list has not been formed yet (R130). -/
  nextLine : Nat
  /-- Pixels formed and not yet sent, oldest first, each with the instant in ns at which it appears on PXO_D (R119). -/
  inFlight : List (Nat × Pixel)
  deriving DecidableEq, Repr

/-! ### Lamp Sampler (R136) -/

/-- The sampler modes (R136). -/
inductive SamplerMode where
  | off | manualSingle | manualContinuous | auto
  deriving DecidableEq, Repr

/-- The two sensor inputs. -/
inductive Channel where
  | lamp0 | lamp1
  deriving DecidableEq, Repr

/-- A conversion in progress: its channel, its purpose, and the instant in ns at which it completes (R136). -/
structure Conversion where
  channel : Channel
  manual : Bool
  completesAt : Nat
  deriving DecidableEq, Repr

/-- A channel's accumulator: sum and number of unfaulted codes (R136). -/
structure Accumulator where
  sum : Nat
  number : Nat
  deriving DecidableEq, Repr

/-- The manual result (R136). -/
structure ManualResult where
  channel : Channel
  code : BitVec 12
  deriving DecidableEq, Repr

/-- The Lamp Sampler's record (R136). -/
@[ext] structure Lamp where
  mode : SamplerMode
  autoPending : Bool
  stopPending : Bool
  conversion : Option Conversion
  sequences : Nat
  acc0 : Accumulator
  acc1 : Accumulator
  l0 : Nat
  l1 : Nat
  fault0 : Bool
  fault1 : Bool
  lMeas : Nat
  lAnn : Nat
  result : Option ManualResult
  fresh : Bool
  /-- The model's own: the instant, in ns, at which the manual conversion in progress was begun by the completion of the
  one before it; it tells a START at that same instant that no manual conversion is to go on (R147). -/
  repeatedAt : Option Nat
  deriving DecidableEq, Repr

/-! ### Frame Store (R150) -/

/-- A slot record: each field of R151 stands only in the states that have it. -/
inductive Slot where
  | free
  | filling
  | ready (frame : FrameNo) (rank : Nat) (chosen : Bool)
  | shown (frame : FrameNo)
  deriving DecidableEq, Repr

/-- The input port states (R150). -/
inductive InputState where
  | off | waiting | picture | trailer | done
  deriving DecidableEq, Repr

/-- A pixel in the writer FIFO with its place (R150). -/
structure FifoPixel where
  slot : SlotNo
  line : Nat
  column : Nat
  pixel : Pixel
  deriving DecidableEq, Repr

/-- A need list entry: the burst it names, the output line whose list it stands in, and the last pixel of that line that
needs it (R130). -/
structure Need where
  slot : SlotNo
  line : Nat
  column : Nat
  outLine : Nat
  lastX : Nat
  deriving DecidableEq, Repr

/-- A fetched burst (R150): the entry it was fetched for, its failed mark, and its pixels. -/
structure Fetched where
  need : Need
  failed : Bool
  pixels : List Pixel
  deriving DecidableEq, Repr

/-- The owner of the memory (R162). -/
inductive Owner where
  | none | writer | reader
  deriving DecidableEq, Repr

/-- A burst in progress on the memory, bound to its work at its grant (R154, R160); `kept` is false once the pixels to be
written, or the entry being fetched, have been discarded, after which the burst only occupies the memory to its end. -/
inductive Burst where
  | write (slot : SlotNo) (line column : Nat) (kept : Bool)
  | read (need : Need) (kept : Bool)
  deriving DecidableEq, Repr

/-- The memory arbiter (R150, R162). -/
@[ext] structure Arbiter where
  owner : Owner
  /-- The bursts left, the one in progress among them (assumption log, entry 52). -/
  budget : Nat
  /-- The model's own: the owner's burst in progress (R162). -/
  burst : Option Burst
  /-- The model's own: the instant in ns at which the last burst begun ends and the memory is free (R162). -/
  memoryFree : Nat
  /-- The model's own: a frame start has ended the READER's ownership, which goes on to its burst's end (R162). -/
  turnEnds : Bool
  /-- The model's own: the instant at which the present ownership was granted from NONE, its first burst in progress
  (R162). -/
  grantedAt : Option Nat
  deriving DecidableEq, Repr

/-- No ownership, the memory free from `free` on (R162). -/
def Arbiter.idle (free : Nat) : Arbiter :=
  { owner := .none, budget := 0, burst := none, memoryFree := free, turnEnds := false, grantedAt := none }

/-- A FULL parity trap (R164). -/
structure Trap where
  slot : SlotNo
  line : Nat
  column : Nat
  more : Bool
  deriving DecidableEq, Repr

/-- The stacked DRAM, or its parity bits: the cells that differ from 0, addresses strictly rising. -/
abbrev Memory := List Host.Cell

/-- The Frame Store's record (R150); the loss timer start is in µs. -/
@[ext] structure FrameStore where
  slots : List Slot
  port : InputState
  lineCount : Nat
  linePixels : Nat
  damaged : Bool
  trailer : List Pixel
  lossStart : Option Nat
  lost : Bool
  fifo : List FifoPixel
  sequence : List Need
  prefetch : List Fetched
  arb : Arbiter
  trap : Option Trap
  fifoPeakMark : Nat
  prefetchMinMark : Option Nat
  framePeak : Nat
  frameMinimum : Option Nat
  /-- The pixels of the four slots (R150, Slots). -/
  memory : Memory
  /-- The parity bit stored with each byte, as 0 or 1 (R163). -/
  parity : Memory
  /-- The model's own: the last pixel of the line in progress, which fills a short line out (R154). -/
  lineLast : Pixel
  deriving DecidableEq, Repr

/-! ### Service Port (R169, R177) -/

/-- The service port's transaction (R169). -/
inductive Transaction where
  /-- SVC_CSN is high, or the transaction in progress is to be ignored to its end (R179). -/
  | closed
  /-- A transaction has begun and no command has been taken. -/
  | opened
  /-- A read command has been taken; its record is being shifted out. -/
  | reading
  deriving DecidableEq, Repr

/-- The attention causes (R177): each pending or not. -/
@[ext] structure Causes where
  state : Bool
  peer : Bool
  fault : Bool
  input : Bool
  deriving DecidableEq, Repr

/-- No cause pending. -/
def Causes.clear : Causes := { state := false, peer := false, fault := false, input := false }

/-- The Service Port: the transaction, the bits of SVC_SDI taken in it, the bytes that SVC_SDO shifts out after the command
byte (turnaround byte and captured record, R170), and the attention causes. -/
@[ext] structure ServicePort where
  transaction : Transaction
  /-- The instant in ns at which SVC_CSN rises and ends the transaction (R169). -/
  rise : Nat
  /-- The bits of SVC_SDI sampled in the latest transaction, first first (R169); nothing reads them once it has ended. -/
  received : List Bool
  shiftOut : List Byte
  causes : Causes
  deriving DecidableEq, Repr

/-- The nineteen counters in the order of R176. -/
@[ext] structure Counters where
  lostArb : Nat
  bitFault : Nat
  txDrop : Nat
  expired : Nat
  checkFail : Nat
  duplicate : Nat
  dropped : Nat
  stale : Nat
  short : Nat
  untagged : Nat
  overrun : Nat
  parity : Nat
  swaps : Nat
  holds : Nat
  swapMiss : Nat
  diverge : Nat
  clipped : Nat
  underrun : Nat
  saturated : Nat
  deriving DecidableEq, Repr

/-- Every counter 0. -/
def Counters.zero : Counters :=
  { lostArb := 0, bitFault := 0, txDrop := 0, expired := 0, checkFail := 0, duplicate := 0, dropped := 0, stale := 0,
    short := 0, untagged := 0, overrun := 0, parity := 0, swaps := 0, holds := 0, swapMiss := 0, diverge := 0,
    clipped := 0, underrun := 0, saturated := 0 }

/-! ### The whole part -/

/-- The state of the part. -/
@[ext]
structure State where
  /-- Commands waiting, first in first out. -/
  pending : List Instr
  /-- The present instant in ns of the timebase. -/
  now : Nat
  /-- RSTN is held low (R17). -/
  rstnLow : Bool
  sc : Station
  mt : Mesh
  slc : Link
  pt : PeerTable
  cu : Cadence
  swu : Decision
  we : WeightEngine
  wbp : Pipeline
  ls : Lamp
  fs : FrameStore
  svp : ServicePort
  counters : Counters
  deriving DecidableEq, Repr

/-- The part's faults. None: the manual gives no command of the table an effect that stops the part, so no meaning ever
raises a fault (NOTES.md, Stops). -/
inductive Fault where
  deriving DecidableEq, Repr

/-- Why a command is refused. -/
inductive Refusal where
  /-- Raised by `exec` alone, for a command whose meaning is not written yet: safe, since the machine stops. No arm
  of `exec` raises it now. -/
  | notModelled (mnemonic : String)
  deriving DecidableEq, Repr

/-! ### Reset -/

/-- The Station Controller after hardware reset (R1). -/
def Station.reset : Station :=
  { state := .config, profile := Profile.zero, profileValid := false, domeTag := 0, clamped := false,
    firstClamped := 0, joinCount := 0, lockTimeoutCount := 0, lockWaived := false, leftJoining := none, lastResult := .ok,
    lastIndex := 0 }

/-- The Seam Link Controller after hardware reset (R46), its quiet count starting at `now` (R32). -/
def Link.reset (now : Nat) : Link :=
  { queue := TransmitQueue.empty, onLine := none, lastWon := false, condition := .normal, receiver := .waiting,
    dominant := false, since := now, listenFrom := 0 }

/-- The Peer Table after hardware reset (R50, R64). -/
def PeerTable.reset : PeerTable :=
  { entries := List.replicate 16 PeerEntry.absent, condition := .normal, unheard := 0, view := View.config 0 }

/-- The Cadence Unit after hardware reset (R69). -/
def Cadence.reset : Cadence :=
  { running := false, latestFrameStart := none, periodEnd := none, cutoffTaken := false, baseLength := 0,
    lastPeriod := none, frameCount := 0, lock := .idle, reference := none, lockCount := 0, orphanCount := 0,
    previous := none, windowCount := 0 }

/-- The Weight Engine after hardware reset (R98, R117). -/
def WeightEngine.reset : WeightEngine :=
  { engine := .idle, again := false, promoted := false, shown := [], work := [], copy := View.config 0, position := 0,
    passStart := none, passMaximum := 1, kLocal := 1, saturated := false, promotedAt := none }

/-- The Warp and Blend Pipeline after hardware reset (R118). -/
def Pipeline.reset : Pipeline :=
  { mode := .none, frameSlot := none, position := none, underrun := false, frameAt := 0, nextLine := 0, inFlight := [] }

/-- The Lamp Sampler after hardware reset (R136). -/
def Lamp.reset : Lamp :=
  { mode := .off, autoPending := false, stopPending := false, conversion := none, sequences := 0,
    acc0 := { sum := 0, number := 0 }, acc1 := { sum := 0, number := 0 }, l0 := 0, l1 := 0, fault0 := false,
    fault1 := false, lMeas := 0, lAnn := 0, result := none, fresh := false,
    repeatedAt := none }

/-- The Frame Store after hardware reset (R150), with the DRAM contents given. -/
def FrameStore.reset (memory parity : Memory) : FrameStore :=
  { slots := List.replicate 4 Slot.free, port := .off, lineCount := 0, linePixels := 0, damaged := false, trailer := [],
    lossStart := none, lost := false, fifo := [], sequence := [], prefetch := [], arb := Arbiter.idle 0, trap := none,
    fifoPeakMark := 0, prefetchMinMark := none, framePeak := 0, frameMinimum := none, memory := memory, parity := parity,
    lineLast := 0 }

/-- The Service Port after hardware reset (R179). -/
def ServicePort.reset : ServicePort :=
  { transaction := .closed, rise := 0, received := [], shiftOut := [], causes := Causes.clear }

/-- The part just after RSTN has been released at instant 0 (R17): every field at its hardware reset value, memory with
nothing listed, no command waiting. -/
def State.reset : State :=
  { pending := [], now := 0, rstnLow := false, sc := Station.reset, mt := Mesh.blank, slc := Link.reset 0,
    pt := PeerTable.reset, cu := Cadence.reset, swu := Decision.none, we := WeightEngine.reset, wbp := Pipeline.reset,
    ls := Lamp.reset, fs := FrameStore.reset [] [], svp := ServicePort.reset, counters := Counters.zero }

/-! ### One update per block -/

/-- Update the Station Controller. -/
def State.modSc (f : Station → Station) (s : State) : State := { s with sc := f s.sc }

/-- Update the Mesh Table. -/
def State.modMt (f : Mesh → Mesh) (s : State) : State := { s with mt := f s.mt }

/-- Update the Seam Link Controller. -/
def State.modSlc (f : Link → Link) (s : State) : State := { s with slc := f s.slc }

/-- Update the Peer Table. -/
def State.modPt (f : PeerTable → PeerTable) (s : State) : State := { s with pt := f s.pt }

/-- Update the Cadence Unit. -/
def State.modCu (f : Cadence → Cadence) (s : State) : State := { s with cu := f s.cu }

/-- Write the Swap Unit's decision record. -/
def State.setSwu (d : Decision) (s : State) : State := { s with swu := d }

/-- Update the Weight Engine. -/
def State.modWe (f : WeightEngine → WeightEngine) (s : State) : State := { s with we := f s.we }

/-- Update the Warp and Blend Pipeline. -/
def State.modWbp (f : Pipeline → Pipeline) (s : State) : State := { s with wbp := f s.wbp }

/-- Update the Lamp Sampler. -/
def State.modLs (f : Lamp → Lamp) (s : State) : State := { s with ls := f s.ls }

/-- Update the Frame Store. -/
def State.modFs (f : FrameStore → FrameStore) (s : State) : State := { s with fs := f s.fs }

/-- Update the Service Port. -/
def State.modSvp (f : ServicePort → ServicePort) (s : State) : State := { s with svp := f s.svp }

/-- Update the counters. -/
def State.modCounters (f : Counters → Counters) (s : State) : State := { s with counters := f s.counters }

/-- Let `dt` ns pass. -/
def State.advance (dt : Nat) (s : State) : State := { s with now := s.now + dt }

end Sys2Proof.Machine
end

