-- ==== Sys2Proof/Machine/Ops.lean ====
section
/-! DEFINITION. The named operations every block uses: arithmetic of the conventions, bytes, the CRC, the frame
store's memory, and how a command falls at its instant. -/

namespace Sys2Proof.Machine

/-! ### Arithmetic (00_scope.md, Conventions) -/

/-- A quotient rounded half up: floor((N + floor(D/2)) / D). -/
def roundDiv (n d : Nat) : Nat := (n + d / 2) / d

/-- A value brought to the nearest end of `lo..hi` (R5). -/
def clampTo (lo hi v : Nat) : Nat := if v < lo then lo else if hi < v then hi else v

/-- Frame `a` is newer than frame `b`: (a − b) mod 65536 lies in 1..32767. -/
def newer (a b : FrameNo) : Bool := decide (1 ≤ (a - b).toNat) && decide ((a - b).toNat ≤ 32767)

/-- Frame `a` is older than frame `b`. -/
def older (a b : FrameNo) : Bool := newer b a

/-- Raise a counter by `n`: 16 bits, saturating at 65535. -/
def countBy (n c : Nat) : Nat := min Config.counterMax (c + n)

/-- Raise a counter by one. -/
def count (c : Nat) : Nat := countBy 1 c

/-- An instant in whole microseconds, truncated (Conventions, Time). -/
def micros (ns : Nat) : Nat := ns / Config.nsPerMicro

/-- An instant or length of whole microseconds, in ns. -/
def toNs (us : Nat) : Nat := us * Config.nsPerMicro

/-- The greatest `n` below `2 ^ bits` on top of `base` that passes `ok`, found bit by bit; `ok` holds up to some number
and fails above it. -/
def greatest (ok : Nat → Bool) : Nat → Nat → Nat
  | 0, base => base
  | bits + 1, base => if ok (base + 2 ^ bits) then greatest ok bits (base + 2 ^ bits) else greatest ok bits base

/-! ### Lists kept by place -/

/-- Replace the element at place `i`. -/
def setAt {α : Type} (i : Nat) (a : α) (l : List α) : List α := l.set i a

/-- The lowest station number of a list, if it has one. -/
def lowest : List StationNo → Option StationNo
  | [] => none
  | a :: l =>
    match lowest l with
    | none => some a
    | some b => some (if b < a then b else a)

/-! ### Bytes and bits (R169, R180) -/

/-- Two bytes, most significant first. -/
def be16 (v : Nat) : List Byte := [BitVec.ofNat 8 (v / 256), BitVec.ofNat 8 v]

/-- One byte. -/
def byteOf (v : Nat) : Byte := BitVec.ofNat 8 v

/-- The whole number in the byte at `offset`; bytes beyond the end read as 0. -/
def byteAt (l : List Byte) (offset : Nat) : Nat := (l.getD offset 0).toNat

/-- The whole number in two bytes at `offset`, most significant first. -/
def wordAt (l : List Byte) (offset : Nat) : Nat := byteAt l offset * 256 + byteAt l (offset + 1)

/-- A byte from eight marks, `b0` the least significant. -/
def flagByte (b0 b1 b2 b3 b4 b5 b6 b7 : Bool) : Byte :=
  byteOf (b0.toNat + 2 * b1.toNat + 4 * b2.toNat + 8 * b3.toNat + 16 * b4.toNat + 32 * b5.toNat + 64 * b6.toNat
    + 128 * b7.toNat)

/-- The bits of a field in the order its cells are sent: most significant first (R180). -/
def bitsOf {n : Nat} (v : BitVec n) : List Bool := (List.range n).map fun i => v.getMsbD i

/-! ### The CRC (R7, R34) -/

/-- One bit through the CRC register: compare the top bit with the incoming one, shift, and invert bits 0, 1 and 2 where
they differ (R34). -/
def crcStep (reg : Byte) (bit : Bool) : Byte :=
  if reg.msb == bit then reg <<< 1 else (reg <<< 1) ^^^ 0x07#8

/-- The CRC register after a run of bits, starting at 0 (R34). -/
def crc8 (bits : List Bool) : Byte := bits.foldl crcStep 0

/-! ### The frame store's memory (R150, R163) -/

/-- The byte that an address which no cell lists reads as: 0 (assumption log, entry 12). -/
def Memory.unlisted : Byte := 0

/-- The canonical form: addresses strictly rising, and no cell equal to what an unlisted address reads as. -/
def Memory.wf : Memory → Bool
  | [] => true
  | [c] => c.2 != Memory.unlisted
  | c :: d :: m => (c.2 != Memory.unlisted && decide (c.1 < d.1)) && Memory.wf (d :: m)

/-- Read one byte. -/
def Memory.read : Memory → Nat → Byte
  | [], _ => Memory.unlisted
  | c :: m, a => if c.1 = a then c.2 else Memory.read m a

/-- Put a cell before the cells of higher addresses, or drop it where it reads as unlisted. -/
def Memory.consCell (a : Nat) (b : Byte) (m : Memory) : Memory :=
  if b = Memory.unlisted then m else (a, b) :: m

/-- Write one byte, keeping the canonical form. -/
def Memory.write : Memory → Nat → Byte → Memory
  | [], a, b => Memory.consCell a b []
  | c :: m, a, b =>
    if a < c.1 then Memory.consCell a b (c :: m)
    else if a = c.1 then Memory.consCell a b m
    else c :: Memory.write m a b

/-- Write a run of bytes from an address on. -/
def Memory.writeBytes : Memory → Nat → List Byte → Memory
  | m, _, [] => m
  | m, a, b :: l => Memory.writeBytes (Memory.write m a b) (a + 1) l

/-- Read a run of `n` bytes from an address on. -/
def Memory.readBytes (m : Memory) (a : Nat) : Nat → List Byte
  | 0 => []
  | n + 1 => Memory.read m a :: Memory.readBytes m (a + 1) n

/-- The parity bit of a byte: set when the byte has an odd number of ones (R163; assumption log, entry 13). -/
def parityBit (b : Byte) : Byte := ((List.range 8).foldl (fun p i => p ^^ b.getLsbD i) false).toNat

/-- Bursts in a line of `wi` pixels (10_frame_store_and_pixel_input.md, Slots). -/
def burstsPerLine (wi : Nat) : Nat := (wi + Config.burstPixels - 1) / Config.burstPixels

/-- The address of a burst's first byte (assumption log, entry 11). -/
def burstAddress (wi : Nat) (slot : SlotNo) (line column : Nat) : Nat :=
  slot.val * Config.slotBytes + (line * burstsPerLine wi + column) * Config.burstBytes

/-- A pixel's four bytes in the memory (assumption log, entry 11). -/
def pixelBytes (p : Pixel) : List Byte :=
  let n := p.toNat
  [byteOf (n / 16777216), byteOf (n / 65536), byteOf (n / 256), byteOf n]

/-- The pixels held in a burst's bytes. -/
def pixelsOf : List Byte → List Pixel
  | a :: b :: c :: d :: l =>
    BitVec.ofNat 30 (a.toNat * 16777216 + b.toNat * 65536 + c.toNat * 256 + d.toNat) :: pixelsOf l
  | _ => []

/-! ### How a command falls at its instant -/

/-- The running states: JOINING, SHOWING, DARK and STOPPING. -/
def ShowState.running : ShowState → Bool
  | .config => false
  | .joining => true
  | .showing => true
  | .dark => true
  | .stopping => true

/-- The station is in a running state. -/
def State.running (s : State) : Bool := s.sc.state.running

/-- The held profile. -/
def State.profile (s : State) : Profile := s.sc.profile

/-- An event that falls `dt` ns after the command before it: time passes, and unless RSTN is low (R17, R179) the event
has its effect `f`. -/
def event (dt : Nat) (s : State) (f : State → State) : Host.Outcome State Fault Refusal :=
  .next (if s.rstnLow then s.advance dt else f (s.advance dt))

/-- An event that the part meets only where `due` holds; elsewhere no such event occurs and nothing but time moves
(assumption log, entry 3). -/
def eventWhen (dt : Nat) (s : State) (due : State → Bool) (f : State → State) : Host.Outcome State Fault Refusal :=
  event dt s fun s => if due s then f s else s

/-- The present instant is the latest own frame start. -/
def State.atFrameStart (s : State) : Bool :=
  match s.cu.latestFrameStart with
  | some f => s.now == toNs f
  | none => false

end Sys2Proof.Machine
end

