-- ==== Sys2Proof/Machine/Flags.lean ====
section
/-! DEFINITION. Attention causes, the pins of the service port, the last result and the nineteen counters. -/

namespace Sys2Proof.Machine

/-! ### Attention (R177, R178) -/

/-- Raise the STATE cause. -/
def raiseState (s : State) : State := s.modSvp fun p => { p with causes := { p.causes with state := true } }

/-- Raise the PEER cause. -/
def raisePeer (s : State) : State := s.modSvp fun p => { p with causes := { p.causes with peer := true } }

/-- Raise the FAULT cause. -/
def raiseFault (s : State) : State := s.modSvp fun p => { p with causes := { p.causes with fault := true } }

/-- Raise the INPUT cause. -/
def raiseInput (s : State) : State := s.modSvp fun p => { p with causes := { p.causes with input := true } }

/-- Some cause is pending. -/
def Causes.any (c : Causes) : Bool := c.state || c.peer || c.fault || c.input

/-- SVC_ATNN is driven low: one or more causes are pending (R178), and RSTN is not low (R17). -/
def State.attentionLow (s : State) : Bool := !s.rstnLow && s.svp.causes.any

/-- SVC_CSN is low in a transaction that the port takes (R169, R179). -/
def State.csnLow (s : State) : Bool := s.svp.transaction != .closed && decide (s.now < s.svp.rise)

/-- SVC_SDO is driven: SVC_CSN is low in a transaction the port takes (R169), and RSTN is not low (R179). In a
transaction that is ignored to its end after RSTN has risen it stays released, which R179 leaves open (assumption log,
entry 37). -/
def State.sdoDriven (s : State) : Bool := !s.rstnLow && s.csnLow

/-- A rising edge of SVC_SCK, `dt` ns from now, with SVC_SDI at `bit`: the port samples it while SVC_CSN is low, and
ignores it while SVC_CSN is high, in a transaction that is ignored and while RSTN is low (R169, R179). No row of the table
is an edge of SVC_SCK: this is the pins' own operation, beside the queue (assumption log, entry 24). -/
def State.clockIn (dt : Nat) (bit : Bool) (s : State) : State :=
  let t := s.advance dt
  if t.sdoDriven then t.modSvp fun p => { p with received := p.received ++ [bit] } else t

/-- The bit SVC_SDO carries after the `k`-th falling edge of SVC_SCK since the command byte, counted from 0: the
turnaround byte, then the record, most significant bit first, then 0 (R169, R170). -/
def State.sdoBit (s : State) (k : Nat) : Bool :=
  s.sdoDriven && (s.svp.shiftOut.getD (k / 8) 0).getMsbD (k % 8)

/-- The bit SVC_SDO carries after the falling edge of SVC_SCK that follows the last bit sampled: 0 up to the eighth bit's
command byte, then what is shifted out, from the falling edge after that bit on (R169, R170). -/
def State.sdo (s : State) : Bool := decide (8 ≤ s.svp.received.length) && s.sdoBit (s.svp.received.length - 8)

/-! ### The last result (R172) -/

/-- Write the last result and its index. -/
def setResult (r : ResultCode) (index : Nat) (s : State) : State :=
  s.modSc fun c => { c with lastResult := r, lastIndex := index }

/-! ### Counters (00_scope.md, Conventions, Counters; R176) -/

/-- Clear every counter. -/
def clearCounters (s : State) : State := s.modCounters fun _ => Counters.zero

/-- Count LOSTARB. -/
def countLostArb (s : State) : State := s.modCounters fun c => { c with lostArb := count c.lostArb }

/-- Count BITFAULT. -/
def countBitFault (s : State) : State := s.modCounters fun c => { c with bitFault := count c.bitFault }

/-- Count TXDROP. -/
def countTxDrop (s : State) : State := s.modCounters fun c => { c with txDrop := count c.txDrop }

/-- Count EXPIRED. -/
def countExpired (s : State) : State := s.modCounters fun c => { c with expired := count c.expired }

/-- Count CHECKFAIL. -/
def countCheckFail (s : State) : State := s.modCounters fun c => { c with checkFail := count c.checkFail }

/-- Count DUPLICATE. -/
def countDuplicate (s : State) : State := s.modCounters fun c => { c with duplicate := count c.duplicate }

/-- Count DROPPED. -/
def countDropped (s : State) : State := s.modCounters fun c => { c with dropped := count c.dropped }

/-- Count STALE. -/
def countStale (s : State) : State := s.modCounters fun c => { c with stale := count c.stale }

/-- Count SHORT. -/
def countShort (s : State) : State := s.modCounters fun c => { c with short := count c.short }

/-- Count UNTAGGED. -/
def countUntagged (s : State) : State := s.modCounters fun c => { c with untagged := count c.untagged }

/-- Count OVERRUN. -/
def countOverrun (s : State) : State := s.modCounters fun c => { c with overrun := count c.overrun }

/-- Count PARITY. -/
def countParity (s : State) : State := s.modCounters fun c => { c with parity := count c.parity }

/-- Count SWAPS. -/
def countSwaps (s : State) : State := s.modCounters fun c => { c with swaps := count c.swaps }

/-- Count HOLDS. -/
def countHolds (s : State) : State := s.modCounters fun c => { c with holds := count c.holds }

/-- Count SWAPMISS. -/
def countSwapMiss (s : State) : State := s.modCounters fun c => { c with swapMiss := count c.swapMiss }

/-- Count DIVERGE. -/
def countDiverge (s : State) : State := s.modCounters fun c => { c with diverge := count c.diverge }

/-- Count CLIPPED. -/
def countClipped (s : State) : State := s.modCounters fun c => { c with clipped := count c.clipped }

/-- Count UNDERRUN. -/
def countUnderrun (s : State) : State := s.modCounters fun c => { c with underrun := count c.underrun }

/-- Raise SATURATED by the vertices at which a branch saturated (R105). -/
def countSaturated (n : Nat) (s : State) : State := s.modCounters fun c => { c with saturated := countBy n c.saturated }

end Sys2Proof.Machine
end

