-- ==== Sys2Proof/Machine/Operands.lean ====
section
/-! DEFINITION. The layouts of 12_formats_and_layouts.md: the profile record, the vertex record, the seam messages, the
trailer and the code tables. -/

namespace Sys2Proof.Machine

/-! ### Codes (R184, R185) -/

/-- The curve code of R7 and R183. -/
def Curve.code : Curve → Nat
  | .linear => 0
  | .power22 => 1
  | .power24 => 2

/-- The station state code (R184). -/
def ShowState.code : ShowState → Nat
  | .config => 0
  | .joining => 1
  | .showing => 2
  | .dark => 3
  | .stopping => 4

/-- The lock code of the seam (R180), with IDLE 5 (R184). -/
def LockState.code : LockState → Nat
  | .seeking => 0
  | .locked => 1
  | .free => 2
  | .reference => 3
  | .hold => 4
  | .idle => 5

/-- The lock state a received lock code stands for: 5, 6 and 7 are taken as SEEKING (R49). -/
def LockState.ofCode (c : BitVec 3) : LockState :=
  match c.toNat with
  | 1 => .locked
  | 2 => .free
  | 3 => .reference
  | 4 => .hold
  | _ => .seeking

/-- The announced state code (R47). -/
def AnnouncedState.code : AnnouncedState → Nat
  | .joining => 0
  | .showing => 1
  | .dark => 2

/-- The announced state a received code stands for; 3 stands for none (R45, R47). -/
def AnnouncedState.ofCode (c : BitVec 2) : Option AnnouncedState :=
  match c.toNat with
  | 0 => some .joining
  | 1 => some .showing
  | 2 => some .dark
  | _ => none

/-- The peer status code (R184). -/
def PeerStatus.code : PeerStatus → Nat
  | .absent => 0
  | .joining => 1
  | .live => 2
  | .dark => 3
  | .silent => 4
  | .mismatch => 5

/-- The slot state code (R184). -/
def Slot.code : Slot → Nat
  | .free => 0
  | .filling => 1
  | .ready _ _ _ => 2
  | .shown _ => 3

/-- The engine state code (R184). -/
def EngineState.code : EngineState → Nat
  | .idle => 0
  | .computing => 1
  | .pending => 2

/-- The sampler mode code (R184). -/
def SamplerMode.code : SamplerMode → Nat
  | .off => 0
  | .manualSingle => 1
  | .manualContinuous => 2
  | .auto => 3

/-- The result code (R185). -/
def ResultCode.code : ResultCode → Nat
  | .ok => 0
  | .busy => 1
  | .badField => 2
  | .badVertex => 3
  | .noProfile => 4
  | .noMesh => 5
  | .notRunning => 6
  | .length => 7
  | .unknown => 8

/-- The channel a SAMPLE channel byte names (R185). -/
def Channel.ofByte (b : Byte) : Option Channel :=
  match b.toNat with
  | 0 => some .lamp0
  | 1 => some .lamp1
  | _ => none

/-! ### The profile record (R183) -/

/-- The profile record as written, each field an unsigned whole number of its width. -/
structure RawProfile where
  station : Nat
  period : Nat
  outWidth : Nat
  outHeight : Nat
  inWidth : Nat
  inHeight : Nat
  curve : Nat
  lampMode : Nat
  dark0 : Nat
  rated0 : Nat
  dark1 : Nat
  rated1 : Nat
  blackStep : Nat
  tMin : Nat
  tReturn : Nat
  lStep : Nat
  silenceLimit : Nat
  lockTolerance : Nat
  unlockThreshold : Nat
  freeEnter : Nat
  freeExit : Nat
  slew : Nat
  cutoffLead : Nat
  lockTimeout : Nat
  retryLimit : Nat
  glitchWidth : Nat
  deriving DecidableEq, Repr

/-- Take the fields of a PROFILE payload at the offsets of R183. -/
def readProfile (l : List Byte) : RawProfile :=
  { station := byteAt l 0, period := wordAt l 1, outWidth := wordAt l 3, outHeight := wordAt l 5,
    inWidth := wordAt l 7, inHeight := wordAt l 9, curve := byteAt l 11, lampMode := byteAt l 12,
    dark0 := wordAt l 13, rated0 := wordAt l 15, dark1 := wordAt l 17, rated1 := wordAt l 19,
    blackStep := wordAt l 21, tMin := wordAt l 23, tReturn := wordAt l 25, lStep := wordAt l 27,
    silenceLimit := byteAt l 29, lockTolerance := wordAt l 30, unlockThreshold := wordAt l 32,
    freeEnter := wordAt l 34, freeExit := wordAt l 36, slew := byteAt l 38, cutoffLead := wordAt l 39,
    lockTimeout := wordAt l 41, retryLimit := byteAt l 43, glitchWidth := byteAt l 44 }

/-- `v` lies in `lo..hi`. -/
def inRange (lo hi v : Nat) : Bool := decide (lo ≤ v) && decide (v ≤ hi)

/-- The structural checks of R4 in index order, each with its field's index. -/
def structuralChecks (r : RawProfile) : List (Nat × Bool) :=
  [ (0, inRange 0 15 r.station),
    (1, inRange 4000 41667 r.period),
    (2, inRange 256 4096 r.outWidth && r.outWidth % 32 == 0),
    (3, inRange 128 2400 r.outHeight && r.outHeight % 32 == 0),
    (4, inRange 256 4096 r.inWidth),
    (5, inRange 128 2400 r.inHeight),
    (6, inRange 0 2 r.curve),
    (7, inRange 0 1 r.lampMode),
    (8, inRange 0 4094 r.dark0),
    (9, inRange 0 4094 r.rated0 && decide (r.dark0 + 256 ≤ r.rated0)),
    (10, r.lampMode != 1 || inRange 0 4094 r.dark1),
    (11, r.lampMode != 1 || (inRange 0 4094 r.rated1 && decide (r.dark1 + 256 ≤ r.rated1))) ]

/-- The index of the first structural field that fails (R4). -/
def structuralFault (r : RawProfile) : Option Nat :=
  ((structuralChecks r).find? fun c => !c.2).map Prod.fst

/-- The curve a curve code names; R4 has refused a code above 2 before this is used. -/
def Curve.ofCode : Nat → Curve
  | 1 => .power22
  | 2 => .power24
  | _ => .linear

/-- The record with its tuning fields clamped in index order, a range taken from an earlier field's value after its own
clamp (R5). -/
def clampProfile (r : RawProfile) : Profile :=
  let tMin := clampTo 8192 32768 r.tMin
  let lockTolerance := clampTo 5 500 r.lockTolerance
  let freeEnter := clampTo 10 2000 r.freeEnter
  { station := Fin.ofNat 16 r.station, period := r.period, outWidth := r.outWidth, outHeight := r.outHeight,
    inWidth := r.inWidth, inHeight := r.inHeight, curve := Curve.ofCode r.curve,
    lampMode := if r.lampMode = 1 then .dual else .single,
    dark0 := r.dark0, rated0 := r.rated0, dark1 := r.dark1, rated1 := r.rated1,
    blackStep := clampTo 0 1024 r.blackStep,
    tMin := tMin,
    tReturn := clampTo tMin 32768 r.tReturn,
    lStep := clampTo 32 2048 r.lStep,
    silenceLimit := clampTo 2 15 r.silenceLimit,
    lockTolerance := lockTolerance,
    unlockThreshold := clampTo (lockTolerance + 1) 2000 r.unlockThreshold,
    freeEnter := freeEnter,
    freeExit := clampTo 1 (freeEnter - 1) r.freeExit,
    slew := clampTo 1 200 r.slew,
    cutoffLead := clampTo 200 (r.period / 4) r.cutoffLead,
    lockTimeout := clampTo 16 1023 r.lockTimeout,
    retryLimit := clampTo 0 7 r.retryLimit,
    glitchWidth := clampTo 0 15 r.glitchWidth }

/-- The index of the first tuning field that clamping changed (R5). -/
def firstClamped (r : RawProfile) : Option Nat :=
  let p := clampProfile r
  ([ (12, r.blackStep, p.blackStep), (13, r.tMin, p.tMin), (14, r.tReturn, p.tReturn), (15, r.lStep, p.lStep),
     (16, r.silenceLimit, p.silenceLimit), (17, r.lockTolerance, p.lockTolerance),
     (18, r.unlockThreshold, p.unlockThreshold), (19, r.freeEnter, p.freeEnter), (20, r.freeExit, p.freeExit),
     (21, r.slew, p.slew), (22, r.cutoffLead, p.cutoffLead), (23, r.lockTimeout, p.lockTimeout),
     (24, r.retryLimit, p.retryLimit), (25, r.glitchWidth, p.glitchWidth) ].find?
    fun c => c.2.1 != c.2.2).map Prod.fst

/-- The dome tag: the low five bits of the CRC over P, the curve code, β and T_min (R7). -/
def domeTagOf (p : Profile) : BitVec 5 :=
  let bytes := be16 p.period ++ [byteOf p.curve.code] ++ be16 p.blackStep ++ be16 p.tMin
  (crc8 (bytes.flatMap bitsOf)).truncate 5

/-! ### The vertex record (R182) -/

/-- A vertex record as written: entries stand in the three entry places, listed or not. -/
structure RawVertex where
  u : Nat
  v : Nat
  inside : Bool
  count : Nat
  rSelf : Nat
  entries : List (Nat × Nat)
  deriving DecidableEq, Repr

/-- Take the vertex record at a payload offset (R182). -/
def readVertex (l : List Byte) (o : Nat) : RawVertex :=
  { u := wordAt l o, v := wordAt l (o + 2), inside := decide (128 ≤ byteAt l (o + 4)), count := byteAt l (o + 4) % 8,
    rSelf := wordAt l (o + 5),
    entries := [(byteAt l (o + 7), wordAt l (o + 8)), (byteAt l (o + 10), wordAt l (o + 11)),
      (byteAt l (o + 13), wordAt l (o + 14))] }

/-- The records of a MESH payload, record j at bytes 3 + 16 j (R182). -/
def readVertices (payload : List Byte) : List RawVertex :=
  (List.range (meshCount payload)).map fun j => readVertex payload (3 + Config.vertexBytes * j)

/-! ### Seam messages (R33, R180) -/

/-- The kind code of a body (R33). -/
def Body.kind : Body → BitVec 2
  | .leave _ => 0
  | .ready _ => 1
  | .pulse _ _ => 2

/-- The payload bits of a body, in the order they are sent (R47, R48, R180). -/
def Body.payload : Body → List Bool
  | .leave m => bitsOf m.reason ++ bitsOf (0 : BitVec 4)
  | .ready f => bitsOf f
  | .pulse m delay =>
    bitsOf m.beat ++ bitsOf m.shown ++ bitsOf delay ++ bitsOf m.level ++ bitsOf m.depth ++ bitsOf m.state
      ++ bitsOf m.lock ++ bitsOf m.tag

/-- The bits that a message's CRC covers: kind, station number and payload (R33, R34). -/
def coveredBits (kind : BitVec 2) (sender : StationNo) (payload : List Bool) : List Bool :=
  bitsOf kind ++ bitsOf (BitVec.ofNat 4 sender.val) ++ payload

/-- The bits of cells 5 onward of a message this station sends (R33, R180). -/
def messageBits (own : StationNo) (b : Body) : List Bool :=
  let covered := coveredBits b.kind own b.payload
  covered ++ bitsOf (crc8 covered)

/-- A message's length in bit times: four start mark cells, six arbitration cells, payload and eight CRC cells (R33). -/
def messageLength (payloadBits : Nat) : Nat := 18 + payloadBits

/-- The length of a message this station sends, in bit times (R33). -/
def Body.length (b : Body) : Nat := messageLength b.payload.length

/-- The fields of a received PULSE, in the ranges R49 brings them into; the state code may still be 3. -/
structure PulseFields where
  beat : BitVec 8
  shown : FrameNo
  delay : Nat
  level : Nat
  depth : Nat
  state : BitVec 2
  lock : LockState
  tag : BitVec 5
  deriving DecidableEq, Repr

/-- Take the fields of a PULSE payload from their cells (R180), as R49 brings them into range. -/
def readPulse (p : BitVec 64) : PulseFields :=
  { beat := p.extractLsb' 56 8, shown := p.extractLsb' 40 16, delay := (p.extractLsb' 28 12).toNat,
    level := min Config.one (p.extractLsb' 12 16).toNat, depth := (p.extractLsb' 10 2).toNat + 1,
    state := p.extractLsb' 8 2, lock := LockState.ofCode (p.extractLsb' 5 3), tag := p.extractLsb' 0 5 }

/-! ### Pixels and the trailer (R156, R181) -/

/-- The red code of a pixel. -/
def red (p : Pixel) : Nat := (p.extractLsb' 20 10).toNat

/-- The green code of a pixel. -/
def green (p : Pixel) : Nat := (p.extractLsb' 10 10).toNat

/-- The blue code of a pixel. -/
def blue (p : Pixel) : Nat := (p.extractLsb' 0 10).toNat

/-- A pixel from its three codes. -/
def pixelOf (r g b : Nat) : Pixel := BitVec.ofNat 10 r ++ BitVec.ofNat 10 g ++ BitVec.ofNat 10 b

/-- The frame number of a valid trailer, from the trailer pixels as received; `none` where it is not valid (R156). -/
def trailerFrame : List Pixel → Option FrameNo
  | p :: q :: _ =>
    if blue p = Config.trailerMark ∧ blue q = Config.trailerMark ∧ green p % 16 = 0 ∧ red q = 1023 - red p
        ∧ green q = 1023 - green p then
      some (BitVec.ofNat 16 (red p * 64 + green p / 16))
    else none
  | _ => none

end Sys2Proof.Machine
end

