-- ==== Sys2Proof/Machine/MeshTable.lean ====
section
/-! DEFINITION. The Mesh Table: grid, records, checks, neighbour set (02_the_blend_mesh.md). -/

namespace Sys2Proof.Machine

/-- Columns of the vertex grid (R18). -/
def Profile.columns (p : Profile) : Nat := p.outWidth / Config.gridPitch + 1

/-- Rows of the vertex grid (R18). -/
def Profile.rows (p : Profile) : Nat := p.outHeight / Config.gridPitch + 1

/-- The vertex count of the grid; no grid while the profile is not valid (R18). -/
def Station.vertexCount (c : Station) : Nat :=
  if c.profileValid then c.profile.columns * c.profile.rows else 0

/-- The blank record (R19). -/
def Vertex.blank : Vertex := { u := 0, v := 0, inside := false, rSelf := 0, coverers := [] }

/-- The written record at an index, if the vertex is marked. -/
def findRecord : List (Nat × Vertex) → Nat → Option Vertex
  | [], _ => none
  | r :: l, i => if r.1 = i then some r.2 else findRecord l i

/-- The written mark of a vertex (R19). -/
def Mesh.isMarked (m : Mesh) (i : Nat) : Bool := (findRecord m.records i).isSome

/-- The record of a vertex: blank where it is unmarked (R19). -/
def Mesh.vertex (m : Mesh) (i : Nat) : Vertex := (findRecord m.records i).getD Vertex.blank

/-- Put a record in its place among the written ones, indices rising. -/
def putRecord (i : Nat) (v : Vertex) : List (Nat × Vertex) → List (Nat × Vertex)
  | [] => [(i, v)]
  | r :: l => if i < r.1 then (i, v) :: r :: l else if i = r.1 then (i, v) :: l else r :: putRecord i v l

/-- Store a record at an index and set the written mark; the count of marked vertices rises at an unmarked vertex (R24).
-/
def Mesh.store (m : Mesh) (i : Nat) (v : Vertex) : Mesh :=
  { m with records := putRecord i v m.records, marked := if m.isMarked i then m.marked else m.marked + 1 }

/-- The union of the peer numbers in the coverer lists of all marked vertices, ascending (R26). -/
def neighboursOf (records : List (Nat × Vertex)) : List StationNo :=
  (List.finRange 16).filter fun n => records.any fun r => r.2.coverers.any fun c => c.peer == n

/-- The listed entries of a record: the first ones, as many as its coverer count states (R22). -/
def RawVertex.listed (r : RawVertex) : List (Nat × Nat) := r.entries.take r.count

/-- A record fails one of the checks of R22 other than the one on its index. -/
def RawVertex.fails (own : StationNo) (r : RawVertex) : Bool :=
  decide (3 < r.count)
    || r.listed.any (fun e => decide (15 < e.1))
    || r.listed.any (fun e => e.1 == own.val)
    || !decide (r.listed.map Prod.fst).Nodup
    || (r.inside && decide (Config.one < r.rSelf))
    || r.listed.any (fun e => decide (Config.one < e.2))
    || (r.inside && r.rSelf == 0)
    || (!r.inside && r.count != 0)

/-- The record as stored: listed entries in the order written, an outside record with r_self 0 (R24). -/
def RawVertex.stored (r : RawVertex) : Vertex :=
  { u := r.u, v := r.v, inside := r.inside, rSelf := if r.inside then r.rSelf else 0,
    coverers := r.listed.map fun e => { peer := Fin.ofNat 16 e.1, ramp := e.2 } }

/-- Take records one at a time from index `i` on, stopping at the first that fails: the mesh reached, and the index that
BADVERTEX names, if any (R22, R23). -/
def takeRecords (own : StationNo) (count : Nat) : List RawVertex → Nat → Mesh → Mesh × Option Nat
  | [], _, m => (m, none)
  | r :: l, i, m =>
    if count ≤ i then (m, some (count - 1))
    else if r.fails own then (m, some i)
    else takeRecords own count l (i + 1) (m.store i r.stored)

/-- Bring the neighbour set up to date at the end of a MESH command (R26). -/
def Mesh.refreshNeighbours (m : Mesh) : Mesh := { m with neighbours := neighboursOf m.records }

/-- The mesh is complete (R25). -/
def State.meshComplete (s : State) : Bool := s.mt.marked == s.sc.vertexCount

end Sys2Proof.Machine
end

