-- ==== Sys2Proof/Machine/Raster.lean ====
section
/-! DEFINITION. The pipeline's arithmetic for one output pixel: interpolation, source position, transfer curves,
combining, and the need list of an output line (08_warp_and_blend_pipeline.md). -/

namespace Sys2Proof.Machine

/-! ### Position and interpolation (R122, R123) -/

/-- The index of the vertex at the top left of a pixel's cell (R122). -/
def cellVertex (p : Profile) (x y : Nat) : Nat := y / Config.gridPitch * p.columns + x / Config.gridPitch

/-- Spread four corner figures across a cell: weights of R123, divided by 1024, rounded half up. -/
def interpolate (fx fy : Nat) (a b c d : Nat) : Nat :=
  (a * ((32 - fx) * (32 - fy)) + b * (fx * (32 - fy)) + c * ((32 - fx) * fy) + d * (fx * fy) + 512) / 1024

/-- A figure of the vertices at an output pixel (R122, R123). -/
def atPixel (p : Profile) (figure : Nat → Nat) (x y : Nat) : Nat :=
  let i := cellVertex p x y
  interpolate (x % Config.gridPitch) (y % Config.gridPitch) (figure i) (figure (i + 1)) (figure (i + p.columns))
    (figure (i + p.columns + 1))

/-- The gain of a weight table at an index. -/
def gainAt (t : List Weight) (i : Nat) : Nat := (t.getD i { gain := 0, floor := 0 }).gain

/-- The floor of a weight table at an index. -/
def floorAt (t : List Weight) (i : Nat) : Nat := (t.getD i { gain := 0, floor := 0 }).floor

/-! ### Source position (R124) -/

/-- A source pixel and its weight in the sample. -/
structure Source where
  column : Nat
  line : Nat
  weight : Nat
  deriving DecidableEq, Repr

/-- The source pixels an output pixel needs, with their weights; those of weight 0 are not needed (R124). -/
def sourcesOf (p : Profile) (m : Mesh) (x y : Nat) : List Source :=
  let u := min (atPixel p (fun i => (m.vertex i).u) x y) ((p.inWidth - 1) * 16)
  let v := min (atPixel p (fun i => (m.vertex i).v) x y) ((p.inHeight - 1) * 16)
  let iu := u / 16
  let fu := u % 16
  let iv := v / 16
  let fv := v % 16
  let right := min (iu + 1) (p.inWidth - 1)
  let below := min (iv + 1) (p.inHeight - 1)
  [ ⟨iu, iv, (16 - fu) * (16 - fv)⟩, ⟨right, iv, fu * (16 - fv)⟩, ⟨iu, below, (16 - fu) * fv⟩,
    ⟨right, below, fu * fv⟩ ].filter fun q => q.weight != 0

/-! ### Need lists (R130) -/

/-- Note that pixel `x` needs a burst: a new entry at the list's end, or a later last pixel for the entry there is. -/
def noteNeed (slot : SlotNo) (y x : Nat) (l : List Need) (q : Source) : List Need :=
  let column := q.column / Config.burstPixels
  if l.any fun n => n.line == q.line && n.column == column then
    l.map fun n => if n.line == q.line && n.column == column then { n with lastX := x } else n
  else l ++ [{ slot := slot, line := q.line, column := column, outLine := y, lastX := x }]

/-- The need list of output line `y`: each burst that a pixel of the line needs, once, in the order of the first pixel
that needs it (R130). Bursts first needed by one and the same pixel stand in the order of R124's table, which R130 leaves
open (assumption log, entry 32). -/
def lineNeeds (p : Profile) (m : Mesh) (slot : SlotNo) (y : Nat) : List Need :=
  (List.range p.outWidth).foldl (fun l x => (sourcesOf p m x y).foldl (noteNeed slot y x) l) []

/-! ### Transfer tables (R126, R128) -/

/-- γ of a power curve as a fraction over 5: 11/5 is 2.2 and 12/5 is 2.4. -/
def Curve.fifths : Curve → Nat
  | .linear => 5
  | .power22 => 11
  | .power24 => 12

/-- The linearizing table's entry for a code: the nearest whole number to 32768 × (code / 1023)^γ, halves going up
(R126). `n` is at most the nearest number exactly when (2n − 1)^5 × 1023^(5γ) ≤ 65536^5 × code^(5γ). -/
def linearize (c : Curve) (code : Nat) : Nat :=
  match c with
  | .linear => (2 * code * Config.one + 1023) / 2046
  | _ => greatest (fun n => decide ((2 * n - 1) ^ 5 * 1023 ^ c.fifths ≤ (2 * Config.one) ^ 5 * code ^ c.fifths)) 16 0

/-- The encoding table's entry for a value: the nearest whole number to 1023 × (value / 32768)^(1/γ), halves going up
(R128). -/
def encodeLight (c : Curve) (value : Nat) : Nat :=
  match c with
  | .linear => (2 * value * 1023 + Config.one) / (2 * Config.one)
  | _ => greatest (fun n => decide ((2 * n - 1) ^ c.fifths * Config.one ^ 5 ≤ 2046 ^ c.fifths * value ^ 5)) 10 0

/-! ### Combining (R127) -/

/-- A channel's value before the limit: the image term rounded half up, plus the floor (R127). -/
def combine (gain floor lin : Nat) : Nat := (gain * lin + Config.one / 2) / Config.one + floor

/-- The channel is clipped (R127). -/
def clips (gain floor lin : Nat) : Bool := decide (Config.one < combine gain floor lin)

/-- A channel's output code (R127, R128). -/
def channelCode (c : Curve) (gain floor lin : Nat) : Nat := encodeLight c (min Config.one (combine gain floor lin))

/-- The sampled code of one channel: weights times codes, divided by 256, rounded half up (R125). -/
def sampleCode (channel : Pixel → Nat) (l : List (Nat × Pixel)) : Nat :=
  ((l.map fun q => q.1 * channel q.2).sum + 128) / 256

end Sys2Proof.Machine
end

