-- ==== Sys2Proof/Machine/FrameStore.lean ====
section
/-! DEFINITION. The Frame Store: slots, input frames, writer, reader, arbiter, parity and trap
(10_frame_store_and_pixel_input.md). -/

namespace Sys2Proof.Machine

/-! ### Slots (R151) -/

/-- The record of a slot. -/
def slotAt (l : List Slot) (i : SlotNo) : Slot := l.getD i.val .free

/-- Rewrite every slot by its number. -/
def mapSlots (f : SlotNo → Slot → Slot) (l : List Slot) : List Slot :=
  (List.finRange 4).map fun i => f i (slotAt l i)

/-- Rewrite one slot. -/
def setSlot (i : SlotNo) (x : Slot) (l : List Slot) : List Slot := mapSlots (fun j y => if j = i then x else y) l

/-- A slot's rank among the READY slots, if it is READY. -/
def Slot.rank? : Slot → Option Nat
  | .ready _ r _ => some r
  | _ => none

/-- A slot's frame number, present in READY and SHOWN (R151). -/
def Slot.frame? : Slot → Option FrameNo
  | .ready f _ _ => some f
  | .shown f => some f
  | _ => none

/-- READY slots of lower rank than `r`. -/
def readyBelow (r : Nat) (l : List Slot) : Nat :=
  (l.filter fun x => match x.rank? with | some q => decide (q < r) | none => false).length

/-- Number the READY slots from 1 in their former order (R151). -/
def renumber (l : List Slot) : List Slot :=
  l.map fun x =>
    match x with
    | .ready f r c => .ready f (readyBelow r l + 1) c
    | .free => .free
    | .filling => .filling
    | .shown f => .shown f

/-- READY slots. -/
def readyCount (l : List Slot) : Nat := (l.filter fun x => x.rank?.isSome).length

/-- The SHOWN slot, if there is one. -/
def shownSlot (l : List Slot) : Option SlotNo :=
  (List.finRange 4).find? fun i => match slotAt l i with | .shown _ => true | _ => false

/-- The SHOWN frame, if there is one. -/
def shownFrame (l : List Slot) : Option FrameNo := (shownSlot l).bind fun i => (slotAt l i).frame?

/-- The filling slot, if there is one (R150). -/
def fillingSlot (l : List Slot) : Option SlotNo := (List.finRange 4).find? fun i => slotAt l i == .filling

/-- The READY slot of highest rank, with its rank and frame. -/
def newestReadySlot (l : List Slot) : Option (Nat × FrameNo) :=
  l.foldl (fun acc x =>
    match x, acc with
    | .ready f r _, some (q, g) => if q < r then some (r, f) else some (q, g)
    | .ready f r _, none => some (r, f)
    | _, a => a) none

/-- The own newest READY: the frame of the READY slot of highest rank (R87). -/
def newestReady (l : List Slot) : Option FrameNo := (newestReadySlot l).map Prod.snd

/-- The READY slot that holds a frame (R90). -/
def readySlotOf (l : List Slot) (f : FrameNo) : Option SlotNo :=
  (List.finRange 4).find? fun i => match slotAt l i with | .ready g _ _ => g == f | _ => false

/-- The FREE slot of lowest index (R153). -/
def lowestFree (l : List Slot) : Option SlotNo := (List.finRange 4).find? fun i => slotAt l i == .free

/-- The READY slot of lowest rank whose chosen mark is clear (R153). -/
def oldestUnchosen (l : List Slot) : Option SlotNo :=
  ((List.finRange 4).foldl (fun acc i =>
    match slotAt l i, acc with
    | .ready _ r false, some (q, j) => if r < q then some (r, i) else some (q, j)
    | .ready _ r false, none => some (r, i)
    | _, a => a) (none : Option (Nat × SlotNo))).map Prod.snd

/-- Bursts of a slot's frame are still in the writer FIFO (R151, R155). -/
def FrameStore.writesPending (f : FrameStore) (i : SlotNo) : Bool := f.fifo.any fun p => p.slot == i

/-- A write burst in progress is discarded with the pixels of its slot (assumption log, entry 16). -/
def Burst.dropWrite (gone : SlotNo → Bool) : Burst → Burst
  | .write i line column kept => .write i line column (kept && !gone i)
  | b => b

/-- Discard the FIFO's pixels of the slots that `gone` names (R155). -/
def discardPixels (gone : SlotNo → Bool) (f : FrameStore) : FrameStore :=
  { f with fifo := f.fifo.filter fun p => !gone p.slot,
           arb := { f.arb with burst := f.arb.burst.map (Burst.dropWrite gone) } }

/-- Discard the FIFO's pixels of one slot (R153, R155). -/
def discardSlot (i : SlotNo) (f : FrameStore) : FrameStore := discardPixels (fun j => j == i) f

/-- A slot becomes FREE and its pending bursts are discarded (R155). -/
def freeSlot (i : SlotNo) (f : FrameStore) : FrameStore :=
  discardSlot i { f with slots := renumber (setSlot i .free f.slots) }

/-! ### Reader and need sequence (R130, R160) -/

/-- The need list of the frame in progress: entries fetched and not retired, then entries not yet fetched (R118). -/
def State.needList (s : State) : List Need := s.fs.prefetch.map Fetched.need ++ s.fs.sequence

/-- An entry's last pixel has been formed once the next pixel to be formed is `(y, x)` (R130). -/
def Need.retired (n : Need) (y x : Nat) : Bool :=
  decide (n.outLine < y) || (n.outLine == y && decide (n.lastX < x))

/-- A read burst in progress is to be discarded where its entry is retired before the next pixel `(y, x)`. -/
def Burst.retireBefore (y x : Nat) : Burst → Burst
  | .read n kept => .read n (kept && !n.retired y x)
  | b => b

/-- Retire the entries whose last pixel lies before the next pixel `(y, x)` (R130). An entry retired while its own burst
is in progress is withdrawn, and the burst runs to its end and is discarded: the manual tells this for a frame start and
for BLACK alone (R160), and the model takes a retirement alike (assumption log, entry 33). -/
def retireBefore (y x : Nat) (f : FrameStore) : FrameStore :=
  { f with sequence := f.sequence.filter fun n => !n.retired y x,
           prefetch := f.prefetch.filter fun q => !q.need.retired y x,
           arb := { f.arb with burst := f.arb.burst.map (Burst.retireBefore y x) } }

/-- Hand the next output lines' need lists to the reader until its sequence holds an entry: the frame's lists follow one
another as one sequence, and each is formed when the reader comes to it (R130; assumption log, entry 15). -/
def refill : Nat → State → State
  | 0, s => s
  | fuel + 1, s =>
    match s.fs.sequence, s.wbp.mode, s.wbp.frameSlot, s.wbp.position with
    | [], .picture, some slot, some (y, x) =>
      let line := max s.wbp.nextLine y
      if line < s.profile.outHeight then
        let needs := (lineNeeds s.profile s.mt slot line).filter fun n => !n.retired y x
        refill fuel
          ((s.modWbp fun w => { w with nextLine := line + 1 }).modFs fun f => { f with sequence := needs })
      else s
    | _, _, _, _ => s

/-- Refill the reader's sequence: no frame has more lines than the profile's height. -/
def refillSequence (s : State) : State := refill s.profile.outHeight s

/-! ### The arbiter (R154, R160, R162) -/

/-- A FIFO pixel lies in a burst of a slot. -/
def inBurst (slot : SlotNo) (line column : Nat) (p : FifoPixel) : Bool :=
  p.slot == slot && p.line == line && p.column / Config.burstPixels == column

/-- The pixels a line of `wi` pixels has in burst column `column`. -/
def burstSize (wi column : Nat) : Nat := min Config.burstPixels (wi - Config.burstPixels * column)

/-- The burst of a FIFO pixel is writable: sixteen pixels, or the final partial burst of a completed line (R154). -/
def writable (wi : Nat) (f : FrameStore) (p : FifoPixel) : Bool :=
  let column := p.column / Config.burstPixels
  let size := burstSize wi column
  (f.fifo.filter (inBurst p.slot p.line column)).length == size
    && (size == Config.burstPixels || !(slotAt f.slots p.slot == .filling && decide (f.lineCount ≤ p.line)))

/-- The oldest writable burst, named by its first pixel in the FIFO (R154). -/
def oldestWritable (wi : Nat) (f : FrameStore) : Option FifoPixel := f.fifo.find? (writable wi f)

/-- The writer has a burst to move (R162). -/
def writerRequests (s : State) : Bool := (oldestWritable s.profile.inWidth s.fs).isSome

/-- The burst of a need list entry is still pending in the writer FIFO (R161). -/
def pendingInFifo (f : FrameStore) (n : Need) : Bool :=
  f.fifo.any (inBurst n.slot n.line n.column)

/-- The reader has a burst to move: its next entry is fetchable (R160, R161, R162). -/
def readerRequests (s : State) : Bool :=
  match s.fs.sequence with
  | [] => false
  | n :: _ => decide (s.fs.prefetch.length < Config.prefetchMax) && !pendingInFifo s.fs n

/-- A side has a burst to move (R162). -/
def requests : Owner → State → Bool
  | .none, _ => false
  | .writer, s => writerRequests s
  | .reader, s => readerRequests s

/-- The other side. -/
def Owner.other : Owner → Owner
  | .none => .none
  | .writer => .reader
  | .reader => .writer

/-- A fresh budget for an owner (R162). -/
def Owner.run : Owner → Nat
  | .none => 0
  | .writer => Config.writerRun
  | .reader => Config.readerRun

/-- The burst a side moves next: the oldest writable one, or that of the next entry (R154, R160). -/
def nextBurst : Owner → State → Option Burst
  | .none, _ => none
  | .writer, s =>
    (oldestWritable s.profile.inWidth s.fs).map fun p => .write p.slot p.line (p.column / Config.burstPixels) true
  | .reader, s => s.fs.sequence.head?.map fun n => .read n true

/-- Begin a side's next burst, with `budget` left, as soon as the memory is free: it occupies the memory for 4 ns (R162).
`idle` marks a grant from NONE. -/
def beginBurst (o : Owner) (budget : Nat) (idle : Bool) (s : State) : State :=
  s.modFs fun f => { f with arb :=
    { owner := o, budget := budget, burst := nextBurst o s,
      memoryFree := max s.now f.arb.memoryFree + Config.burstTime, turnEnds := false,
      grantedAt := if idle then some s.now else none } }

/-- Requests as they arise (R162). With the owner NONE a request is granted at once, the reader's before the writer's,
and a writer granted from NONE at this same instant gives way to the reader's request. A side whose request arrives while
the other owns the memory waits. -/
def arbitrate (s : State) : State :=
  match s.fs.arb.owner with
  | .none =>
    if readerRequests s then beginBurst .reader Owner.reader.run true s
    else if writerRequests s then beginBurst .writer Owner.writer.run true s
    else s
  | .writer =>
    if readerRequests s && s.fs.arb.grantedAt == some s.now then
      beginBurst .reader Owner.reader.run true
        (s.modFs fun f => { f with arb := { f.arb with memoryFree := f.arb.memoryFree - Config.burstTime } })
    else s
  | .reader => s

/-- After an event that may have changed what the reader or the writer has to move. -/
def settleStore (s : State) : State := arbitrate (refillSequence s)

/-- Who has the memory once the owner's burst has ended (R162): the owner, while it has budget and a burst to move and
its turn has not been ended; else the other side with a fresh budget; else the owner with a fresh one; else NONE. The
requests are those that stand once the burst has made its effect (assumption log, entry 39). -/
def nextTurn (s : State) : State :=
  let a := s.fs.arb
  if a.budget != 0 && !a.turnEnds && requests a.owner s then beginBurst a.owner a.budget false s
  else if requests a.owner.other s then beginBurst a.owner.other a.owner.other.run false s
  else if requests a.owner s then beginBurst a.owner a.owner.run false s
  else s.modFs fun f => { f with arb := Arbiter.idle f.arb.memoryFree }

/-- The owner's burst has ended: its budget falls by one, and the memory is passed on (R162). R162 does not say whether a
burst lowers the budget at its start or at its end; the model lowers it at the end, so that an owner's budget is never 0
while its burst is in progress (DESIGN CHOICE, assumption log, entry 52). -/
def endBurst (s : State) : State :=
  nextTurn (refillSequence (s.modFs fun f => { f with arb := { f.arb with budget := f.arb.budget - 1, burst := none } }))

/-- The read burst in progress is to be discarded when it completes (R160). -/
def Burst.dropRead : Burst → Burst
  | .read n _ => .read n false
  | b => b

/-- Empty the reader's work; a fetch already granted is discarded when it completes (R160). A discarded fetch is neither
checked for parity nor counted nor trapped, which the manual leaves open (assumption log, entry 34). -/
def cutReader (s : State) : State :=
  s.modFs fun f =>
    { f with sequence := [], prefetch := [], arb := { f.arb with burst := f.arb.burst.map Burst.dropRead } }

/-- A frame start: a READER ownership goes on to the end of its burst in progress and ends there (R162). -/
def endReaderTurn (s : State) : State :=
  s.modFs fun f => { f with arb := { f.arb with turnEnds := f.arb.turnEnds || f.arb.owner == .reader } }

/-! ### Writer (R154, R155, R163) -/

/-- Place a picture pixel in the FIFO, or overrun it (R154, R155). The place is the line and pixel count as they stand;
the pixel count rises. -/
def placePixel (wi : Nat) (px : Pixel) (f : FrameStore) : FrameStore :=
  let g := { f with linePixels := f.linePixels + 1 }
  match fillingSlot f.slots with
  | none => g
  | some i =>
    if f.damaged then g
    else if 2 * wi ≤ f.fifo.length then discardSlot i { g with damaged := true }
    else
      { g with fifo := f.fifo ++ [{ slot := i, line := f.lineCount, column := f.linePixels, pixel := px }],
               framePeak := max f.framePeak (f.fifo.length + 1) }

/-- Fill a line out with copies of its last pixel (R154). -/
def fillOut (wi : Nat) (px : Pixel) : Nat → FrameStore → FrameStore
  | 0, f => f
  | n + 1, f => fillOut wi px n (placePixel wi px f)

/-- The sixteen pixels stored for a burst: places beyond the line's end hold copies of its last pixel (R154). -/
def burstContents (f : FrameStore) (slot : SlotNo) (line column : Nat) : List Pixel :=
  let have_ := (f.fifo.filter (inBurst slot line column)).map FifoPixel.pixel
  have_ ++ List.replicate (Config.burstPixels - have_.length) (have_.getLastD 0)

/-- Write a burst into its slot with parity, and take its pixels from the FIFO (R154, R163). -/
def writeBurstOf (wi : Nat) (slot : SlotNo) (line column : Nat) (f : FrameStore) : FrameStore :=
  let bytes := (burstContents f slot line column).flatMap pixelBytes
  let a := burstAddress wi slot line column
  { f with memory := f.memory.writeBytes a bytes, parity := f.parity.writeBytes a (bytes.map parityBit),
           fifo := f.fifo.filter fun q => !inBurst slot line column q }

/-! ### Parity (R163, R164) -/

/-- What the memory returns for a byte and its parity bit, with an upset's bits turned over (R163). -/
def applyUpset (l : List (Byte × Byte)) (u : Upset) : List (Byte × Byte) :=
  let c := l.getD u.offset.val (0, 0)
  l.set u.offset.val (c.1 ^^^ u.flips.truncate 8, c.2 ^^^ (u.flips.extractLsb' 8 1).zeroExtend 8)

/-- The bytes and parity bits the memory returns for a burst. -/
def fetchBytes (wi : Nat) (n : Need) (upsets : List Upset) (f : FrameStore) : List (Byte × Byte) :=
  let a := burstAddress wi n.slot n.line n.column
  upsets.foldl applyUpset ((f.memory.readBytes a Config.burstBytes).zip (f.parity.readBytes a Config.burstBytes))

/-- A burst with any byte in error is a failed burst (R163). -/
def parityFails (l : List (Byte × Byte)) : Bool := l.any fun c => parityBit c.1 != c.2

/-- A failed burst is counted; it fills the empty trap and raises FAULT, or sets MORE (R163, R164). -/
def noteFailedBurst (n : Need) (s : State) : State :=
  let s := countParity s
  match s.fs.trap with
  | none =>
    raiseFault (s.modFs fun f =>
      { f with trap := some { slot := n.slot, line := n.line, column := n.column, more := false } })
  | some t => s.modFs fun f => { f with trap := some { t with more := true } }

/-! ### Input frames (R152 to R158) -/

/-- End the frame in progress before its trailer: its slot becomes FREE, and SHORT is counted, or OVERRUN where it is
damaged (R157, R158). -/
def endFrameShort (s : State) : State :=
  match fillingSlot s.fs.slots with
  | none => s
  | some i =>
    let t := s.modFs (freeSlot i)
    if s.fs.damaged then countOverrun t else countShort t

/-- A frame is in progress: the port stands in PICTURE or TRAILER (R157). -/
def FrameStore.frameInProgress (f : FrameStore) : Bool := f.port == .picture || f.port == .trailer

/-- The writer takes a slot for an input frame: the FREE slot of lowest index, or else the oldest unchosen READY slot,
whose frame is dropped (R153). -/
def takeSlot (s : State) : State :=
  match lowestFree s.fs.slots with
  | some i => s.modFs fun f => { f with slots := setSlot i .filling f.slots }
  | none =>
    match oldestUnchosen s.fs.slots with
    | some i => countDropped (s.modFs fun f => discardSlot i { f with slots := renumber (setSlot i .filling f.slots) })
    | none => s

/-- A frame number is newer than every READY and SHOWN frame (R156). -/
def newerThanAll (l : List Slot) (n : FrameNo) : Bool :=
  l.all fun x => match x.frame? with | some f => newer n f | none => true

/-! ### Enactment and marks (R92, R93, R159, R165) -/

/-- The slots after a SWAP: the old SHOWN slot and older READY slots become FREE, the chosen slot becomes SHOWN, the rest
are renumbered (R92). -/
def swappedSlots (target : FrameNo) (slot : SlotNo) (l : List Slot) : List Slot :=
  renumber (mapSlots (fun i x =>
    if i = slot then .shown target
    else
      match x with
      | .shown _ => .free
      | .ready f r c => if older f target then .free else .ready f r c
      | .free => .free
      | .filling => .filling) l)

/-- Keep in the FIFO only pixels of slots that are not FREE (R155, R159). -/
def discardFree (f : FrameStore) : FrameStore := discardPixels (fun i => slotAt f.slots i == .free) f

/-- Enact the decision record at an own frame start and set it to none (R86, R92, R93). -/
def enactDecision (s : State) : State :=
  match s.swu with
  | .none => s
  | .hold => (countHolds s).setSwu .none
  | .swap target slot =>
    (countSwaps (s.modFs fun f => discardFree { f with slots := swappedSlots target slot f.slots })).setSwu .none

/-- Latch the occupancy marks at an own frame start and start them again (R165). The new FIFO peak starts from the FIFO's
content after the discards of the same frame start's enactment, an order the manual leaves open (assumption log, entry
35). -/
def latchMarks (f : FrameStore) : FrameStore :=
  { f with fifoPeakMark := f.framePeak, prefetchMinMark := f.frameMinimum, framePeak := f.fifo.length,
           frameMinimum := none }

/-- The Frame Store at START, at instant `now` in µs (R152, R166). -/
def storeStart (now : Nat) (f : FrameStore) : FrameStore :=
  { f with port := .waiting, lossStart := some now, lost := false }

/-- The Frame Store at an entry to CONFIG (R15, R166); a burst in progress occupies the memory to its end and is
discarded. R166's table has no column for the line count, the line pixel count and last pixel, the damaged mark and the
trailer pixels: they stand as they are, also over a PROFILE with a smaller raster, until the next input frame start clears
them (R152; DESIGN CHOICE, assumption log, entry 58). -/
def storeToConfig (f : FrameStore) : FrameStore :=
  { f with slots := List.replicate 4 Slot.free, port := .off, fifo := [], sequence := [], prefetch := [],
           arb := Arbiter.idle f.arb.memoryFree, lost := false, lossStart := none }

end Sys2Proof.Machine
end

