-- ==== Sys2Proof/Machine/Pipeline.lean ====
section
/-! DEFINITION. The Warp and Blend Pipeline: output frames, BLACK, and one output pixel at its due instant
(08_warp_and_blend_pipeline.md). -/

namespace Sys2Proof.Machine

/-! ### Output frames (R119, R120, R121, R130) -/

/-- Begin an output frame now, in PICTURE where the station state is SHOWING and in BLACK elsewhere; the pixels of the
frame before that are not yet sent are not sent, its need list is retired and the reader's turn ends with its burst in
progress, and the first line's list of the new frame is handed over (R119, R120, R121, R130, R160, R162). -/
def beginOutputFrame (s : State) : State :=
  let picture := s.sc.state == .showing
  settleStore (endReaderTurn
    ((cutReader s).modWbp fun w =>
      { w with mode := if picture then .picture else .black,
               frameSlot := if picture then shownSlot s.fs.slots else none,
               position := some (0, 0), underrun := false, frameAt := s.now, nextLine := 0, inFlight := [] }))

/-- A PICTURE frame turns BLACK at this instant, for every pixel not yet due, and its need list is retired at once (R120,
R130, R160). A pixel that fell due before is sent with code 0 while the station state is not SHOWING (`State.pxoD`). -/
def turnBlack (s : State) : State :=
  if s.wbp.mode = .picture then (cutReader s).modWbp fun w => { w with mode := .black } else s

/-- The pipeline at an entry to CONFIG (R134): BLACK where it sends frames at all, frame slot none. -/
def pipelineToConfig (w : Pipeline) : Pipeline :=
  { w with mode := if w.mode = .none then .none else .black, frameSlot := none }

/-! ### One output pixel (R119, R122 to R132) -/

/-- The due instant of output pixel `(y, x)` of the frame in progress, in ns (R119). -/
def dueInstant (s : State) (y x : Nat) : Nat :=
  s.wbp.frameAt + (Config.rasterDelay - Config.dueLead) + y * (s.profile.outWidth + Config.lineBlanking) + x

/-- The link sends frames: the output mode is not NONE (R119, R134), and RSTN is not low (R17). -/
def State.sendsFrames (s : State) : Bool := !s.rstnLow && s.wbp.mode != .none

/-- PXO_FS marks the start of an output frame now (R119). How long it stays asserted is not told; the model asserts it for
the one pixel time of the frame start (DESIGN CHOICE, assumption log, entry 45). -/
def State.pxoFs (s : State) : Bool := s.sendsFrames && s.wbp.frameAt == s.now

/-- The line and the place in it that the link has reached, in pixel times of 1 ns; lines have 64 places of blanking
(R119). -/
def State.rasterPlace (s : State) : Nat × Nat :=
  let t := s.now - (s.wbp.frameAt + Config.rasterDelay)
  let line := s.profile.outWidth + Config.lineBlanking
  (t / line, t % line)

/-- PXO_DE is asserted: the link has reached an active pixel of the raster (R119). -/
def State.pxoDe (s : State) : Bool :=
  s.sendsFrames && decide (s.wbp.frameAt + Config.rasterDelay ≤ s.now)
    && decide (s.rasterPlace.1 < s.profile.outHeight) && decide (s.rasterPlace.2 < s.profile.outWidth)

/-- What PXO_D carries (R119, R120): the pixel whose instant is now. Every pixel sent while the station state is not
SHOWING has code 0, one that fell due while it was SHOWING too; R120 turns only the pixels not yet due BLACK and yet gives
every pixel sent code 0, and the model follows the latter at the sending (DESIGN CHOICE, assumption log, entry 38). Where
PXO_DE is inactive no pixel is sent, and what the pins then carry, in blanking too, is not told: a free value (DESIGN
CHOICE, assumption log, entry 46). -/
def State.pxoD (s : State) : Pixel :=
  match s.wbp.inFlight.find? fun q => q.1 == s.now with
  | some q => if s.sc.state = .showing then q.2 else 0
  | none => if s.pxoDe then 0 else Config.blankingData s.now

/-- The output pixel after `(y, x)` in the order the link sends them (R119). -/
def nextPosition (p : Profile) (y x : Nat) : Option (Nat × Nat) :=
  if x + 1 < p.outWidth then some (y, x + 1) else if y + 1 < p.outHeight then some (y + 1, 0) else none

/-- The prefetched burst that holds a source pixel for output line `y` (R125, R132). -/
def fetchedFor (f : FrameStore) (y : Nat) (q : Source) : Option Fetched :=
  f.prefetch.find? fun e =>
    e.need.outLine == y && e.need.line == q.line && e.need.column == q.column / Config.burstPixels

/-- What becomes of an output pixel of a PICTURE frame with a frame slot. -/
inductive Sampled where
  /-- A needed burst is not in the prefetch (R131). -/
  | underrun
  /-- A needed burst failed its parity check (R132). -/
  | parity
  /-- The source pixels with their weights (R125). -/
  | pixels (l : List (Nat × Pixel))
  deriving DecidableEq, Repr

/-- Look the needed source pixels up in the prefetch as it stands (R125, R131, R132): a missing burst goes before a
failed one. -/
def sampleSources (f : FrameStore) (y : Nat) (l : List Source) : Sampled :=
  let found := l.map fun q => (q, fetchedFor f y q)
  if found.any fun c => c.2.isNone then .underrun
  else if found.any fun c => c.2.any Fetched.failed then .parity
  else .pixels (found.filterMap fun c =>
    c.2.map fun e => (c.1.weight, e.pixels.getD (c.1.column % Config.burstPixels) 0))

/-- The pixel that carries the floor alone: the encoding of B on all three channels (R129, R131, R132). -/
def floorPixel (c : Curve) (floor : Nat) : Pixel :=
  let code := channelCode c 0 floor 0
  pixelOf code code code

/-- The three lin values of a sampled pixel (R125, R126). -/
def sampledLin (c : Curve) (l : List (Nat × Pixel)) (channel : Pixel → Nat) : Nat := linearize c (sampleCode channel l)

/-- The output pixel of a sample (R127, R128). -/
def blendPixel (c : Curve) (gain floor : Nat) (l : List (Nat × Pixel)) : Pixel :=
  pixelOf (channelCode c gain floor (sampledLin c l red)) (channelCode c gain floor (sampledLin c l green))
    (channelCode c gain floor (sampledLin c l blue))

/-- Some channel of a sample clips (R127). -/
def blendClips (c : Curve) (gain floor : Nat) (l : List (Nat × Pixel)) : Bool :=
  clips gain floor (sampledLin c l red) || clips gain floor (sampledLin c l green)
    || clips gain floor (sampledLin c l blue)

/-- Hand a pixel formed at its due instant to the link, on which it appears 1 µs later (R119); pixels sent before now
leave. -/
def sendPixel (p : Pixel) (s : State) : State :=
  s.modWbp fun w =>
    { w with inFlight := (w.inFlight.filter fun q => decide (s.now ≤ q.1)) ++ [(s.now + Config.dueLead, p)] }

/-- An underrun pixel: the first of its frame counts UNDERRUN and sets the mark (R131). -/
def noteUnderrun (s : State) : State :=
  if s.wbp.underrun then s else countUnderrun (s.modWbp fun w => { w with underrun := true })

/-- Follow the frame prefetch minimum at a pixel's due instant (R165). The bursts are counted before the pixel is formed and
retires any: R130 and R165 do not say which comes first (DESIGN CHOICE, assumption log, entry 49). -/
def noteOccupancy (f : FrameStore) : FrameStore :=
  { f with frameMinimum := some (match f.frameMinimum with
      | some n => min n f.prefetch.length
      | none => f.prefetch.length) }

/-- The gain A and the floor B at an output pixel (R123). -/
def gainFloorAt (s : State) (y x : Nat) : Nat × Nat :=
  (atPixel s.profile (gainAt s.we.shown) x y, atPixel s.profile (floorAt s.we.shown) x y)

/-- Form a pixel of a PICTURE frame that reads a slot (R125 to R132, R165). -/
def formPicturePixel (y x : Nat) (s : State) : State :=
  let c := s.profile.curve
  let g := gainFloorAt s y x
  let s := s.modFs noteOccupancy
  match sampleSources s.fs y (sourcesOf s.profile s.mt x y) with
  | .underrun => noteUnderrun (sendPixel (floorPixel c g.2) s)
  | .parity => sendPixel (floorPixel c g.2) s
  | .pixels l =>
    let t := sendPixel (blendPixel c g.1 g.2 l) s
    if blendClips c g.1 g.2 l then countClipped t else t

/-- Form the output pixel `(y, x)` by the frame's mode (R120, R129, R130). -/
def formPixel (y x : Nat) (s : State) : State :=
  match s.wbp.mode, s.wbp.frameSlot with
  | .picture, some _ => formPicturePixel y x s
  | .picture, none => sendPixel (floorPixel s.profile.curve (gainFloorAt s y x).2) s
  | .black, _ => sendPixel 0 s
  | .none, _ => s

/-- Move on to the next output pixel and retire what no later pixel of its line needs (R119, R130). -/
def stepPosition (y x : Nat) (s : State) : State :=
  let t := (s.modWbp fun w => { w with position := nextPosition s.profile y x }).modFs (retireBefore y (x + 1))
  settleStore t

end Sys2Proof.Machine
end

