-- ==== Sys2Proof/Machine/SeamLink.lean ====
section
/-! DEFINITION. The Seam Link Controller's shared operations: line monitor, transmit queue, on-line message
(03_seam_link_signalling.md). -/

namespace Sys2Proof.Machine

/-! ### The line monitor (R32) -/

/-- A message is being sent or received by the station (R32). -/
def Link.busy (l : Link) : Bool :=
  l.onLine.isSome || (match l.receiver with | .receiving _ _ => true | _ => false)

/-- The cells of a message stand between the line and what the monitor knows of it at instant `now`: the station's own
message is on the line, or one is being received. A station that has aborted its own message knows the line by its bit
fault until the lead sample of cell 5, the first that the message must pass again (R31, R39). -/
def Link.inCells (now : Nat) (l : Link) : Bool :=
  l.onLine.isSome ||
    (match l.receiver with
     | .receiving t0 own => !own || decide (t0 + 4 * Config.bitTime + Config.leadSample < now)
     | _ => false)

/-- The quiet count: full bit times of recessive line since it last left the dominant level, at most 40; 0 while the line
is dominant (R32). Within the cells of a message, where a bit time without a dominant edge ends the message, it is held
at 0 (DESIGN CHOICE, assumption log, entry 55). -/
def State.quietCount (s : State) : Nat :=
  if s.slc.dominant || s.slc.inCells s.now then 0 else min Config.quietMax ((s.now - s.slc.since) / Config.bitTime)

/-- The line has stood at `level` since instant `t`. -/
def setLine (level : Bool) (t : Nat) (l : Link) : Link := { l with dominant := level, since := t }

/-- The receiver when the station puts a message on the line: the cells of an own aborted message are no longer sampled
(DESIGN CHOICE, assumption log, entry 56). -/
def Receiver.leftByStart : Receiver → Receiver
  | .receiving _ _ => .waiting
  | r => r

/-- A receiver that waits for a recessive line has met one (R33). -/
def Receiver.released : Receiver → Receiver
  | .spent => .waiting
  | r => r

/-! ### The transmit queue (R35) -/

/-- The queue holds no message. -/
def TransmitQueue.isEmpty (q : TransmitQueue) : Bool := q.leave.isNone && q.ready.isNone && q.pulse.isNone

/-- A fresh request: retry count 0, no retry mark (R35). -/
def fresh {α : Type} (m : α) : Queued α := { msg := m, retries := 0, retried := false }

/-- Update the transmit queue. -/
def modQueue (f : TransmitQueue → TransmitQueue) (s : State) : State :=
  s.modSlc fun l => { l with queue := f l.queue }

/-- Request a LEAVE: it takes its slot, replacing an unsent one (R35). -/
def requestLeave (m : LeaveRequest) (s : State) : State := modQueue (fun q => { q with leave := some (fresh m) }) s

/-- Request a READY with a frame number (R35). -/
def requestReady (f : FrameNo) (s : State) : State := modQueue (fun q => { q with ready := some (fresh f) }) s

/-- Request a PULSE (R35). -/
def requestPulse (m : PulseRequest) (s : State) : State := modQueue (fun q => { q with pulse := some (fresh m) }) s

/-! ### Starting (R36, R37, R42) -/

/-- The offered message: its kind's required quiet and whether it is a PULSE with its frame start; LEAVE before READY
before PULSE (R36). -/
inductive Offer where
  | leave (m : Queued LeaveRequest)
  | ready (m : Queued FrameNo)
  | pulse (m : Queued PulseRequest)
  deriving DecidableEq, Repr

/-- The message the transmitter would start next (R36). -/
def TransmitQueue.offer (q : TransmitQueue) : Option Offer :=
  match q.leave, q.ready, q.pulse with
  | some m, _, _ => some (.leave m)
  | none, some m, _ => some (.ready m)
  | none, none, some m => some (.pulse m)
  | none, none, none => none

/-- The offered message returned to the queue after a bit fault (R36). -/
def Offer.retried : Offer → Bool
  | .leave m => m.retried
  | .ready m => m.retried
  | .pulse m => m.retried

/-- The required quiet: the first line of R36's table that applies, in bit times. -/
def requiredQuiet (lastWon : Bool) (o : Offer) : Nat :=
  match o with
  | .leave _ => 5
  | _ => if o.retried then 7 else if lastWon then 13 else 9

/-- The transmitter states of R37's table. -/
inductive TransmitterState where
  | idle | waiting | arbitrating | sending
  deriving DecidableEq, Repr

/-- The transmitter's state: what it holds on the line, or whether a message is offered. -/
def Link.transmitter (l : Link) : TransmitterState :=
  match l.onLine with
  | some m => if m.sending then .sending else .arbitrating
  | none => if l.queue.isEmpty then .idle else .waiting

/-- The station is due with this offered message (R37): a running state, the link NORMAL, the transmitter not sending,
the quiet count at or above the required quiet. -/
def State.dueWith (s : State) (o : Offer) : Bool :=
  s.running && s.slc.condition == .normal && s.slc.onLine.isNone
    && decide (requiredQuiet s.slc.lastWon o ≤ s.quietCount)

/-- The instant, in ns, before which a PULSE must have begun its start mark (R42). -/
def pulseDeadline (m : PulseRequest) : Nat := toNs (m.frameStart + Config.pulseDeadline)

/-- A PULSE's deadline has come (R42). -/
def pulseOverdue (now : Nat) (m : PulseRequest) : Bool := decide (pulseDeadline m ≤ now)

/-- Drop the queued PULSE, counting EXPIRED (R42). -/
def dropPulse (s : State) : State := countExpired (modQueue (fun q => { q with pulse := none }) s)

/-- The delay a PULSE carries: from its requesting frame start to t0, in whole µs (R37). -/
def pulseDelay (m : PulseRequest) (t0 : Nat) : BitVec 12 := BitVec.ofNat 12 (micros (t0 - toNs m.frameStart))

/-- Put a message on the line with its start mark's first edge at `t0` (R35, R37). -/
def putOnLine (b : Body) (retries t0 : Nat) (q : TransmitQueue) (s : State) : State :=
  s.modSlc fun l =>
    { l with queue := q, receiver := l.receiver.leftByStart,
             onLine := some { body := b, retries := retries, t0 := t0, sending := false } }

/-- Begin the start mark of the offered message at `t0`, filling a PULSE's delay; a PULSE at its deadline is dropped in
place of starting (R35, R37, R42). -/
def beginOffer (o : Offer) (t0 : Nat) (s : State) : State :=
  let q := s.slc.queue
  match o with
  | .leave m => putOnLine (.leave m.msg) m.retries t0 { q with leave := none } s
  | .ready m => putOnLine (.ready m.msg) m.retries t0 { q with ready := none } s
  | .pulse m =>
    if pulseOverdue s.now m.msg then dropPulse s
    else putOnLine (.pulse m.msg (pulseDelay m.msg t0)) m.retries t0 { q with pulse := none } s

/-! ### The cells of the on-line message (R31, R33) -/

/-- A sample's place within a cell (R31). -/
inductive SamplePoint where
  | lead | value | tail
  deriving DecidableEq, Repr

/-- The sample point at an offset of ns into a cell, if one lies there (R31). -/
def samplePointAt (offset : Nat) : Option SamplePoint :=
  if offset = Config.leadSample then some .lead
  else if offset = Config.valueSample then some .value
  else if offset = Config.tailSample then some .tail
  else none

/-- The cell, counted from 1, at an instant of a message with start mark at `t0` (R33). -/
def cellAt (t0 t : Nat) : Nat := (t - t0) / Config.bitTime + 1

/-- The offset into its cell of an instant of a message (R33). -/
def offsetAt (t0 t : Nat) : Nat := (t - t0) % Config.bitTime

/-- The bit this station sends in cell `n` ≥ 5 of its message (R33). -/
def sentBit (own : StationNo) (b : Body) (n : Nat) : Bool := (messageBits own b).getD (n - 5) true

/-- The length of a cell's dominant pulse in ns (R31). -/
def pulseWidth (bit : Bool) : Nat := if bit then Config.onePulse else Config.zeroPulse

/-- This station drives the line at instant `t` (R30, R31, R33): cells 1 to 3 of the start mark, and each later cell's
pulse. -/
def OnLine.drives (own : StationNo) (m : OnLine) (t : Nat) : Bool :=
  let n := cellAt m.t0 t
  if n ≤ 3 then true
  else if n = 4 then false
  else decide (n ≤ m.body.length) && decide (offsetAt m.t0 t < pulseWidth (sentBit own m.body n))

/-- SEAM is driven by this station (R30). -/
def State.drivesSeam (s : State) : Bool :=
  !s.rstnLow && (match s.slc.onLine with | some m => m.drives s.profile.station s.now | none => false)

/-- A sample at `t` that finds the line at `level` is a bit fault of the message (R39). -/
def isBitFault (own : StationNo) (m : OnLine) (t : Nat) (level : Bool) : Bool :=
  let n := cellAt m.t0 t
  decide (n ≤ m.body.length) &&
  match samplePointAt (offsetAt m.t0 t) with
  | none => false
  | some .lead => !level && n != 4
  | some .tail => level && decide (4 ≤ n)
  | some .value =>
    if n ≤ 3 then !level
    else if n = 4 then level
    else if n ≤ 10 then !sentBit own m.body n && !level
    else level == sentBit own m.body n

/-- A value sample at `t` finds arbitration lost if the line is dominant there: this station sends 1 in a cell of the
arbitration field (R38). -/
def losesArbitration (own : StationNo) (m : OnLine) (t : Nat) : Bool :=
  let n := cellAt m.t0 t
  !m.sending && decide (5 ≤ n) && decide (n ≤ 10) && offsetAt m.t0 t == Config.valueSample && sentBit own m.body n

/-! ### Back to the queue (R38, R39, R42) -/

/-- Return an on-line message to the slot of its kind; a newer request in the slot stands and the message is discarded; a
PULSE past its deadline is dropped with EXPIRED counted (R38, R39, R42). -/
def returnToQueue (m : OnLine) (retries : Nat) (retried : Bool) (s : State) : State :=
  let q := s.slc.queue
  match m.body with
  | .leave r =>
    if q.leave.isSome then s
    else modQueue (fun q => { q with leave := some { msg := r, retries := retries, retried := retried } }) s
  | .ready f =>
    if q.ready.isSome then s
    else modQueue (fun q => { q with ready := some { msg := f, retries := retries, retried := retried } }) s
  | .pulse r _ =>
    if q.pulse.isSome then s
    else if pulseOverdue s.now r then countExpired s
    else modQueue (fun q => { q with pulse := some { msg := r, retries := retries, retried := retried } }) s

/-- The message is the LEAVE requested by STOP (R35, R40, R41). -/
def Body.isStopLeave : Body → Bool
  | .leave m => m.forStop
  | _ => false

/-- When the last dominant pulse of a message ends: in its last cell, by its last CRC bit (R31). -/
def lastPulseEnd (t0 length : Nat) (crc : Byte) : Nat :=
  t0 + (length - 1) * Config.bitTime + pulseWidth (crc.getLsbD 0)

/-- The CRC of a message this station sends (R34). -/
def sentCrc (own : StationNo) (b : Body) : Byte := crc8 (coveredBits b.kind own b.payload)

/-- The Seam Link Controller at an entry to CONFIG (R15, R46): the line released, the queue emptied, the receiver
stopped; the line monitor and its quiet count run on as they stand (R32). -/
def linkToConfig (l : Link) : Link :=
  { l with queue := TransmitQueue.empty, onLine := none, lastWon := false, receiver := .stopped }

/-- The Seam Link Controller at START, at instant `now`: its receiver waits for the first start mark recognised after
that (R44, R46). -/
def linkStart (now : Nat) (l : Link) : Link := { l with receiver := .waiting, listenFrom := now }

end Sys2Proof.Machine
end

