-- ==== Sys2Proof/Machine/StationControl.lean ====
section
/-! DEFINITION. The Station Controller's transitions (01_stations_profiles_and_show_states.md). -/

namespace Sys2Proof.Machine

/-- Move the station state: a change raises STATE, and a PICTURE frame turns BLACK when the station leaves SHOWING (R1,
R2, R120). -/
def setState (st : ShowState) (s : State) : State :=
  if s.sc.state = st then s
  else
    let t := raiseState (s.modSc fun c => { c with state := st })
    if st = .showing then t else turnBlack t

/-- The station state announced in PULSEs (R2); none in CONFIG. -/
def ShowState.announced : ShowState → Option AnnouncedState
  | .config => none
  | .joining => some .joining
  | .showing => some .showing
  | .dark => some .dark
  | .stopping => some .dark

/-- The lock condition of JOINING: LOCKED or REFERENCE, or waived at lock timeout (R10, R11). -/
def State.lockMet (s : State) : Bool := s.cu.lock == .locked || s.cu.lock == .reference || s.sc.lockWaived

/-- The state that JOINING is left for: SHOWING with L_ann at or above T_min, DARK below it (R10). -/
def State.joiningExit (s : State) : ShowState := if s.profile.tMin ≤ s.ls.lAnn then .showing else .dark

/-- Leave JOINING where its inputs hold together (R10). -/
def joiningTest (s : State) : State :=
  if s.sc.state = .joining ∧ s.lockMet = true ∧ s.we.promoted = true then
    (setState s.joiningExit s).modSc fun c => { c with leftJoining := some s.now }
  else s

/-- JOINING has been left at this same instant, for SHOWING or DARK (R10). -/
def State.justLeftJoining (s : State) : Bool :=
  s.sc.leftJoining == some s.now && (s.sc.state == .showing || s.sc.state == .dark)

/-- The Station Controller's tests on a change of L_ann (R10, R12, R13). A change at the instant at which JOINING was
left decides that exit, whichever of the two is taken first, and requests no LEAVE (R10; assumption log, entry 29). -/
def lampTest (s : State) : State :=
  if s.justLeftJoining then setState s.joiningExit s
  else
    match s.sc.state with
    | .showing =>
      if s.ls.lAnn < s.profile.tMin then requestLeave { reason := 1, forStop := false } (setState .dark s) else s
    | .dark => if s.profile.tReturn ≤ s.ls.lAnn then setState .showing s else s
    | .joining => joiningTest s
    | .config => s
    | .stopping => s

/-- Advance the join count, or after the join window the lock-timeout count, at an own frame start while JOINING
(R11). -/
def joinTick (c : Station) : Station :=
  if c.state = .joining then
    if c.joinCount < Config.joinWindowFrames then { c with joinCount := c.joinCount + 1 }
    else { c with lockTimeoutCount := min 1023 (c.lockTimeoutCount + 1) }
  else c

end Sys2Proof.Machine
end

