-- ==== Sys2Proof/Machine/Weights.lean ====
section
/-! DEFINITION. The Weight Engine: one vertex, a pass, and its lifecycle (07_the_weight_engine.md). -/

namespace Sys2Proof.Machine

/-! ### One vertex (R100 to R106) -/

/-- A vertex is in the zero case: outside, or L_self below T_min (R100). -/
def zeroCase (p : Profile) (w : View) (x : Vertex) : Bool := !x.inside || decide (w.lSelf < p.tMin)

/-- The coverers of a vertex that the view holds alive (R101). -/
def aliveCoverers (w : View) (x : Vertex) : List Coverer := x.coverers.filter fun c => w.alive.contains c.peer

/-- The coverage count k (R101). -/
def coverage (w : View) (x : Vertex) : Nat := 1 + (aliveCoverers w x).length

/-- The ramp sum Σr (R101). -/
def rampSum (w : View) (x : Vertex) : Nat := x.rSelf + ((aliveCoverers w x).map Coverer.ramp).sum

/-- The span S (R102). -/
def span (p : Profile) (w : View) : Nat := w.ceiling - (w.kDome - 1) * p.blackStep

/-- The floor term F at a vertex of coverage `k` (R102). -/
def floorTerm (p : Profile) (w : View) (k : Nat) : Nat := (w.kDome - k) * p.blackStep

/-- The divisor D (R103). -/
def divisor (w : View) (x : Vertex) : Nat := w.lSelf * rampSum w x

/-- A branch's quotient: the numerator's term times r_self times 32768, over D, rounded half up (R103, R104). -/
def branch (w : View) (x : Vertex) (term : Nat) : Nat := roundDiv (term * x.rSelf * Config.one) (divisor w x)

/-- What a pass finds at a vertex: its entry, its coverage count (1 in the zero case, where it takes no part), and
whether a branch saturated. -/
structure VertexResult where
  weight : Weight
  k : Nat
  saturated : Bool
  deriving DecidableEq, Repr

/-- Compute one vertex (R100 to R105). -/
def computeVertex (p : Profile) (w : View) (x : Vertex) : VertexResult :=
  if zeroCase p w x then { weight := { gain := 0, floor := 0 }, k := 1, saturated := false }
  else
    let k := coverage w x
    let a := branch w x (span p w)
    let b := branch w x (floorTerm p w k)
    { weight := { gain := min Config.one a, floor := min Config.one b }, k := k,
      saturated := decide (Config.one < a) || decide (Config.one < b) }

/-- Every vertex of a pass in index order (R107). -/
def passResults (s : State) : List VertexResult :=
  (List.range s.sc.vertexCount).map fun i => computeVertex s.profile s.we.copy (s.mt.vertex i)

/-- The pass maximum k: at least 1 (R106). -/
def passMaximumOf (l : List VertexResult) : Nat := (l.map VertexResult.k).foldl max 1

/-- The vertices at which a branch saturated (R105). -/
def saturatedCount (l : List VertexResult) : Nat := (l.filter VertexResult.saturated).length

/-! ### The lifecycle (R107 to R110) -/

/-- A weight table of zeros for the grid (R99, R117). -/
def zeroTable (c : Station) : List Weight := List.replicate c.vertexCount { gain := 0, floor := 0 }

/-- Start a pass from the view as it stands (R107). -/
def startPass (s : State) : State :=
  s.modWe fun e => { e with engine := .computing, copy := s.pt.view, position := 0, passMaximum := 1,
                            passStart := some s.now }

/-- A view change reaches the engine (R109). At the very instant of a promotion it starts a pass from the changed view,
with the again flag clear, as the other order of the two would (R111), also where the promotion has already begun the
follow-up pass, of which R109 alone would only set the flag again (assumption log, entry 51). -/
def engineViewChange (s : State) : State :=
  if s.we.engine = .idle then startPass s
  else if s.we.engine = .computing ∧ s.we.promotedAt = some s.now then startPass (s.modWe fun e => { e with again := false })
  else s.modWe fun e => { e with again := true }

/-- The instant at which the running pass completes, in ns (R107). -/
def passEnd (s : State) : Option Nat :=
  s.we.passStart.map fun t => t + s.sc.vertexCount * Config.vertexTime

/-- The pass position at the present instant: vertex `i` is computed at pass start + i × 40 ns (R98, R107). -/
def State.passPosition (s : State) : Nat :=
  match s.we.passStart with
  | some t => min s.sc.vertexCount ((s.now - t + Config.vertexTime - 1) / Config.vertexTime)
  | none => s.we.position

/-- What the running pass has found at the vertices computed since its position was last brought up to date (R107). -/
def computedSince (s : State) : List VertexResult :=
  ((List.range s.passPosition).drop s.we.position).map fun i => computeVertex s.profile s.we.copy (s.mt.vertex i)

/-- Bring a running pass up to the present instant: its position, its maximum k, and the vertices at which a branch
saturated, counted and marked (R98, R105, R106, R107). The block does so at each command that reads one of these or ends
the pass, so that each is read as it stands at that instant. -/
def runPass (s : State) : State :=
  if s.we.engine = .computing then
    let l := computedSince s
    countSaturated (saturatedCount l) (s.modWe fun e =>
      { e with position := s.passPosition, passMaximum := (l.map VertexResult.k).foldl max e.passMaximum,
               saturated := e.saturated || saturatedCount l != 0 })
  else s

/-- An own frame start promotes a pending table, marks it, and starts the follow-up pass if the again flag is set (R110).
-/
def promote (s : State) : State :=
  if s.we.engine = .pending then
    let t := s.modWe fun e =>
      { e with shown := e.work, work := e.shown, promoted := true, engine := .idle, promotedAt := some s.now }
    if s.we.again then startPass (t.modWe fun e => { e with again := false }) else t
  else s

/-- The Weight Engine at an entry to CONFIG (R15, R116). -/
def engineToConfig (c : Station) (serial : BitVec 8) (e : WeightEngine) : WeightEngine :=
  { e with engine := .idle, again := false, promoted := false, shown := zeroTable c, work := zeroTable c,
           copy := View.config serial, passStart := none, kLocal := 1, promotedAt := none }

end Sys2Proof.Machine
end

