-- ==== Sys2Proof/Machine/PeerView.lean ====
section
/-! DEFINITION. The Peer Table: entries, own entry, eligibility, the view and its changes
(04_seam_messages_and_the_peer_table.md). -/

namespace Sys2Proof.Machine

/-! ### Entries (R50, R51) -/

/-- The own entry, from the station's own blocks (R51, R68). -/
def State.ownEntry (s : State) : PeerEntry :=
  match s.sc.state.announced with
  | none => { PeerEntry.absent with depth := some s.we.kLocal }
  | some a =>
    { status := match s.sc.state with
        | .joining => .joining
        | .showing => .live
        | .config => .absent
        | .dark => .dark
        | .stopping => .dark,
      level := some s.ls.lAnn, depth := some s.we.kLocal, state := some a, lock := some s.cu.lock,
      shown := if s.sc.state = .showing then shownFrame s.fs.slots else none,
      latestReady := newestReady s.fs.slots, silence := 0, reason := none }

/-- A peer's stored entry. -/
def PeerTable.entry (t : PeerTable) (n : StationNo) : PeerEntry := t.entries.getD n.val PeerEntry.absent

/-- The entry of a station number: the own one is computed, a peer's is stored (R50, R51). -/
def State.entryAt (s : State) (n : StationNo) : PeerEntry :=
  if n = s.profile.station then s.ownEntry else s.pt.entry n

/-- Write a peer's entry. -/
def setEntry (n : StationNo) (e : PeerEntry) (s : State) : State :=
  s.modPt fun t => { t with entries := t.entries.set n.val e }

/-- A status whose silence is counted (R57). -/
def PeerStatus.heard : PeerStatus → Bool
  | .joining => true
  | .live => true
  | .dark => true
  | .absent => false
  | .silent => false
  | .mismatch => false

/-- The peers, own number left out, whose entries satisfy a test, ascending. -/
def State.peersWith (s : State) (test : PeerEntry → Bool) : List StationNo :=
  (List.finRange 16).filter fun n => n != s.profile.station && test (s.pt.entry n)

/-- Some peer entry is JOINING, LIVE or DARK (R59). -/
def State.somePeerHeard (s : State) : Bool := !(s.peersWith fun e => e.status.heard).isEmpty

/-- An entry eligible as reference (R65). -/
def PeerEntry.eligible (e : PeerEntry) : Bool :=
  e.status.heard && (e.lock == some .locked || e.lock == some .reference)

/-- The eligible peers, ascending (R65, R74). -/
def State.eligiblePeers (s : State) : List StationNo := s.peersWith PeerEntry.eligible

/-! ### The view (R62, R63) -/

/-- The alive list (R62). -/
def State.alive (s : State) : List StationNo := s.peersWith fun e => e.status == .live

/-- The view as the entries and the own figures now stand, with a serial (R62). -/
def State.formedView (s : State) (serial : BitVec 8) : View :=
  { alive := s.alive, lSelf := s.ls.lAnn,
    ceiling := (s.alive.filterMap fun n => (s.pt.entry n).level).foldl min s.ls.lAnn,
    kDome := (s.alive.filterMap fun n => (s.pt.entry n).depth).foldl max s.we.kLocal, serial := serial }

/-- Recompute the view: on a change of the alive list, T, K_dome or L_self the record is replaced, the serial advances by
one and the engine is signalled (R63). -/
def recomputeView (s : State) : State :=
  if s.formedView s.pt.view.serial = s.pt.view then s
  else engineViewChange (s.modPt fun t => { t with view := s.formedView (t.view.serial + 1) })

/-- Form the view afresh at START from the own entry alone (R64): serial advances and a view change is signalled. -/
def formViewAfresh (s : State) : State :=
  engineViewChange (s.modPt fun t =>
    { t with view := { alive := [], lSelf := 0, ceiling := 0, kDome := s.we.kLocal, serial := t.view.serial + 1 } })

/-! ### Status changes (R27, R54) -/

/-- The status a PULSE with a matching tag gives (R54). -/
def statusOf (tMin : Nat) (a : AnnouncedState) (level : Nat) : PeerStatus :=
  match a with
  | .joining => .joining
  | .showing => if tMin ≤ level then .live else .dark
  | .dark => .dark

/-- Write a peer's entry, raising PEER where a neighbour-set peer enters or leaves LIVE (R27, R67). -/
def changeEntry (n : StationNo) (e : PeerEntry) (s : State) : State :=
  let before := (s.pt.entry n).status
  let t := setEntry n e s
  if (before = .live) ≠ (e.status = .live) ∧ s.mt.neighbours.contains n = true then raisePeer t else t

/-- Advance the unheard count at an own frame start in a running state, and then, unless the table is ISOLATED or now
enters ISOLATED, every heard peer's silence count (R57, R58, R59). -/
def silenceTick (s : State) : State :=
  let limit := s.profile.silenceLimit
  let t := s.modPt fun t => { t with unheard := min limit (t.unheard + 1) }
  if t.pt.condition = .normal ∧ ¬(t.pt.unheard = limit ∧ t.somePeerHeard = true) then
    t.modPt fun q => { q with entries := q.entries.map fun e =>
      if e.status.heard then { e with silence := min limit (e.silence + 1) } else e }
  else t

/-- The Peer Table at an entry to CONFIG (R15, R64, R68). -/
def tableToConfig (t : PeerTable) : PeerTable :=
  { entries := List.replicate 16 PeerEntry.absent, condition := .normal, unheard := 0,
    view := View.config t.view.serial }

end Sys2Proof.Machine
end

