-- ==== Sys2Proof/Machine/LampSampler.lean ====
section
/-! DEFINITION. The Lamp Sampler: conversions, averages, L_ann, manual sampling (09_lamp_sensing.md). The meanings of
CONVERSION_COMPLETE and MANUAL_CONVERSION_COMPLETE stand at the end. -/

namespace Sys2Proof.Machine

/-! ### Conversions (R138, R139) -/

/-- An empty accumulator. -/
def Accumulator.zero : Accumulator := { sum := 0, number := 0 }

/-- Begin a conversion at instant `now` (ns). -/
def beginConversion (now : Nat) (channel : Channel) (manual : Bool) (l : Lamp) : Lamp :=
  { l with conversion := some { channel := channel, manual := manual, completesAt := now + Config.conversionTime } }

/-- An own frame start begins a sequence under AUTO if no conversion is in progress (R138). -/
def lampFrameStart (now : Nat) (l : Lamp) : Lamp :=
  if l.mode = .auto ∧ l.conversion = none then beginConversion now .lamp0 false l else l

/-- Take a code into an accumulator: full scale is faulted and adds nothing (R139). -/
def Accumulator.take (a : Accumulator) (code : Nat) : Accumulator :=
  if code = Config.sensorFullScale then a else { sum := a.sum + code, number := a.number + 1 }

/-- Take a code for a channel (R139). -/
def takeCode (channel : Channel) (code : Nat) (l : Lamp) : Lamp :=
  match channel with
  | .lamp0 => { l with acc0 := l.acc0.take code }
  | .lamp1 => { l with acc1 := l.acc1.take code }

/-! ### The four-sequence average (R140 to R142) -/

/-- A channel value from an accumulator with at least one unfaulted code (R140). -/
def channelValue (dark rated : Nat) (a : Accumulator) : Nat :=
  let average := a.sum / a.number
  if average ≤ dark then 0 else min Config.one (roundDiv (Config.one * (average - dark)) (rated - dark))

/-- Form channel 0's value, or hold it and set its fault mark (R140). -/
def averageLamp0 (p : Profile) (l : Lamp) : Lamp :=
  if l.acc0.number = 0 then { l with fault0 := true }
  else { l with l0 := channelValue p.dark0 p.rated0 l.acc0, fault0 := false }

/-- Form channel 1's value, or hold it and set its fault mark (R140). -/
def averageLamp1 (p : Profile) (l : Lamp) : Lamp :=
  if l.acc1.number = 0 then { l with fault1 := true }
  else { l with l1 := channelValue p.dark1 p.rated1 l.acc1, fault1 := false }

/-- L_meas from the held values (R141). -/
def measured (mode : LampMode) (l0 l1 : Nat) : Nat :=
  match mode with
  | .single => l0
  | .dual => (l0 + l1) / 2

/-- The two figures stand on different sides of a threshold (R142). -/
def crosses (threshold a b : Nat) : Bool := decide (a < threshold) != decide (b < threshold)

/-- L_ann takes L_meas (R142). -/
def announces (p : Profile) (meas ann : Nat) : Bool :=
  decide (p.lStep ≤ ((meas : Int) - (ann : Int)).natAbs) || crosses p.tMin meas ann || crosses p.tReturn meas ann

/-- The sampler's part of the four-sequence average: channel values, fault marks, accumulators, L_meas, L_ann (R140,
R141, R142). -/
def averageLamp (p : Profile) (l : Lamp) : Lamp :=
  let a := averageLamp0 p l
  let b := match p.lampMode with
    | .single => a
    | .dual => averageLamp1 p a
  let m := measured p.lampMode b.l0 b.l1
  { b with acc0 := Accumulator.zero, acc1 := Accumulator.zero, sequences := 0, lMeas := m,
           lAnn := if announces p m b.lAnn then m else b.lAnn }

/-- An L_ann that has changed is handed to the Peer Table and the Station Controller (R142). -/
def announceLamp (before : Nat) (s : State) : State :=
  if s.ls.lAnn = before then s else lampTest (recomputeView s)

/-- Form the average: a fault mark newly set raises FAULT (R140), and a changed L_ann is handed on (R142). -/
def formAverage (s : State) : State :=
  let t := s.modLs (averageLamp s.profile)
  let newFault := (t.ls.fault0 && !s.ls.fault0) || (t.ls.fault1 && !s.ls.fault1)
  announceLamp s.ls.lAnn (if newFault then raiseFault t else t)

/-- A sequence completes (R139): at the fourth the average is formed. -/
def completeSequence (s : State) : State :=
  let t := s.modLs fun l => { l with conversion := none, sequences := l.sequences + 1 }
  if Config.sequencesPerAverage ≤ t.ls.sequences then formAverage t else t

/-! ### Manual sampling (R144, R145, R147) -/

/-- SAMPLE SINGLE or CONTINUOUS on a channel (R144). -/
def startManual (now : Nat) (mode : SamplerMode) (channel : Channel) (l : Lamp) : Lamp :=
  beginConversion now channel true { l with mode := mode, stopPending := false, repeatedAt := none }

/-- SAMPLE STOP (R144). -/
def stopManual (l : Lamp) : Lamp := if l.mode = .manualContinuous then { l with stopPending := true } else l

/-- The mode moves on at the completion of a manual conversion (R145, R147). -/
def afterManual (now : Nat) (channel : Channel) (l : Lamp) : Lamp :=
  if l.autoPending then { l with mode := .auto, autoPending := false, stopPending := false }
  else
    match l.mode with
    | .manualContinuous =>
      if l.stopPending then { l with mode := .off, stopPending := false }
      else beginConversion now channel true { l with repeatedAt := some now }
    | .manualSingle => { l with mode := .off }
    | .off => l
    | .auto => l

/-- The Lamp Sampler at START, at instant `now` (ns). A conversion that a manual completion has begun at this same
instant does not go on: the mode is AUTO, as it is with START before the completion (R147). -/
def lampStart (now : Nat) (l : Lamp) : Lamp :=
  let m := { l with lAnn := 0, lMeas := 0, l0 := 0, l1 := 0, fault0 := false, fault1 := false,
                    acc0 := Accumulator.zero, acc1 := Accumulator.zero, sequences := 0, stopPending := false }
  if l.conversion.any Conversion.manual then
    if l.repeatedAt = some now then { m with mode := .auto, conversion := none } else { m with autoPending := true }
  else { m with mode := .auto }

/-- The Lamp Sampler at an entry to CONFIG (R15, R148). -/
def lampToConfig (l : Lamp) : Lamp :=
  { l with mode := .off, autoPending := false, stopPending := false, conversion := none, sequences := 0,
           acc0 := Accumulator.zero, acc1 := Accumulator.zero, lAnn := 0 }

/-! ### The events -/

/-- A conversion of this purpose completes at the present instant. -/
def State.conversionDue (s : State) (manual : Bool) : Bool :=
  s.ls.conversion.any fun c => c.manual == manual && c.completesAt == s.now

/-- A conversion of a sequence completes with a code: it is accumulated, LAMP1 follows LAMP0 in DUAL mode, and the last
channel completes the sequence (R138, R139). -/
def takeSequenceCode (code : Nat) (s : State) : State :=
  match s.ls.conversion with
  | none => s
  | some c =>
    let t := s.modLs (takeCode c.channel code)
    if c.channel = .lamp0 ∧ s.profile.lampMode = .dual then t.modLs (beginConversion s.now .lamp1 false)
    else completeSequence t

/-- A manual conversion completes with a code (R145). -/
def takeManualCode (code : BitVec 12) (s : State) : State :=
  match s.ls.conversion with
  | none => s
  | some c =>
    s.modLs fun l =>
      afterManual s.now c.channel
        { l with conversion := none, result := some { channel := c.channel, code := code }, fresh := true }

/-- CONVERSION_COMPLETE (R138 to R143). -/
def execConversionComplete (dt : Nat) (code : BitVec 12) (s : State) : Host.Outcome State Fault Refusal :=
  eventWhen dt s (fun s => s.running && s.conversionDue false) (takeSequenceCode code.toNat)

/-- MANUAL_CONVERSION_COMPLETE (R145, R147). -/
def execManualConversionComplete (dt : Nat) (code : BitVec 12) (s : State) : Host.Outcome State Fault Refusal :=
  eventWhen dt s (fun s => s.conversionDue true) (takeManualCode code)

end Sys2Proof.Machine
end

