-- ==== Sys2Proof/Machine/CadenceUnit.lean ====
section
/-! DEFINITION. The Cadence Unit: frame timer, choice of reference, phase correction, lock (05_cadence.md). -/

namespace Sys2Proof.Machine

/-! ### Lock state and reference (R71, R74, R81, R82) -/

/-- Set the reference; a change sets the previous timing to none, and a reference chosen sets the orphan count to 0 (R74,
R76). -/
def setReference (r : Option StationNo) (c : Cadence) : Cadence :=
  if c.reference = r then c
  else { c with reference := r, previous := none, orphanCount := if r.isSome then 0 else c.orphanCount }

/-- Fall to SEEKING with lock count 0 (R74, R79, R80). -/
def toSeeking (c : Cadence) : Cadence := { c with lock := .seeking, lockCount := 0 }

/-- Become REFERENCE: the reference is the own number, the base length P (R75, R76, R82). Where a PULSE after the cutoff
locks the station and this follows in the same event, P replaces the P − c that R78 has just given the coming period, of
which R78 says that it comes out as with a frame start taken first: R82's P stands (DESIGN CHOICE, assumption log, entry
54). -/
def toReference (own : StationNo) (period : Nat) (c : Cadence) : Cadence :=
  { setReference (some own) c with lock := .reference, baseLength := period, orphanCount := 0 }

/-- Enter FREE: lock count 0, base length P from the next frame start (R80). -/
def toFree (period : Nat) (c : Cadence) : Cadence :=
  { c with lock := .free, lockCount := 0, baseLength := period, orphanCount := 0 }

/-- Enter HOLD: lock count 0, previous timing none, and from the next frame start the last period as base length
(R81). -/
def toHold (period : Nat) (c : Cadence) : Cadence :=
  { c with lock := .hold, lockCount := 0, previous := none, baseLength := c.lastPeriod.getD period, orphanCount := 0 }

/-- Choose the reference from the eligible stations, peers and own (R74). -/
def chooseReference (own : StationNo) (peers : List StationNo) (period : Nat) (c : Cadence) : Cadence :=
  match c.lock with
  | .idle => c
  | .hold => c
  | .reference =>
    match lowest peers with
    | some n => if n < own then setReference (some n) (toSeeking c) else c
    | none => c
  | .seeking =>
    let d := setReference (lowest peers) c
    if lowest peers = none ∧ c.reference ≠ none then { d with baseLength := period } else d
  | .locked =>
    match lowest peers with
    | some n => if n < own then setReference (some n) c else toReference own period c
    | none => toReference own period c
  | .free =>
    if c.reference = lowest peers then c else setReference (lowest peers) (toSeeking c)

/-- Weigh the choice of reference as the entries stand (R74). -/
def weighReference (s : State) : State :=
  s.modCu (chooseReference s.profile.station s.eligiblePeers s.profile.period)

/-- Weigh the choice where the eligible peers or the own lock state differ from those of an earlier state of the same
event (R65, R74). -/
def weighIfChanged (before s : State) : State :=
  if before.eligiblePeers = s.eligiblePeers ∧ before.cu.lock = s.cu.lock then s else weighReference s

/-- After a change that may have moved the lock state: the Station Controller makes its JOINING test (R83). -/
def lockTest (before s : State) : State := if before.cu.lock = s.cu.lock then s else joiningTest s

/-! ### The frame timer (R70, R71) -/

/-- The base length the lock state gives from the next frame start on (R71): the value HOLD keeps, else P. -/
def lockBase (period : Nat) (c : Cadence) : Nat := if c.lock = .hold then c.baseLength else period

/-- The own frame start at the period end (R70). -/
def timerFrameStart (period now : Nat) (c : Cadence) : Cadence :=
  { c with latestFrameStart := some now, lastPeriod := c.latestFrameStart.map fun f => now - f, cutoffTaken := false,
           periodEnd := some (now + c.baseLength), baseLength := lockBase period c }

/-- The frame start that an accepted PROFILE makes at once (R6, R70, R84). -/
def timerProfile (period now : Nat) (c : Cadence) : Cadence :=
  { c with running := true, latestFrameStart := some now, lastPeriod := none, cutoffTaken := false,
           periodEnd := some (now + period), baseLength := period, lock := .idle, reference := none, lockCount := 0,
           orphanCount := 0, previous := none, frameCount := 0 }

/-- The counts of an own frame start in a running state: the frame count, the frame starts since START, and after the
join window the orphan count (R73, R76). The orphan count takes the reference as it stands before a peer that becomes
SILENT at this same frame start leaves the choice: R57 and R76 give no order, and the model counts first (DESIGN CHOICE,
assumption log, entry 42). -/
def frameCounts (c : Cadence) : Cadence :=
  { c with frameCount := c.frameCount + 1, windowCount := min 5 (c.windowCount + 1),
           orphanCount :=
             if Config.joinWindowFrames ≤ c.windowCount ∧ c.lock = .seeking ∧ c.reference = none then
               min Config.lockFrames (c.orphanCount + 1)
             else c.orphanCount }

/-- The Cadence Unit at START (R84). -/
def cadenceStart (period : Nat) (c : Cadence) : Cadence :=
  { c with lock := .seeking, reference := none, lockCount := 0, orphanCount := 0, previous := none, frameCount := 0,
           baseLength := period, windowCount := 0 }

/-- The Cadence Unit at an entry to CONFIG (R84): the period in progress keeps its end. -/
def cadenceToConfig (period : Nat) (c : Cadence) : Cadence :=
  { c with lock := .idle, reference := none, lockCount := 0, orphanCount := 0, previous := none, baseLength := period }

/-! ### Phase (R78) -/

/-- The raw error brought into −P/2 < e ≤ P/2 by whole multiples of P (R78). -/
def foldError (period : Nat) (raw : Int) : Int :=
  let m := raw % (period : Int)
  if 2 * m ≤ period then m else m - period

/-- The anchor the phase error is measured from: the latest frame start before the cutoff, the period end after it (R78).
-/
def Cadence.anchor (c : Cadence) : Nat :=
  if c.cutoffTaken then c.periodEnd.getD 0 else c.latestFrameStart.getD 0

/-- The phase error of a reference frame start (R77, R78). -/
def phaseError (period : Nat) (c : Cadence) (tRef : Int) : Int := foldError period ((c.anchor : Int) - tRef)

/-- The correction: e/4 truncated toward zero, clamped to −slew..+slew (R78). -/
def correction (slew : Nat) (e : Int) : Int := max (-(slew : Int)) (min (slew : Int) (e.tdiv 4))

/-- P − c in whole µs. -/
def correctedLength (period : Nat) (c : Int) : Nat := ((period : Int) - c).toNat

/-- Apply a correction (R78): before the cutoff to the period in progress, after it to the coming one. The second
component says that the cutoff now occurs at once. `now` is in ns. -/
def applyCorrection (p : Profile) (now : Nat) (e : Int) (c : Cadence) : Cadence × Bool :=
  let length := correctedLength p.period (correction p.slew e)
  if c.cutoffTaken then ({ c with baseLength := length }, false)
  else
    let finish := c.latestFrameStart.getD 0 + length
    if toNs (finish - p.cutoffLead) ≤ now then
      ({ c with periodEnd := some (micros now + p.cutoffLead) }, true)
    else ({ c with periodEnd := some finish }, false)

/-! ### Lock count and FREE (R79, R80) -/

/-- The lock count rule (R79). -/
def lockRule (p : Profile) (e : Int) (c : Cadence) : Cadence :=
  if e.natAbs ≤ p.lockTolerance then
    let n := min Config.lockFrames (c.lockCount + 1)
    if c.lock = .seeking ∧ n = Config.lockFrames then { c with lockCount := n, lock := .locked, orphanCount := 0 }
    else { c with lockCount := n }
  else if c.lock = .locked ∧ p.unlockThreshold < e.natAbs then toSeeking c
  else { c with lockCount := 0 }

/-- Δ, where the beat follows the previous beat (R77). -/
def beatDelta (c : Cadence) (tRef : Int) (beat : BitVec 8) : Option Int :=
  match c.previous with
  | some t => if beat = t.beat + 1 then some (tRef - t.tRef) else none
  | none => none

/-- The tests on Δ (R80): SEEKING or LOCKED enters FREE beyond free enter, FREE leaves for SEEKING within free exit. -/
def freeTest (p : Profile) (delta : Option Int) (c : Cadence) : Cadence :=
  match delta with
  | none => c
  | some d =>
    let off := (d - (p.period : Int)).natAbs
    match c.lock with
    | .seeking => if p.freeEnter < off then toFree p.period c else c
    | .locked => if p.freeEnter < off then toFree p.period c else c
    | .free => if off < p.freeExit then toSeeking c else c
    | .idle => c
    | .reference => c
    | .hold => c

/-- The PULSE is a reference PULSE: its sender is the reference and the lock state is SEEKING, LOCKED or FREE (R77). -/
def Cadence.takesPulse (c : Cadence) (sender : StationNo) : Bool :=
  c.reference == some sender && (c.lock == .seeking || c.lock == .locked || c.lock == .free)

end Sys2Proof.Machine
end

