-- ==== Sys2Proof/Machine/SwapUnit.lean ====
section
/-! DEFINITION. The Swap Unit: snapshot, group, target, decision, divergence (06_swap_agreement.md). -/

namespace Sys2Proof.Machine

/-- A lock that makes a station eligible, and a member of swap groups: LOCKED or REFERENCE (R88). -/
def LockState.inStep (l : LockState) : Bool := l == .locked || l == .reference

/-- The peers of the swap group: LIVE, and LOCKED or REFERENCE in their entry (R88). -/
def State.groupPeers (s : State) : List StationNo :=
  s.peersWith fun e => e.status == .live && (e.lock.any LockState.inStep)

/-- The serial min of a frame and the latest READY numbers of the group's peers in ascending order; none where one of
them is none (R89). -/
def serialMin : FrameNo → List (Option FrameNo) → Option FrameNo
  | f, [] => some f
  | _, none :: _ => none
  | f, some g :: l => serialMin (if older g f then g else f) l

/-- The swap target from the snapshot (R87, R88, R89). -/
def State.swapTarget (s : State) : Option FrameNo :=
  match newestReady s.fs.slots with
  | none => none
  | some f =>
    if s.cu.lock.inStep then serialMin f (s.groupPeers.map fun n => (s.pt.entry n).latestReady) else some f

/-- The target is newer than the SHOWN frame, or no frame is SHOWN (R90). -/
def targetCalls (shown : Option FrameNo) (target : FrameNo) : Bool :=
  match shown with
  | none => true
  | some f => newer target f

/-- Mark a slot chosen (R91). -/
def chooseSlot (i : SlotNo) (l : List Slot) : List Slot :=
  mapSlots (fun j x =>
    match x with
    | .ready f r c => .ready f r (c || j == i)
    | .free => .free
    | .filling => .filling
    | .shown f => .shown f) l

/-- The decision of a cutoff in a running state (R90, R91). -/
def decideSwap (s : State) : State :=
  match s.swapTarget with
  | none => s.setSwu .hold
  | some target =>
    if targetCalls (shownFrame s.fs.slots) target then
      match readySlotOf s.fs.slots target with
      | some i => (s.modFs fun f => { f with slots := chooseSlot i f.slots }).setSwu (.swap target i)
      | none => countSwapMiss (s.setSwu .hold)
    else s.setSwu .hold

/-- The cutoff of the period in progress (R72): the period end is fixed, and in a running state the Swap Unit
decides. -/
def takeCutoff (s : State) : State :=
  let t := s.modCu fun c => { c with cutoffTaken := true }
  if s.running then decideSwap t else t

/-- Take a reference PULSE's timings (R77): phase error, Δ tests, and in SEEKING or LOCKED the correction, with the
cutoff where it now occurs at once, and the lock count; then the previous timing. A lock change is weighed at the end
(R74, R83), after the timing has been stored, so that a station which then becomes REFERENCE keeps no previous timing: R77
and R83 give no order of the two (DESIGN CHOICE, assumption log, entry 43). -/
def takeReferencePulse (tRef : Int) (beat : BitVec 8) (s : State) : State :=
  let p := s.profile
  let e := phaseError p.period s.cu tRef
  let s1 := s.modCu fun c => freeTest p (beatDelta c tRef beat) c
  let s2 :=
    if s1.cu.lock = .seeking ∨ s1.cu.lock = .locked then
      let a := applyCorrection p s1.now e s1.cu
      let t := s1.modCu fun _ => a.1
      (if a.2 then takeCutoff t else t).modCu (lockRule p e)
    else s1
  let s3 := s2.modCu fun c => { c with previous := some { tRef := tRef, beat := beat } }
  if s3.cu.lock = s.cu.lock then s3 else weighReference s3

/-- The own frame for the period of a sender whose frame start was `ts` µs (R96). -/
def State.ownFrameFor (s : State) (ts : Int) : Option FrameNo :=
  let late := decide ((s.profile.period : Int) < 2 * (ts - (s.cu.latestFrameStart.getD 0 : Nat)))
  if s.cu.cutoffTaken && late then
    match s.swu with
    | .swap target _ => some target
    | .hold => shownFrame s.fs.slots
    | .none => shownFrame s.fs.slots
  else shownFrame s.fs.slots

/-- Examine a PULSE of a LIVE peer for divergence (R96), after the Cadence Unit has taken it (assumption log, entry 30).
-/
def examinePulse (ts : Int) (lock : LockState) (shown : FrameNo) (s : State) : State :=
  match s.ownFrameFor ts with
  | some f =>
    if s.running && s.cu.lock.inStep && lock.inStep && shown != f then countDiverge s else s
  | none => s

end Sys2Proof.Machine
end

