-- ==== Sys2Proof/Machine/FrameEvents.lean ====
section
/-! DEFINITION. The meanings of the rows that the frame timer and the weight engine's clock make: FRAME_START, CUTOFF,
SILENT, ISOLATED, COLD_START_TEST, ORPHAN_TEST, LOCK_TIMEOUT and PASS_COMPLETE.

SILENT to LOCK_TIMEOUT are parts of one own frame start: FRAME_START advances the counts, and each of those rows takes
one consequence at the same instant (assumption log, entry 5). -/

namespace Sys2Proof.Machine

/-! ### The PULSE of a frame start (R47, R73) -/

/-- The announced state's code in a PULSE (R47). -/
def announcedCode (s : State) : BitVec 2 := BitVec.ofNat 2 ((s.sc.state.announced.map AnnouncedState.code).getD 0)

/-- The PULSE requested at the latest own frame start, its fields from the own entry as it stands (R47, R73). -/
def pulseRequestOf (s : State) : PulseRequest :=
  { beat := s.cu.frameCount.truncate 8, shown := s.ownEntry.shown.getD 0, level := BitVec.ofNat 16 s.ls.lAnn,
    depth := BitVec.ofNat 2 (s.we.kLocal - 1), state := announcedCode s, lock := BitVec.ofNat 3 s.cu.lock.code,
    tag := s.sc.domeTag, frameStart := s.cu.latestFrameStart.getD 0 }

/-- Bring a PULSE still queued from the latest own frame start up to the own entry as it now stands (R47: the change of
the same frame start was taken first). -/
def refreshPulse (s : State) : State :=
  modQueue (fun q =>
    { q with pulse := q.pulse.map fun m =>
        if m.msg.frameStart = s.cu.latestFrameStart.getD 0 then { m with msg := pulseRequestOf s } else m }) s

/-- The other blocks' order against a consequence of the same own frame start: the PULSE (R47), and the output frame
where the station has moved into SHOWING (R120). -/
def applyOrder (order : SameInstant) (before after : State) : State :=
  let t := if order.pulseAfter then refreshPulse after else after
  if order.outputAfter = true ∧ before.sc.state ≠ .showing ∧ after.sc.state = .showing then beginOutputFrame t else t

/-! ### FRAME_START -/

/-- An own frame start in a running state: frame count (R73), unheard and silence counts (R57, R58), conversion sequence
(R138), join counts (R11), promotion (R110), JOINING test (R10), output frame (R119, R120) and PULSE request (R47). -/
def frameStartRunning (order : SameInstant) (s : State) : State :=
  let counted := ((silenceTick (s.modCu frameCounts)).modLs (lampFrameStart s.now)).modSc joinTick
  let begun := if order.outputAfter then counted else beginOutputFrame counted
  let promoted := joiningTest (promote begun)
  let pulsed := requestPulse (pulseRequestOf (if order.pulseAfter then promoted else counted)) promoted
  if order.outputAfter then beginOutputFrame pulsed else pulsed

/-- An own frame start (R70): the timer, the enactment (R92, R93), the marks (R165), and what the station state adds. -/
def takeFrameStart (order : SameInstant) (s : State) : State :=
  let t := (enactDecision (s.modCu (timerFrameStart s.profile.period (micros s.now)))).modFs latchMarks
  if t.running then frameStartRunning order t else beginOutputFrame t

/-- The present instant is the period end (R70). -/
def State.frameStartDue (s : State) : Bool := s.cu.running && s.cu.periodEnd.any fun e => toNs e == s.now

/-- FRAME_START (R70). -/
def execFrameStart (dt : Nat) (order : SameInstant) (s : State) : Host.Outcome State Fault Refusal :=
  eventWhen dt s State.frameStartDue (takeFrameStart order)

/-! ### CUTOFF -/

/-- The present instant lies C before the period end, and the period's cutoff has not occurred (R72). -/
def State.cutoffDue (s : State) : Bool :=
  s.cu.running && !s.cu.cutoffTaken && s.cu.periodEnd.any fun e => toNs e == s.now + toNs s.profile.cutoffLead

/-- CUTOFF (R72, R87 to R91). -/
def execCutoff (dt : Nat) (s : State) : Host.Outcome State Fault Refusal := eventWhen dt s State.cutoffDue takeCutoff

/-! ### SILENT and ISOLATED -/

/-- At an own frame start in NORMAL, a heard peer's silence count stands at the silence limit (R57). -/
def State.silentDue (peer : StationNo) (s : State) : Bool :=
  s.atFrameStart && s.running && s.pt.condition == .normal && peer != s.profile.station
    && (s.pt.entry peer).status.heard && (s.pt.entry peer).silence == s.profile.silenceLimit

/-- The entry becomes SILENT (R57): the view is recomputed (R63, R111), and the change in eligibility weighed (R65, R74).
-/
def takeSilent (peer : StationNo) (order : SameInstant) (s : State) : State :=
  let viewed := recomputeView (changeEntry peer { s.pt.entry peer with status := .silent } s)
  applyOrder order s (lockTest s (weighIfChanged s viewed))

/-- SILENT (R57). -/
def execSilent (dt : Nat) (peer : StationNo) (order : SameInstant) (s : State) : Host.Outcome State Fault Refusal :=
  eventWhen dt s (State.silentDue peer) (takeSilent peer order)

/-- At an own frame start in NORMAL, the unheard count stands at the silence limit and some peer is heard (R59). -/
def State.isolatedDue (s : State) : Bool :=
  s.atFrameStart && s.running && s.pt.condition == .normal && s.pt.unheard == s.profile.silenceLimit
    && s.somePeerHeard

/-- The table enters ISOLATED: FAULT is raised and the Cadence Unit enters HOLD (R59, R81). -/
def takeIsolated (order : SameInstant) (s : State) : State :=
  let t := (raiseFault (s.modPt fun t => { t with condition := .isolated })).modCu (toHold s.profile.period)
  applyOrder order s (lockTest s t)

/-- ISOLATED (R59). -/
def execIsolated (dt : Nat) (order : SameInstant) (s : State) : Host.Outcome State Fault Refusal :=
  eventWhen dt s State.isolatedDue (takeIsolated order)

/-! ### COLD_START_TEST, ORPHAN_TEST and LOCK_TIMEOUT -/

/-- The own number is lower than every number of a list (R75, R76). -/
def State.lowestAmong (s : State) (l : List StationNo) : Bool := l.all fun n => decide (s.profile.station < n)

/-- The station becomes REFERENCE, and the Station Controller makes its JOINING test (R75, R76, R82, R83). -/
def becomeReference (order : SameInstant) (s : State) : State :=
  applyOrder order s (lockTest s (s.modCu (toReference s.profile.station s.profile.period)))

/-- SEEKING without a reference, and no peer eligible (R75, R76). -/
def State.leaderless (s : State) : Bool :=
  s.cu.lock == .seeking && s.cu.reference == none && s.eligiblePeers.isEmpty

/-- The fourth own frame start after START (R75). -/
def State.coldStartDue (s : State) : Bool := s.atFrameStart && s.running && s.cu.windowCount == Config.joinWindowFrames

/-- The cold-start test (R75). -/
def takeColdStartTest (order : SameInstant) (s : State) : State :=
  if s.leaderless && s.lowestAmong (s.peersWith fun e => e.status == .joining) then becomeReference order s else s

/-- COLD_START_TEST (R75). -/
def execColdStartTest (dt : Nat) (order : SameInstant) (s : State) : Host.Outcome State Fault Refusal :=
  eventWhen dt s State.coldStartDue (takeColdStartTest order)

/-- An own frame start at which the orphan count stands at 4 (R76). -/
def State.orphanDue (s : State) : Bool := s.atFrameStart && s.running && s.cu.orphanCount == Config.lockFrames

/-- The orphan test (R76). -/
def takeOrphanTest (order : SameInstant) (s : State) : State :=
  if s.leaderless && s.lowestAmong (s.peersWith fun e => e.status.heard) then becomeReference order s else s

/-- ORPHAN_TEST (R76). -/
def execOrphanTest (dt : Nat) (order : SameInstant) (s : State) : Host.Outcome State Fault Refusal :=
  eventWhen dt s State.orphanDue (takeOrphanTest order)

/-- An own frame start in JOINING at which the lock-timeout count has reached the lock timeout (R11). -/
def State.lockTimeoutDue (s : State) : Bool :=
  s.atFrameStart && s.sc.state == .joining && decide (s.profile.lockTimeout ≤ s.sc.lockTimeoutCount)

/-- The lock condition is waived; the station leaves JOINING at once where a table has been promoted (R11). -/
def takeLockTimeout (order : SameInstant) (s : State) : State :=
  applyOrder order s (joiningTest (s.modSc fun c => { c with lockWaived := true }))

/-- LOCK_TIMEOUT (R11). -/
def execLockTimeout (dt : Nat) (order : SameInstant) (s : State) : Host.Outcome State Fault Refusal :=
  eventWhen dt s State.lockTimeoutDue (takeLockTimeout order)

/-! ### PASS_COMPLETE -/

/-- The running pass's last vertex has been computed at the present instant (R107). -/
def State.passCompleteDue (s : State) : Bool := s.running && s.we.engine == .computing && passEnd s == some s.now

/-- A pass completes: its last vertices are computed, WORK is replaced, the engine is PENDING, K_local is published, and
the view is recomputed (R105, R106, R108). -/
def takePassComplete (s : State) : State :=
  let l := passResults s
  let k := passMaximumOf l
  recomputeView ((runPass s).modWe fun e =>
    { e with work := l.map VertexResult.weight, engine := .pending, passStart := none, position := s.sc.vertexCount,
             passMaximum := k, kLocal := k })

/-- PASS_COMPLETE (R108). -/
def execPassComplete (dt : Nat) (s : State) : Host.Outcome State Fault Refusal :=
  eventWhen dt s State.passCompleteDue takePassComplete

end Sys2Proof.Machine
end

