-- ==== Sys2Proof/Machine/ConfigEntry.lean ====
section
/-! DEFINITION. The entry to CONFIG, the resets, START and an accepted PROFILE as whole-part operations
(R6, R9, R15, R16, R17), and the meanings of HARDWARE_RESET and RSTN_RELEASE. -/

namespace Sys2Proof.Machine

/-- The entry to CONFIG (R15): every block takes its entry effects, a running pass ending where it stands; the profile,
the mesh, the counters, the trap and the pending causes are kept. The serial is kept as it stands at the entry: a pass
completion taken first at the same instant may have advanced it (R63, R108), and R116, which gives one end state for either
order, does not say whether that takes in the serial (DESIGN CHOICE, assumption log, entry 44). -/
def enterConfig (before : State) : State :=
  let s := runPass before
  ((((((((setState .config s).modSlc linkToConfig).modPt tableToConfig).modCu
    (cadenceToConfig s.profile.period)).modWe (engineToConfig s.sc s.pt.view.serial)).setSwu .none).modFs
      storeToConfig).modLs lampToConfig).modWbp pipelineToConfig

/-- The completion or drop of STOP's LEAVE ends STOPPING (R15, R40, R41). -/
def stopComplete (s : State) : State := if s.sc.state = .stopping then enterConfig s else s

/-- The soft reset of the RESET command (R16). Where it ends a message on the line, the line monitor goes on from what
SEAM shows (R32, R46). -/
def softReset (line : LineLevel) (s : State) : State :=
  let t := clearCounters (enterConfig (s.modSlc fun l =>
    if l.busy then setLine line.dominant (s.now - line.run) l else l))
  (t.modLs fun l => { l with fresh := false }).modSc fun c =>
    { c with joinCount := 0, lockTimeoutCount := 0, lockWaived := false }

/-- The start-up actions of an accepted START (R9), all within its event. -/
def startShow (s : State) : State :=
  let s1 := (setState .joining s).modSc fun c => { c with joinCount := 0, lockTimeoutCount := 0, lockWaived := false }
  let s2 := (s1.modLs (lampStart s.now)).modCu (cadenceStart s.profile.period)
  let s3 := ((s2.modSlc (linkStart s.now)).modFs (storeStart (micros s.now))).modPt fun t => { t with unheard := 0 }
  formViewAfresh ((s3.modWe fun e => { e with saturated := false }).modWbp fun w => { w with underrun := false })

/-- The effects of an accepted PROFILE (R5, R6, R7, R28, R84, R117, R134): the record is replaced, the mesh unmarked, the
weight tables sized, and the frame timer restarted with a frame start now. The pass position returns to 0 and the pass
maximum to 1, as after hardware reset, which R117 leaves open (assumption log, entry 31). -/
def acceptProfile (r : RawProfile) (s : State) : State :=
  let p := clampProfile r
  let s1 := (s.modSc fun c =>
    { c with profile := p, profileValid := true, domeTag := domeTagOf p, clamped := (firstClamped r).isSome,
             firstClamped := (firstClamped r).getD 0 }).modMt fun _ => Mesh.blank
  let s2 := s1.modWe fun e =>
    { e with shown := zeroTable s1.sc, work := zeroTable s1.sc, kLocal := 1, position := 0, passMaximum := 1 }
  let s3 := (s2.modCu (timerProfile p.period (micros s.now))).modFs latchMarks
  beginOutputFrame s3

/-- The part while RSTN is low: every block at its hardware reset value (R17); the timebase, the waiting commands and
what the DRAM holds are not part of any block's reset. -/
def heldInReset (s : State) : State :=
  { State.reset with pending := s.pending, now := s.now, rstnLow := true, slc := Link.reset s.now,
                     fs := FrameStore.reset s.fs.memory s.fs.parity }

/-- HARDWARE_RESET (R17): RSTN goes low. -/
def execHardwareReset (dt : Nat) (s : State) : Host.Outcome State Fault Refusal := .next (heldInReset (s.advance dt))

/-- RSTN is released: the blocks run from their reset values, and the quiet count starts at 0 (R17, R32). -/
def releaseReset (s : State) : State :=
  if s.rstnLow then ({ s with rstnLow := false }).modSlc fun l => { l with since := s.now } else s

/-- RSTN_RELEASE (R17, R179). -/
def execRstnRelease (dt : Nat) (s : State) : Host.Outcome State Fault Refusal := .next (releaseReset (s.advance dt))

end Sys2Proof.Machine
end

