-- ==== Sys2Proof/Machine/LinkEvents.lean ====
section
/-! DEFINITION. The meanings of the seam link's signalling rows: START_MARK_BEGIN, ARBITRATION_LOST, BIT_FAULT,
MESSAGE_COMPLETE, ARBITRATION_FIELD_END, PULSE_EXPIRED, STUCK, LINK_NORMAL, START_MARK_RECOGNISED,
MESSAGE_ENDED_SHORT and STRAY_PULSE (03_seam_link_signalling.md). -/

namespace Sys2Proof.Machine

/-! ### START_MARK_BEGIN -/

/-- The message with which the station is due at the present instant, if it is (R36, R37). -/
def State.dueOffer (s : State) : Option Offer := s.slc.queue.offer.filter s.dueWith

/-- The station may begin its start mark now, or join a mark whose first edge fell `joined` ns ago (R37). -/
def State.startMarkDue (joined : Nat) (s : State) : Bool :=
  s.dueOffer.isSome && decide (joined ≤ Config.joinWindow) && decide (joined ≤ s.now)

/-- Begin the due message's start mark (R37). -/
def takeStartMark (joined : Nat) (s : State) : State :=
  match s.dueOffer with
  | some o => beginOffer o (s.now - joined) s
  | none => s

/-- START_MARK_BEGIN (R37, R42). -/
def execStartMarkBegin (dt joined : Nat) (s : State) : Host.Outcome State Fault Refusal :=
  eventWhen dt s (State.startMarkDue joined) (takeStartMark joined)

/-! ### ARBITRATION_LOST and ARBITRATION_FIELD_END -/

/-- The on-line message loses arbitration if the line is dominant now (R38). -/
def State.arbitrationLossDue (s : State) : Bool :=
  s.slc.onLine.any fun m => losesArbitration s.profile.station m s.now

/-- The station stops driving and goes on as the receiver of the message on the line. -/
def receiveOn (t0 : Nat) (own : Bool) (l : Link) : Link := { l with onLine := none, receiver := .receiving t0 own }

/-- Arbitration is lost (R38). -/
def takeArbitrationLoss (s : State) : State :=
  match s.slc.onLine with
  | some m => returnToQueue m m.retries false ((countLostArb s).modSlc (receiveOn m.t0 false))
  | none => s

/-- ARBITRATION_LOST (R38). -/
def execArbitrationLost (dt : Nat) (s : State) : Host.Outcome State Fault Refusal :=
  eventWhen dt s State.arbitrationLossDue takeArbitrationLoss

/-- The end of cell 10 of the on-line message (R33, Transmitter states). -/
def State.fieldEndDue (s : State) : Bool :=
  s.slc.onLine.any fun m => !m.sending && s.now == m.t0 + 10 * Config.bitTime

/-- The message has passed its arbitration field: SENDING. -/
def takeFieldEnd (s : State) : State :=
  s.modSlc fun l => { l with onLine := l.onLine.map fun m => { m with sending := true } }

/-- ARBITRATION_FIELD_END (R38, Transmitter states). -/
def execArbitrationFieldEnd (dt : Nat) (s : State) : Host.Outcome State Fault Refusal :=
  eventWhen dt s State.fieldEndDue takeFieldEnd

/-! ### BIT_FAULT and MESSAGE_COMPLETE -/

/-- A sample taken now at this level is a bit fault of the on-line message (R39). -/
def State.bitFaultDue (level : Bool) (s : State) : Bool :=
  s.slc.onLine.any fun m => isBitFault s.profile.station m s.now level

/-- The message whose retry count has been raised to `n` returns as a retry, or is dropped past the retry limit (R39,
R40). Past the limit TXDROP is counted also where a newer request already fills the slot: R40 drops the message and yet
counts no TXDROP for one that a newer one replaces, and the model takes the limit first (DESIGN CHOICE, assumption log,
entry 40). -/
def retryOrDrop (m : OnLine) (n : Nat) (s : State) : State :=
  if n ≤ s.profile.retryLimit then returnToQueue m n true s
  else
    let t := countTxDrop s
    if m.body.isStopLeave then stopComplete t else t

/-- A bit fault (R39, R40); the line monitor goes on from the level found and how long the line has stood at it (R32). -/
def takeBitFault (line : LineLevel) (s : State) : State :=
  match s.slc.onLine with
  | some m =>
    retryOrDrop m (m.retries + 1)
      ((countBitFault s).modSlc fun l => setLine line.dominant (s.now - line.run) (receiveOn m.t0 true l))
  | none => s

/-- BIT_FAULT (R39, R40). -/
def execBitFault (dt : Nat) (line : LineLevel) (s : State) : Host.Outcome State Fault Refusal :=
  eventWhen dt s (State.bitFaultDue line.dominant) (takeBitFault line)

/-- The last CRC cell of the on-line message ends now (R33, R41). -/
def State.completionDue (s : State) : Bool :=
  s.slc.onLine.any fun m => m.sending && s.now == m.t0 + m.body.length * Config.bitTime

/-- The message completes (R41): the last-won flag is set, the on-line message released, the line quiet since its last
pulse (R32), and STOP's LEAVE reported (R15). -/
def takeCompletion (s : State) : State :=
  match s.slc.onLine with
  | some m =>
    let t := s.modSlc fun l =>
      setLine false (lastPulseEnd m.t0 m.body.length (sentCrc s.profile.station m.body))
        { l with lastWon := true, onLine := none, receiver := .waiting }
    if m.body.isStopLeave then stopComplete t else t
  | none => s

/-- MESSAGE_COMPLETE (R41). -/
def execMessageComplete (dt : Nat) (s : State) : Host.Outcome State Fault Refusal :=
  eventWhen dt s State.completionDue takeCompletion

/-! ### PULSE_EXPIRED -/

/-- A PULSE in its slot has reached its deadline (R42). -/
def State.expiryDue (s : State) : Bool := s.slc.queue.pulse.any fun m => pulseOverdue s.now m.msg

/-- PULSE_EXPIRED (R42). -/
def execPulseExpired (dt : Nat) (s : State) : Host.Outcome State Fault Refusal := eventWhen dt s State.expiryDue dropPulse

/-! ### STUCK and LINK_NORMAL -/

/-- What the line monitor knows allows a dominant run that began at `t` (R32): the line was recessive up to `t`, or has
stood dominant since. -/
def Link.allowsRun (l : Link) (t : Nat) : Bool := !l.busy && (if l.dominant then l.since == t else decide (l.since ≤ t))

/-- The line has been dominant for 8 bit times (R43). -/
def State.stuckDue (s : State) : Bool :=
  decide (Config.stuckTime * Config.bitTime ≤ s.now) && s.slc.allowsRun (s.now - Config.stuckTime * Config.bitTime)

/-- The link becomes STUCK and FAULT is raised; a link already STUCK stays so (R43). -/
def takeStuck (s : State) : State :=
  let t := s.modSlc fun l => setLine true (s.now - Config.stuckTime * Config.bitTime) { l with condition := .stuck }
  if s.slc.condition = .normal then raiseFault t else t

/-- STUCK (R43). -/
def execStuck (dt : Nat) (s : State) : Host.Outcome State Fault Refusal := eventWhen dt s State.stuckDue takeStuck

/-- The quiet count has reached 40 while STUCK (R43). -/
def State.linkNormalDue (s : State) : Bool := s.slc.condition == .stuck && s.quietCount == Config.quietMax

/-- LINK_NORMAL (R43): no cause is raised. -/
def execLinkNormal (dt : Nat) (s : State) : Host.Outcome State Fault Refusal :=
  eventWhen dt s State.linkNormalDue fun s => s.modSlc fun l => { l with condition := .normal }

/-! ### START_MARK_RECOGNISED -/

/-- How long after its first edge the value samples of cells 2 to 4 decide a start mark (R33). -/
def markDecidedAfter (cell2 cell3 : Bool) : Nat :=
  (if !cell2 then 1 else if !cell3 then 2 else 3) * Config.bitTime + Config.valueSample

/-- A start mark passes the samples of R33. -/
def markPasses (cell2 cell3 cell4 : Bool) : Bool := cell2 && cell3 && !cell4

/-- The level the deciding sample found. -/
def markLevel (cell2 cell3 cell4 : Bool) : Bool := cell2 && cell3 && cell4

/-- The start mark's deciding sample can fall now, the line having stood at its present level for `run` ns. -/
def State.startMarkSeen (cell2 cell3 cell4 : Bool) (run : Nat) (s : State) : Bool :=
  let after := markDecidedAfter cell2 cell3
  decide (after ≤ s.now) && s.slc.allowsRun (s.now - after) && decide (run ≤ after)
    && (markLevel cell2 cell3 cell4 || decide (run + Config.bitTime ≤ after))

/-- The receiver takes a start mark whose first edge fell `after` ns ago: a running state, the link NORMAL, a start mark
waited for, and the mark recognised, one bit time after its first edge, no earlier than START (R33, R44). A mark recognised
at the very instant of START counts as recognised after it: R44 tells only of marks recognised after the START event, and
the queue cannot give the other order (DESIGN CHOICE, assumption log, entry 50). -/
def State.takesMark (after : Nat) (s : State) : Bool :=
  s.running && s.slc.condition == .normal && s.slc.receiver == .waiting
    && decide (s.slc.listenFrom + after ≤ s.now + Config.bitTime)

/-- A start mark the receiver takes (R33): it clears the last-won flag (R36); a good one opens a message, and a malformed
one counts CHECKFAIL and is discarded, the next one to begin after the line has been recessive. -/
def takeMark (cell2 cell3 cell4 : Bool) (run : Nat) (s : State) : State :=
  let after := markDecidedAfter cell2 cell3
  if markPasses cell2 cell3 cell4 then
    s.modSlc fun l => { l with lastWon := false, receiver := .receiving (s.now - after) false }
  else
    (countCheckFail s).modSlc fun l =>
      { l with lastWon := false,
               receiver := if markLevel cell2 cell3 cell4 ∧ after ≤ run then .spent else .waiting }

/-- The line monitor follows the mark (R32), and the receiver takes it where it takes marks (R44). -/
def takeStartMarkSeen (cell2 cell3 cell4 : Bool) (run : Nat) (s : State) : State :=
  let level := markLevel cell2 cell3 cell4
  let t := s.modSlc (setLine level (s.now - run))
  if s.takesMark (markDecidedAfter cell2 cell3) then takeMark cell2 cell3 cell4 run t
  else if level then t else t.modSlc fun l => { l with receiver := l.receiver.released }

/-- START_MARK_RECOGNISED (R32, R33, R44). -/
def execStartMarkRecognised (dt : Nat) (cell2 cell3 cell4 : Bool) (run : Nat) (s : State) :
    Host.Outcome State Fault Refusal :=
  eventWhen dt s (State.startMarkSeen cell2 cell3 cell4 run) (takeStartMarkSeen cell2 cell3 cell4 run)

/-! ### MESSAGE_ENDED_SHORT -/

/-- The cause can be found at this instant of a message with start mark at `t0` (R31, R44). Only the cells from the fifth on
end it short: where a bit fault aborts the own message within its start mark, R39 does not say whether the rest of the mark
is judged by R33, and the model judges no further sample of it (DESIGN CHOICE, assumption log, entry 41). -/
def shortFoundAt (c : ShortCause) (t0 now : Nat) : Bool :=
  match c with
  | .leadRecessive => decide (t0 + 4 * Config.bitTime ≤ now) && offsetAt t0 now == Config.leadSample
  | .tailDominant => decide (t0 + 4 * Config.bitTime ≤ now) && offsetAt t0 now == Config.tailSample
  | .kindThree => now == t0 + 6 * Config.bitTime

/-- The line's level where a message ends short. -/
def shortLevel : ShortCause → Bool
  | .leadRecessive => false
  | .tailDominant => true
  | .kindThree => false

/-- The message being received ends short now (R44). -/
def State.shortDue (c : ShortCause) (run : Nat) (s : State) : Bool :=
  match s.slc.receiver with
  | .receiving t0 _ => s.running && shortFoundAt c t0 s.now && decide (run ≤ s.now)
  | _ => false

/-- A run that ends a message by its tail sample is recognised as a start mark (R44). One that has stood for longer than
the deciding sample of cell 4 has passed all its samples within the message, the last of them found dominant: its mark is
malformed (R33). Only a message of the station's own, aborted within its start mark, can meet such a run. -/
def runIsSpentMark (c : ShortCause) (run : Nat) : Bool :=
  shortLevel c && decide (markDecidedAfter true true ≤ run)

/-- The start mark of a run that has passed its samples is discarded at once, and the next one must begin after the line
has been recessive (R33, R44). Where the run stands since the station's own t0 it is the aborted message's own mark: it
counts no CHECKFAIL (R39) and leaves the last-won flag (R36), of which the manual does not tell (DESIGN CHOICE, assumption
log, entry 59); any other is taken as a malformed mark. -/
def takeSpentMark (t0 run : Nat) (s : State) : State :=
  if s.now ≤ t0 + run then s.modSlc fun l => { l with receiver := .spent } else takeMark true true true run s

/-- A message ends short: it is discarded with CHECKFAIL counted, unless it is the station's own aborted message (R39,
R44). The receiver waits for the next start mark: the dominant run that ended the message opens one, recognised at its own
deciding sample, or here where that has passed. -/
def takeShort (c : ShortCause) (run : Nat) (s : State) : State :=
  match s.slc.receiver with
  | .receiving t0 own =>
    let t := s.modSlc fun l => setLine (shortLevel c) (s.now - run) { l with receiver := .waiting }
    let u := if own then t else countCheckFail t
    if runIsSpentMark c run then takeSpentMark t0 run u else u
  | _ => s

/-- MESSAGE_ENDED_SHORT (R44). -/
def execMessageEndedShort (dt : Nat) (cause : ShortCause) (run : Nat) (s : State) : Host.Outcome State Fault Refusal :=
  eventWhen dt s (State.shortDue cause run) (takeShort cause run)

/-! ### STRAY_PULSE -/

/-- A dominant run of `width` ns that opens no start mark can end now (R32, R33): it is as long as the line monitor has
it, and shorter than a bit time unless the receiver takes no start mark at it. -/
def State.strayDue (width : Nat) (s : State) : Bool :=
  !s.slc.inCells s.now && (if s.slc.dominant then s.slc.since + width == s.now else decide (s.slc.since + width ≤ s.now))
    && (decide (width < Config.bitTime) || !s.takesMark width)

/-- The run passes the glitch filter (R32). -/
def passesGlitch (p : Profile) (width : Nat) : Bool := decide (p.glitchWidth * Config.glitchStep ≤ width)

/-- A run ends that passes the filter, or comes where the station still samples its own aborted message, without the filter:
the quiet count restarts (R32), and a receiver that waits for a recessive line has met it (R33). A glitch is ignored. A run
that the monitor already follows restarts the count however short it was: where it began within a message, found by its tail
sample, and ends after it, R32 does not say whether the filter applies to it, and the model applies none (DESIGN CHOICE,
assumption log, entry 53). -/
def takeStray (width : Nat) (s : State) : State :=
  if s.slc.dominant || s.slc.busy || passesGlitch s.profile width then
    s.modSlc fun l => setLine false s.now { l with receiver := l.receiver.released }
  else s

/-- STRAY_PULSE (R32). -/
def execStrayPulse (dt width : Nat) (s : State) : Host.Outcome State Fault Refusal :=
  eventWhen dt s (State.strayDue width) (takeStray width)

end Sys2Proof.Machine
end

