-- ==== Sys2Proof/Machine/Messages.lean ====
section
/-! DEFINITION. The meanings of PULSE, READY and LEAVE: the end of a received message, its checks, its delivery
(R45, R49, R52 to R56, R61, R65, R66). -/

namespace Sys2Proof.Machine

/-! ### The end of a received message (R33, R45) -/

/-- The message being received ends now, being `length` bit times long (R33, R44). -/
def State.messageEndDue (length : Nat) (s : State) : Bool :=
  match s.slc.receiver with
  | .receiving t0 _ => s.running && s.now == t0 + length * Config.bitTime
  | _ => false

/-- When the message being received began, in ns. -/
def State.receptionStart (s : State) : Nat :=
  match s.slc.receiver with
  | .receiving t0 _ => t0
  | _ => s.now

/-- The receiver waits for the next start mark, the line quiet since the message's last pulse (R32, R44). -/
def endReception (length : Nat) (crc : Byte) (s : State) : State :=
  s.modSlc fun l => setLine false (lastPulseEnd s.receptionStart length crc) { l with receiver := .waiting }

/-- What the checks of R45 make of a message that has reached its end. -/
inductive Verdict where
  | checkFail
  | duplicate
  | deliver
  deriving DecidableEq, Repr

/-- Check a message: its CRC, for a PULSE its state field, and the number it bears (R45). -/
def verdictOf (own sender : StationNo) (covered : List Bool) (crc : Byte) (badState : Bool) : Verdict :=
  if crc8 covered ≠ crc then .checkFail
  else if badState then .checkFail
  else if sender = own then .duplicate
  else .deliver

/-- A message ends: it is discarded with CHECKFAIL, counted as DUPLICATE with FAULT raised, or delivered (R45). -/
def takeMessage (length : Nat) (crc : Byte) (v : Verdict) (deliver : State → State) (s : State) : State :=
  let t := endReception length crc s
  match v with
  | .checkFail => countCheckFail t
  | .duplicate => raiseFault (countDuplicate t)
  | .deliver => deliver t

/-! ### Delivery (R52, R61) -/

/-- The first step of a delivery: the unheard count is set to 0, and ISOLATED ends, the Cadence Unit leaving HOLD for
SEEKING with base length P and choosing its reference at once (R52, R61, R81). -/
def hearPeer (s : State) : State :=
  let t := s.modPt fun t => { t with unheard := 0 }
  if s.pt.condition = .isolated then
    let n := t.modPt fun t => { t with condition := .normal }
    if s.cu.lock = .hold then
      weighReference (n.modCu fun c => { toSeeking c with baseLength := s.profile.period })
    else n
  else t

/-- A delivery (R52): the station is heard, the message acted on, the view recomputed, a change of eligibility weighed
(R65, R74), the timings handed on, and the JOINING test made where the lock state has moved (R83). -/
def deliverMessage (act handOn : State → State) (s : State) : State :=
  let heard := hearPeer s
  let viewed := recomputeView (act heard)
  lockTest s (handOn (weighIfChanged heard viewed))

/-! ### PULSE (R49, R53, R54) -/

/-- A PULSE whose tag differs: the entry becomes MISMATCH with silence count 0, raising FAULT where it was not so (R53).
-/
def mismatchPulse (n : StationNo) (s : State) : State :=
  let e := s.pt.entry n
  let t := changeEntry n { e with status := .mismatch, silence := 0 } s
  if e.status = .mismatch then t else raiseFault t

/-- A PULSE with a matching tag stores its fields and sets the status (R49, R54). -/
def storePulse (n : StationNo) (f : PulseFields) (a : AnnouncedState) (s : State) : State :=
  changeEntry n
    { s.pt.entry n with
      status := statusOf s.profile.tMin a f.level, level := some f.level, depth := some f.depth, state := some a,
      lock := some f.lock, shown := if a = .showing then some f.shown else none, silence := 0 } s

/-- Act on a PULSE by its tag (R53, R54). A state field of 3 has been discarded before (R45). -/
def actOnPulse (n : StationNo) (f : PulseFields) (s : State) : State :=
  if f.tag = s.sc.domeTag then
    match AnnouncedState.ofCode f.state with
    | some a => storePulse n f a s
    | none => s
  else mismatchPulse n s

/-- A sender's frame start: t0 − delay, in whole µs of the own timebase (R49, R77). -/
def senderFrameStart (t0 delay : Nat) : Int := (micros t0 : Int) - delay

/-- Hand a PULSE with a matching tag to the Cadence Unit, and to the Swap Unit where its sender is LIVE (R65, R66, R77,
R96). The Cadence Unit takes it first, so the search for divergence meets the lock state, the cutoff and the decision
record as the same PULSE has left them; R52 and R96 leave that order open (DESIGN CHOICE, assumption log, entry 30). -/
def handPulseOn (n : StationNo) (f : PulseFields) (t0 : Nat) (s : State) : State :=
  if f.tag = s.sc.domeTag then
    let ts := senderFrameStart t0 f.delay
    let t := if s.cu.takesPulse n then takeReferencePulse ts f.beat s else s
    if (t.pt.entry n).status = .live then examinePulse ts f.lock f.shown t else t
  else s

/-- A PULSE is delivered (R52, R53, R54, R65, R66). -/
def deliverPulse (n : StationNo) (p : BitVec 64) (t0 : Nat) (s : State) : State :=
  deliverMessage (actOnPulse n (readPulse p)) (handPulseOn n (readPulse p) t0) s

/-- A PULSE's length in bit times (R33). -/
def pulseLength : Nat := messageLength 64

/-- PULSE (R45, R54). -/
def execPulse (dt : Nat) (sender : StationNo) (payload : BitVec 64) (crc : Byte) (s : State) :
    Host.Outcome State Fault Refusal :=
  eventWhen dt s (State.messageEndDue pulseLength) fun s =>
    takeMessage pulseLength crc
      (verdictOf s.profile.station sender (coveredBits 2 sender (bitsOf payload)) crc
        (AnnouncedState.ofCode (readPulse payload).state).isNone)
      (deliverPulse sender payload s.receptionStart) s

/-! ### READY (R55) -/

/-- A READY stores its frame number, whether newer or older, unless the entry is in MISMATCH (R55). -/
def actOnReady (n : StationNo) (frame : FrameNo) (s : State) : State :=
  let e := s.pt.entry n
  if e.status = .mismatch then s else setEntry n { e with latestReady := some frame } s

/-- A READY's length in bit times (R33). -/
def readyLength : Nat := messageLength 16

/-- READY (R45, R55). -/
def execReady (dt : Nat) (sender : StationNo) (payload : BitVec 16) (crc : Byte) (s : State) :
    Host.Outcome State Fault Refusal :=
  eventWhen dt s (State.messageEndDue readyLength) fun s =>
    takeMessage readyLength crc (verdictOf s.profile.station sender (coveredBits 1 sender (bitsOf payload)) crc false)
      (deliverMessage (actOnReady sender payload) id) s

/-! ### LEAVE (R48, R56) -/

/-- A LEAVE stores its reason, and takes an entry in JOINING, LIVE or DARK to DARK; one in MISMATCH stores nothing (R56).
-/
def actOnLeave (n : StationNo) (reason : BitVec 4) (s : State) : State :=
  let e := s.pt.entry n
  if e.status = .mismatch then s
  else changeEntry n { e with reason := some reason, status := if e.status.heard then .dark else e.status } s

/-- A LEAVE's length in bit times (R33). -/
def leaveLength : Nat := messageLength 8

/-- LEAVE (R45, R56): the reason is the payload's first four bits, and the others are not checked (R48). -/
def execLeave (dt : Nat) (sender : StationNo) (payload : BitVec 8) (crc : Byte) (s : State) :
    Host.Outcome State Fault Refusal :=
  eventWhen dt s (State.messageEndDue leaveLength) fun s =>
    takeMessage leaveLength crc (verdictOf s.profile.station sender (coveredBits 0 sender (bitsOf payload)) crc false)
      (deliverMessage (actOnLeave sender (payload.extractLsb' 4 4)) id) s

end Sys2Proof.Machine
end

