-- ==== Sys2Proof/Machine/Records.lean ====
section
/-! DEFINITION. The records the read commands capture, byte by byte (R174 to R176, R184). -/

namespace Sys2Proof.Machine

/-- Two bytes of a frame number, 0 where there is none. -/
def frameBytes (f : Option FrameNo) : List Byte := be16 (f.getD 0).toNat

/-- A slot's three bytes in STATUS: its state code, then its frame number, 0 in FREE and FILLING (R184). -/
def slotBytes (x : Slot) : List Byte := byteOf x.code :: frameBytes x.frame?

/-- The attention byte (R184). -/
def Causes.byte (c : Causes) : Byte := flagByte c.state c.peer c.fault c.input false false false false

/-- The STATUS record, 38 bytes (R174, R184). -/
def statusRecord (s : State) : List Byte :=
  let slots := s.fs.slots
  [ byteOf s.sc.state.code,
    flagByte s.sc.profileValid s.sc.clamped s.we.saturated (s.slc.condition == .stuck) (s.pt.condition == .isolated)
      s.fs.trap.isSome (shownFrame slots).isSome (newestReady slots).isSome,
    byteOf s.sc.firstClamped,
    byteOf s.sc.lastResult.code ]
  ++ be16 s.sc.lastIndex
  ++ [ byteOf s.cu.lock.code, (match s.cu.reference with | some n => byteOf n.val | none => 255) ]
  ++ frameBytes (shownFrame slots)
  ++ frameBytes (newestReady slots)
  ++ slotBytes (slotAt slots 0) ++ slotBytes (slotAt slots 1) ++ slotBytes (slotAt slots 2) ++ slotBytes (slotAt slots 3)
  ++ [ byteOf s.pt.view.alive.length ]
  ++ be16 s.ls.lAnn
  ++ be16 s.pt.view.ceiling
  ++ [ byteOf s.pt.view.kDome, s.pt.view.serial, byteOf s.we.engine.code, byteOf s.we.kLocal ]
  ++ be16 s.fs.fifoPeakMark
  ++ be16 (s.fs.prefetchMinMark.getD 65535)
  ++ [ s.svp.causes.byte ]

/-- One entry of the PEERS record, 13 bytes (R175, R184). -/
def entryBytes (e : PeerEntry) : List Byte :=
  [ byteOf e.status.code,
    flagByte e.level.isSome e.depth.isSome e.state.isSome e.lock.isSome e.shown.isSome e.latestReady.isSome
      e.reason.isSome false ]
  ++ be16 (e.level.getD 0)
  ++ [ byteOf (e.depth.getD 0), byteOf ((e.state.map AnnouncedState.code).getD 0),
       byteOf ((e.lock.map LockState.code).getD 0) ]
  ++ frameBytes e.shown
  ++ frameBytes e.latestReady
  ++ [ byteOf e.silence, byteOf ((e.reason.map BitVec.toNat).getD 0) ]

/-- The PEERS record: sixteen entries in ascending station number, the own one included (R175). -/
def peersRecord (s : State) : List Byte := (List.finRange 16).flatMap fun n => entryBytes (s.entryAt n)

/-- The counters in the order of R176. -/
def Counters.toList (c : Counters) : List Nat :=
  [ c.lostArb, c.bitFault, c.txDrop, c.expired, c.checkFail, c.duplicate, c.dropped, c.stale, c.short, c.untagged,
    c.overrun, c.parity, c.swaps, c.holds, c.swapMiss, c.diverge, c.clipped, c.underrun, c.saturated ]

/-- The COUNTERS record, 38 bytes (R176, R184). -/
def countersRecord (s : State) : List Byte := s.counters.toList.flatMap be16

/-- The TRAP record, 5 bytes; all 0 where the trap is EMPTY (R164, R184). -/
def trapRecord (s : State) : List Byte :=
  match s.fs.trap with
  | none => [0, 0, 0, 0, 0]
  | some t => [flagByte true t.more false false false false false false, byteOf t.slot.val] ++ be16 t.line
      ++ [byteOf t.column]

/-- The READSAMPLE record, 10 bytes (R146, R184). Without a result the channel bit is 0, by R184's word beside PEERS that a
field whose presence bit is 0 reads as 0 (DEDUCED, assumption log, entry 47). -/
def sampleRecord (s : State) : List Byte :=
  [ byteOf s.ls.mode.code,
    flagByte s.ls.result.isSome s.ls.fresh s.ls.fault0 s.ls.fault1
      (s.ls.result.any fun r => r.channel == .lamp1) false false false ]
  ++ be16 ((s.ls.result.map fun r => r.code.toNat).getD 0)
  ++ be16 s.ls.l0 ++ be16 s.ls.l1 ++ be16 s.ls.lMeas

end Sys2Proof.Machine
end

