-- ==== Sys2Proof/Machine/ServicePort.lean ====
section
/-! DEFINITION. The meanings of the service port's rows: action commands, read commands, UNKNOWN, LENGTH and
TRANSACTION_BEGIN (11_service_port.md). -/

namespace Sys2Proof.Machine

/-! ### Transactions (R169, R170) -/

/-- The transaction ends: SVC_CSN rises and SVC_SDO is released (R169). -/
def endTransaction (s : State) : State := s.modSvp fun p => { p with transaction := .closed, shiftOut := [] }

/-- An action command taken at the rising edge of SVC_CSN that ends its transaction (R170); without a transaction that
the port has taken there is no such command (R179). -/
def actionCommand (dt : Nat) (s : State) (f : State → State) : Host.Outcome State Fault Refusal :=
  eventWhen dt s (fun s => s.svp.transaction == .opened && s.now == s.svp.rise) fun s => f (endTransaction s)

/-- A read command taken at the end of its command byte, before SVC_CSN rises: the record is captured whole, then the
effects of reading are made, and SVC_SDO shifts out a turnaround byte of 0 and the record, until SVC_CSN rises (R170). -/
def readCommand (dt : Nat) (s : State) (record : State → List Byte) (f : State → State) :
    Host.Outcome State Fault Refusal :=
  eventWhen dt s (fun s => s.svp.transaction == .opened && decide (s.now < s.svp.rise)) fun s =>
    (f s).modSvp fun p => { p with transaction := .reading, shiftOut := 0 :: record s }

/-- TRANSACTION_BEGIN (R169): SVC_CSN falls with no bit sampled yet, and its rise is set; it cannot fall while it is
low. -/
def execTransactionBegin (select : Selection) (s : State) : Host.Outcome State Fault Refusal :=
  eventWhen select.dt s (fun s => !s.csnLow) fun s =>
    s.modSvp fun p => { p with transaction := .opened, rise := s.now + select.low, received := [], shiftOut := [] }

/-- A short action transaction: no block sees it, and the last result becomes LENGTH (R171). -/
def shortResult (s : State) : State := setResult .length 0 s

/-! ### Action commands -/

/-- What PROFILE does once its full payload has arrived (R4, R5, R6, R28). -/
def profileCommand (r : RawProfile) (s : State) : State :=
  if s.sc.state = .config then
    match structuralFault r with
    | some i => setResult .badField i (s.modMt fun _ => Mesh.blank)
    | none => setResult .ok 0 (acceptProfile r s)
  else setResult .busy 0 s

/-- PROFILE (R4 to R7, R28). -/
def execProfile (dt : Nat) (payload : List Byte) (s : State) : Host.Outcome State Fault Refusal :=
  actionCommand dt s fun s =>
    if payload.length < Config.profileBytes then shortResult s else profileCommand (readProfile payload) s

/-- Take the records of a MESH in CONFIG with a valid profile, and bring the neighbour set up to date where at least one
was stored (R22 to R24, R26). -/
def meshRecords (first : Nat) (records : List RawVertex) (s : State) : State :=
  let own := s.profile.station
  let r := takeRecords own s.sc.vertexCount records first s.mt
  let stored : Bool := match r.2 with
    | none => !records.isEmpty
    | some _ => decide (first < s.sc.vertexCount) && !(records.head?.any fun q => q.fails own)
  let t := s.modMt fun _ => if stored then r.1.refreshNeighbours else r.1
  match r.2 with
  | none => setResult .ok 0 t
  | some i => setResult .badVertex i t

/-- What MESH does once its full payload has arrived (R21, R22). -/
def meshCommand (payload : List Byte) (s : State) : State :=
  if s.sc.state ≠ .config then setResult .busy 0 s
  else if s.sc.profileValid = false then setResult .noProfile 0 s
  else meshRecords (wordAt payload 0) (readVertices payload) s

/-- MESH (R21 to R26). -/
def execMesh (dt : Nat) (payload : List Byte) (s : State) : Host.Outcome State Fault Refusal :=
  actionCommand dt s fun s =>
    if payload.length < 3 + Config.vertexBytes * meshCount payload ∨ payload.length < 3 then shortResult s
    else meshCommand payload s

/-- START (R9). -/
def execStart (dt : Nat) (s : State) : Host.Outcome State Fault Refusal :=
  actionCommand dt s fun s =>
    if s.sc.state ≠ .config then setResult .busy 0 s
    else if s.sc.profileValid = false then setResult .noProfile 0 s
    else if s.meshComplete = false then setResult .noMesh 0 s
    else setResult .ok 0 (startShow s)

/-- The station takes STOP: STOPPING, with a SERVICE LEAVE requested (R14). -/
def stopShow (s : State) : State := requestLeave { reason := 2, forStop := true } (setState .stopping s)

/-- STOP (R14). -/
def execStop (dt : Nat) (s : State) : Host.Outcome State Fault Refusal :=
  actionCommand dt s fun s =>
    match s.sc.state with
    | .config => setResult .notRunning 0 s
    | .stopping => setResult .busy 0 s
    | .joining => setResult .ok 0 (stopShow s)
    | .showing => setResult .ok 0 (stopShow s)
    | .dark => setResult .ok 0 (stopShow s)

/-- RESET (R16). -/
def execReset (taken : LineAt) (s : State) : Host.Outcome State Fault Refusal :=
  actionCommand taken.dt s fun s => setResult .ok 0 (softReset taken.line s)

/-- A SAMPLE checked against the station state, the channel, field index 0, and the mode, field index 1, and then taken
(R144). -/
def sampleCommand (channel mode : Byte) (f : Channel → Lamp → Lamp) (s : State) : State :=
  if s.sc.state ≠ .config then setResult .busy 0 s
  else
    match Channel.ofByte channel with
    | none => setResult .badField 0 s
    | some c => if 2 < mode.toNat then setResult .badField 1 s else setResult .ok 0 (s.modLs (f c))

/-- SAMPLE SINGLE (R144). -/
def execSampleSingle (dt : Nat) (channel mode : Byte) (s : State) : Host.Outcome State Fault Refusal :=
  actionCommand dt s fun s => sampleCommand channel mode (startManual s.now .manualSingle) s

/-- SAMPLE CONTINUOUS (R144). -/
def execSampleContinuous (dt : Nat) (channel mode : Byte) (s : State) : Host.Outcome State Fault Refusal :=
  actionCommand dt s fun s => sampleCommand channel mode (startManual s.now .manualContinuous) s

/-- SAMPLE STOP (R144). -/
def execSampleStop (dt : Nat) (channel mode : Byte) (s : State) : Host.Outcome State Fault Refusal :=
  actionCommand dt s fun s => sampleCommand channel mode (fun _ => stopManual) s

/-- UNKNOWN (R171): the result takes the command byte as its index. -/
def execUnknown (dt : Nat) (code : Byte) (s : State) : Host.Outcome State Fault Refusal :=
  actionCommand dt s fun s => if decodeCommand code = none then setResult .unknown code.toNat s else s

/-- LENGTH (R171). -/
def execLength (dt : Nat) (code : Byte) (payload : List Byte) (s : State) : Host.Outcome State Fault Refusal :=
  actionCommand dt s fun s => if shortTransaction code payload then shortResult s else s

/-! ### Read commands -/

/-- STATUS (R174, R178): every pending cause is captured, then cleared. -/
def execStatus (dt : Nat) (s : State) : Host.Outcome State Fault Refusal :=
  readCommand dt s (fun s => statusRecord (runPass s)) fun s =>
    (runPass s).modSvp fun p => { p with causes := Causes.clear }

/-- PEERS (R175): nothing changes. -/
def execPeers (dt : Nat) (s : State) : Host.Outcome State Fault Refusal := readCommand dt s peersRecord id

/-- COUNTERS (R176): every counter is captured, then cleared. -/
def execCounters (dt : Nat) (s : State) : Host.Outcome State Fault Refusal :=
  readCommand dt s (fun s => countersRecord (runPass s)) fun s => clearCounters (runPass s)

/-- TRAP (R164): the trap is returned as it stands, then emptied. -/
def execTrap (dt : Nat) (s : State) : Host.Outcome State Fault Refusal :=
  readCommand dt s trapRecord fun s => s.modFs fun f => { f with trap := none }

/-- READSAMPLE (R146): the fresh flag is captured, then cleared. -/
def execReadSample (dt : Nat) (s : State) : Host.Outcome State Fault Refusal :=
  readCommand dt s sampleRecord fun s => s.modLs fun l => { l with fresh := false }

end Sys2Proof.Machine
end

