-- ==== Sys2Proof/Machine/StoreEvents.lean ====
section
/-! DEFINITION. The meanings of the pixel rows: INPUT_FRAME_START, INPUT_PIXEL, LINE_END, TRAILER_LINE_END, INPUT_LOST,
WRITE_BURST, READ_BURST and PIXEL_DUE (10_frame_store_and_pixel_input.md, 08_warp_and_blend_pipeline.md). -/

namespace Sys2Proof.Machine

/-! ### INPUT_FRAME_START (R152, R153, R157) -/

/-- The port begins an input frame now (R152, R158). -/
def beginInput (now : Nat) (f : FrameStore) : FrameStore :=
  { f with port := .picture, lineCount := 0, linePixels := 0, damaged := false, trailer := [],
           lossStart := some (micros now), lost := false }

/-- A frame in progress ends short, a slot is taken, and the port stands in PICTURE (R152, R153, R157). -/
def takeInputFrameStart (s : State) : State :=
  let ended := if s.fs.frameInProgress then endFrameShort s else s
  settleStore ((takeSlot ended).modFs (beginInput s.now))

/-- The input port takes input frames (R152). -/
def State.portOpen (s : State) : Bool := s.running && s.fs.port != .off

/-- INPUT_FRAME_START (R153). -/
def execInputFrameStart (dt : Nat) (s : State) : Host.Outcome State Fault Refusal :=
  eventWhen dt s State.portOpen takeInputFrameStart

/-! ### INPUT_PIXEL (R152, R154) -/

/-- A picture pixel goes to the writer, unless the line already holds Wi; a trailer pixel is kept if it is one of the
first two; elsewhere pixels are ignored (R152, R154). -/
def takePixel (px : Pixel) (s : State) : State :=
  match s.fs.port with
  | .picture =>
    if s.fs.linePixels < s.profile.inWidth then
      settleStore (s.modFs fun f => placePixel s.profile.inWidth px { f with lineLast := px })
    else s
  | .trailer => if s.fs.trailer.length < 2 then s.modFs fun f => { f with trailer := f.trailer ++ [px] } else s
  | .off => s
  | .waiting => s
  | .done => s

/-- INPUT_PIXEL (R154). -/
def execInputPixel (dt : Nat) (pixel : Pixel) (s : State) : Host.Outcome State Fault Refusal :=
  eventWhen dt s State.portOpen (takePixel pixel)

/-! ### LINE_END (R152, R154) -/

/-- A picture line of at least one pixel ends. Where PXI_FS falls inside an asserted PXI_DE run and no pixel follows it
before the release, that release ends no line: the manual does not tell of it (assumption log, entry 36). -/
def State.lineEndDue (s : State) : Bool := s.portOpen && s.fs.port == .picture && decide (0 < s.fs.linePixels)

/-- The line is filled out to Wi and counted; after the Hi-th, the trailer line is expected (R152, R154). -/
def takeLineEnd (s : State) : State :=
  let wi := s.profile.inWidth
  settleStore (s.modFs fun f =>
    let g := fillOut wi f.lineLast (wi - f.linePixels) f
    { g with lineCount := f.lineCount + 1, linePixels := 0,
             port := if s.profile.inHeight ≤ f.lineCount + 1 then .trailer else .picture })

/-- LINE_END (R154). -/
def execLineEnd (dt : Nat) (s : State) : Host.Outcome State Fault Refusal := eventWhen dt s State.lineEndDue takeLineEnd

/-! ### TRAILER_LINE_END (R156) -/

/-- The filling slot becomes READY with the next rank, and a READY message is requested (R156). -/
def makeReady (slot : SlotNo) (n : FrameNo) (s : State) : State :=
  requestReady n (s.modFs fun f =>
    { f with slots := setSlot slot (.ready n (readyCount f.slots + 1) false) f.slots })

/-- The outcome of an input frame at the end of its trailer line (R156). Of a frame end and an own frame start's enactment
at one instant R156 gives the same outcome in either order. Its table gives two where the SHOWN, the chosen and the new
frame spread over more than half the number range (SHOWN 0, chosen 30000, new 40000): the frame is STALE where its end is
taken first, by the frame SHOWN until then, and READY where the enactment is first. The model follows the table in the
order taken (DESIGN CHOICE, assumption log, entry 57). -/
def judgeFrame (slot : SlotNo) (s : State) : State :=
  if s.fs.damaged then countOverrun (s.modFs (freeSlot slot))
  else
    match trailerFrame s.fs.trailer with
    | none => countUntagged (s.modFs (freeSlot slot))
    | some n => if newerThanAll s.fs.slots n then makeReady slot n s else countStale (s.modFs (freeSlot slot))

/-- The trailer line ends. -/
def State.trailerEndDue (s : State) : Bool := s.portOpen && s.fs.port == .trailer

/-- The frame ends and the port is DONE (R152, R156). -/
def takeTrailerEnd (s : State) : State :=
  let judged := match fillingSlot s.fs.slots with
    | some i => judgeFrame i s
    | none => s
  settleStore (judged.modFs fun f => { f with port := .done })

/-- TRAILER_LINE_END (R156). -/
def execTrailerLineEnd (dt : Nat) (s : State) : Host.Outcome State Fault Refusal :=
  eventWhen dt s State.trailerEndDue takeTrailerEnd

/-! ### INPUT_LOST (R158) -/

/-- The loss timer start lies 2 × P in the past and the lost flag is clear (R158). -/
def State.lossDue (s : State) : Bool :=
  s.running && !s.fs.lost && s.fs.lossStart.any fun t => s.now == toNs (t + 2 * s.profile.period)

/-- Input is declared lost (R158). -/
def takeInputLoss (s : State) : State :=
  let ended := if s.fs.frameInProgress then endFrameShort s else s
  settleStore (raiseInput (ended.modFs fun f => { f with lost := true, port := .waiting }))

/-- INPUT_LOST (R158). -/
def execInputLost (dt : Nat) (s : State) : Host.Outcome State Fault Refusal := eventWhen dt s State.lossDue takeInputLoss

/-! ### WRITE_BURST and READ_BURST (R154, R160, R162, R163) -/

/-- The writer's burst completes now, 4 ns after it began (R162). -/
def State.writeDue (s : State) : Bool :=
  s.fs.arb.owner == .writer && s.fs.arb.memoryFree == s.now
    && (match s.fs.arb.burst with | some (.write _ _ _ _) => true | _ => false)

/-- The burst is written into its slot, unless its pixels have been discarded since its grant; the memory is passed on
(R154, R162). Its pixels leave the FIFO here, at the burst's end, and not at its grant 4 ns before: R154 gives both to the
grant and tells no instant within it (DESIGN CHOICE, assumption log, entry 48). -/
def takeWriteBurst (s : State) : State :=
  match s.fs.arb.burst with
  | some (.write slot line column kept) =>
    endBurst (if kept then s.modFs (writeBurstOf s.profile.inWidth slot line column) else s)
  | _ => s

/-- WRITE_BURST (R154, R162, R163). -/
def execWriteBurst (dt : Nat) (s : State) : Host.Outcome State Fault Refusal := eventWhen dt s State.writeDue takeWriteBurst

/-- The reader's burst completes now, 4 ns after it began (R162). -/
def State.readDue (s : State) : Bool :=
  s.fs.arb.owner == .reader && s.fs.arb.memoryFree == s.now
    && (match s.fs.arb.burst with | some (.read _ _) => true | _ => false)

/-- Put a fetched burst in the prefetch; its entry leaves the sequence (R160). -/
def fetchBurst (n : Need) (bytes : List (Byte × Byte)) (f : FrameStore) : FrameStore :=
  { f with sequence := f.sequence.tail,
           prefetch := f.prefetch ++ [{ need := n, failed := parityFails bytes, pixels := pixelsOf (bytes.map Prod.fst) }] }

/-- The entry's burst is fetched and its parity checked, unless the fetch has been discarded since its grant; the memory
is passed on (R160, R162, R163, R164). -/
def takeReadBurst (upsets : List Upset) (s : State) : State :=
  match s.fs.arb.burst with
  | some (.read n kept) =>
    let bytes := fetchBytes s.profile.inWidth n upsets s.fs
    let t := if kept then s.modFs (fetchBurst n bytes) else s
    endBurst (if kept && parityFails bytes then noteFailedBurst n t else t)
  | _ => s

/-- READ_BURST (R160, R162, R163, R164). -/
def execReadBurst (dt : Nat) (upsets : List Upset) (s : State) : Host.Outcome State Fault Refusal :=
  eventWhen dt s State.readDue (takeReadBurst upsets)

/-! ### PIXEL_DUE (R119, R120, R125) -/

/-- The next output pixel of a frame in progress falls due now (R119). -/
def State.pixelIsDue (s : State) : Bool :=
  s.wbp.mode != .none && s.wbp.position.any fun q => s.now == dueInstant s q.1 q.2

/-- The pixel is formed, and the position moves on (R119, R130). -/
def takePixelDue (s : State) : State :=
  match s.wbp.position with
  | some (y, x) => stepPosition y x (formPixel y x s)
  | none => s

/-- PIXEL_DUE (R125). -/
def execPixelDue (dt : Nat) (s : State) : Host.Outcome State Fault Refusal := eventWhen dt s State.pixelIsDue takePixelDue

end Sys2Proof.Machine
end

