-- ==== Sys2Proof/Machine/Dispatch.lean ====
section
/-! DEFINITION. `exec`: one arm per command, each one direct call of its meaning. -/

namespace Sys2Proof.Machine

/-- The effect of a command on everything but the queue of waiting commands. -/
def exec (i : Instr) (s : State) : Host.Outcome State Fault Refusal :=
  match i with
  | .profile dt payload => Sys2Proof.Machine.execProfile dt payload s
  | .mesh dt payload => Sys2Proof.Machine.execMesh dt payload s
  | .start dt => Sys2Proof.Machine.execStart dt s
  | .stop dt => Sys2Proof.Machine.execStop dt s
  | .reset taken => Sys2Proof.Machine.execReset taken s
  | .sampleSingle dt channel mode => Sys2Proof.Machine.execSampleSingle dt channel mode s
  | .sampleContinuous dt channel mode => Sys2Proof.Machine.execSampleContinuous dt channel mode s
  | .sampleStop dt channel mode => Sys2Proof.Machine.execSampleStop dt channel mode s
  | .status dt => Sys2Proof.Machine.execStatus dt s
  | .peers dt => Sys2Proof.Machine.execPeers dt s
  | .counters dt => Sys2Proof.Machine.execCounters dt s
  | .trap dt => Sys2Proof.Machine.execTrap dt s
  | .readSample dt => Sys2Proof.Machine.execReadSample dt s
  | .unknown dt code => Sys2Proof.Machine.execUnknown dt code s
  | .length dt code payload => Sys2Proof.Machine.execLength dt code payload s
  | .hardwareReset dt => Sys2Proof.Machine.execHardwareReset dt s
  | .rstnRelease dt => Sys2Proof.Machine.execRstnRelease dt s
  | .frameStart dt order => Sys2Proof.Machine.execFrameStart dt order s
  | .cutoff dt => Sys2Proof.Machine.execCutoff dt s
  | .startMarkBegin dt joined => Sys2Proof.Machine.execStartMarkBegin dt joined s
  | .arbitrationLost dt => Sys2Proof.Machine.execArbitrationLost dt s
  | .bitFault dt line => Sys2Proof.Machine.execBitFault dt line s
  | .messageComplete dt => Sys2Proof.Machine.execMessageComplete dt s
  | .pulseExpired dt => Sys2Proof.Machine.execPulseExpired dt s
  | .stuck dt => Sys2Proof.Machine.execStuck dt s
  | .linkNormal dt => Sys2Proof.Machine.execLinkNormal dt s
  | .startMarkRecognised dt cell2 cell3 cell4 run => Sys2Proof.Machine.execStartMarkRecognised dt cell2 cell3 cell4 run s
  | .messageEndedShort dt cause run => Sys2Proof.Machine.execMessageEndedShort dt cause run s
  | .pulse dt sender payload crc => Sys2Proof.Machine.execPulse dt sender payload crc s
  | .ready dt sender payload crc => Sys2Proof.Machine.execReady dt sender payload crc s
  | .leave dt sender payload crc => Sys2Proof.Machine.execLeave dt sender payload crc s
  | .silent dt peer order => Sys2Proof.Machine.execSilent dt peer order s
  | .isolated dt order => Sys2Proof.Machine.execIsolated dt order s
  | .coldStartTest dt order => Sys2Proof.Machine.execColdStartTest dt order s
  | .orphanTest dt order => Sys2Proof.Machine.execOrphanTest dt order s
  | .lockTimeout dt order => Sys2Proof.Machine.execLockTimeout dt order s
  | .passComplete dt => Sys2Proof.Machine.execPassComplete dt s
  | .conversionComplete dt code => Sys2Proof.Machine.execConversionComplete dt code s
  | .manualConversionComplete dt code => Sys2Proof.Machine.execManualConversionComplete dt code s
  | .inputFrameStart dt => Sys2Proof.Machine.execInputFrameStart dt s
  | .inputPixel dt pixel => Sys2Proof.Machine.execInputPixel dt pixel s
  | .lineEnd dt => Sys2Proof.Machine.execLineEnd dt s
  | .trailerLineEnd dt => Sys2Proof.Machine.execTrailerLineEnd dt s
  | .inputLost dt => Sys2Proof.Machine.execInputLost dt s
  | .writeBurst dt => Sys2Proof.Machine.execWriteBurst dt s
  | .readBurst dt upsets => Sys2Proof.Machine.execReadBurst dt upsets s
  | .pixelDue dt => Sys2Proof.Machine.execPixelDue dt s
  | .strayPulse dt width => Sys2Proof.Machine.execStrayPulse dt width s
  | .arbitrationFieldEnd dt => Sys2Proof.Machine.execArbitrationFieldEnd dt s
  | .transactionBegin select => Sys2Proof.Machine.execTransactionBegin select s

end Sys2Proof.Machine
end

