-- ==== Sys2Proof/Machine/Step.lean ====
section
/-! DEFINITION. One step of the block: the command at the front of the queue. -/

namespace Sys2Proof.Machine

/-- Take the command at the front of the queue and run it on the state with the queue's rest; with no command waiting the
block idles (assumption log, entry 4). -/
def step (s : State) : Host.Outcome State Fault Refusal :=
  match s.pending with
  | [] => .next s
  | c :: rest => exec c { s with pending := rest }

/-- Put the command that a transaction's bytes name at the front of the queue (R169, R185): with `step` after it, the
service port takes the bytes themselves. -/
def State.withTransaction (s : State) (dt : Nat) (line : LineLevel) (code : Byte) (payload : List Byte) : State :=
  { s with pending := transactionInstr dt line code payload :: s.pending }

/-- Put the row that the bits sampled in the transaction make at the front of the queue, `dt` ns after the last edge: for a
read command at its eighth bit, for every other at the rise of SVC_CSN; an incomplete command byte makes none (R169,
R170). -/
def State.withReceived (s : State) (dt : Nat) (line : LineLevel) : State :=
  match bitsInstr dt line s.svp.received with
  | some c => { s with pending := c :: s.pending }
  | none => s

/-- Put the command that a word of the table spells at the front of the queue; a word that spells none changes
nothing. -/
def State.withFetchWord (s : State) (nbits w : Nat) : State :=
  match decodeTableWord nbits w with
  | some c => { s with pending := c :: s.pending }
  | none => s

end Sys2Proof.Machine
end

