-- ==== Sys2Proof/Safety.lean ====
section
/-! DEFINITION. What counts as a sound state of the part: the standing statements of the manual as invariants, in the
terms the claims use. Each is meant to hold at reset and to be kept by every step. -/

namespace Sys2Proof.Machine

/-- The service port takes an action command `dt` ns from now: SVC_CSN then rises and ends the transaction in progress
(R169, R170, R179). -/
abbrev State.takesAction (dt : Nat) (s : State) : Prop :=
  s.rstnLow = false ∧ s.svp.transaction = .opened ∧ s.now + dt = s.svp.rise

/-- The service port takes a read command `dt` ns from now: SVC_CSN is then low in a transaction that has taken no
command (R169, R170, R179). -/
abbrev State.takesRead (dt : Nat) (s : State) : Prop :=
  s.rstnLow = false ∧ s.svp.transaction = .opened ∧ s.now + dt < s.svp.rise

/-- What a command leaves that only writes a result: SVC_CSN has risen, and the last result stands (R169, R172). -/
def State.answered (dt : Nat) (r : ResultCode) (index : Nat) (s : State) : State :=
  { s with now := s.now + dt, sc := { s.sc with lastResult := r, lastIndex := index },
           svp := { s.svp with transaction := .closed, shiftOut := [] } }

/-- The structural field of this index passes its check (R4): the fields of the first table, in its order. -/
def RawProfile.passes (r : RawProfile) : Nat → Prop
  | 0 => r.station ≤ 15
  | 1 => 4000 ≤ r.period ∧ r.period ≤ 41667
  | 2 => 256 ≤ r.outWidth ∧ r.outWidth ≤ 4096 ∧ 32 ∣ r.outWidth
  | 3 => 128 ≤ r.outHeight ∧ r.outHeight ≤ 2400 ∧ 32 ∣ r.outHeight
  | 4 => 256 ≤ r.inWidth ∧ r.inWidth ≤ 4096
  | 5 => 128 ≤ r.inHeight ∧ r.inHeight ≤ 2400
  | 6 => r.curve ≤ 2
  | 7 => r.lampMode ≤ 1
  | 8 => r.dark0 ≤ 4094
  | 9 => r.dark0 + 256 ≤ r.rated0 ∧ r.rated0 ≤ 4094
  | 10 => r.lampMode = 1 → r.dark1 ≤ 4094
  | 11 => r.lampMode = 1 → r.dark1 + 256 ≤ r.rated1 ∧ r.rated1 ≤ 4094
  | _ => True

/-- The structural fields of a profile record as written lie in the ranges of R4. -/
abbrev StructuralInRange (r : RawProfile) : Prop :=
  r.station ≤ 15 ∧ (4000 ≤ r.period ∧ r.period ≤ 41667) ∧ (256 ≤ r.outWidth ∧ r.outWidth ≤ 4096 ∧ 32 ∣ r.outWidth) ∧
  (128 ≤ r.outHeight ∧ r.outHeight ≤ 2400 ∧ 32 ∣ r.outHeight) ∧ (256 ≤ r.inWidth ∧ r.inWidth ≤ 4096) ∧
  (128 ≤ r.inHeight ∧ r.inHeight ≤ 2400) ∧ r.curve ≤ 2 ∧ r.lampMode ≤ 1 ∧ r.dark0 ≤ 4094 ∧
  (r.dark0 + 256 ≤ r.rated0 ∧ r.rated0 ≤ 4094) ∧
  (r.lampMode = 1 → r.dark1 ≤ 4094 ∧ r.dark1 + 256 ≤ r.rated1 ∧ r.rated1 ≤ 4094)

/-- The entry to CONFIG (R15, R46, R64, R68, R84, R97, R116, R134, R148, R166): what it leaves in every block, `t`, of
the part as it stood, `s`. The line monitor runs on as it stands (R32), and a running pass ends where it stands. The
line count, the line's pixels, the damaged mark and the trailer pixels of an input frame in progress are kept, which is
the model's choice (assumption log, entry 58). -/
abbrev EntersConfig (s t : State) : Prop :=
  t.sc.state = .config ∧ t.sc = { s.sc with state := .config } ∧
  t.slc = { s.slc with
    queue := TransmitQueue.empty, onLine := none, lastWon := false, receiver := .stopped } ∧
  t.pt = { entries := List.replicate 16 PeerEntry.absent, condition := .normal, unheard := 0,
           view := { alive := [], lSelf := 0, ceiling := 0, kDome := 1, serial := s.pt.view.serial } } ∧
  t.cu = { s.cu with
    lock := .idle, reference := none, lockCount := 0, orphanCount := 0, previous := none,
    baseLength := s.profile.period } ∧
  t.swu = .none ∧
  t.we = { (runPass s).we with
    engine := .idle, again := false, promoted := false, shown := List.replicate s.sc.vertexCount ⟨0, 0⟩,
    work := List.replicate s.sc.vertexCount ⟨0, 0⟩, passStart := none, kLocal := 1, promotedAt := none,
    copy := { alive := [], lSelf := 0, ceiling := 0, kDome := 1, serial := s.pt.view.serial } } ∧
  t.wbp = { s.wbp with mode := if s.wbp.mode = .none then .none else .black, frameSlot := none } ∧
  t.ls = { s.ls with
    mode := .off, autoPending := false, stopPending := false, conversion := none, sequences := 0, acc0 := ⟨0, 0⟩,
    acc1 := ⟨0, 0⟩, lAnn := 0 } ∧
  t.fs = { s.fs with
    slots := [.free, .free, .free, .free], port := .off, fifo := [], sequence := [], prefetch := [],
    arb := Arbiter.idle s.fs.arb.memoryFree, lost := false, lossStart := none } ∧
  t.svp.causes = { s.svp.causes with state := s.svp.causes.state || s.sc.state != .config } ∧
  t.mt = s.mt ∧ t.pending = s.pending ∧ t.now = s.now ∧ t.rstnLow = s.rstnLow

/-- What a consequence of an own frame start, from `s` to `t`, carries to the PULSE and to the output frame of that frame
start, by the order in which the blocks take it (R47, R120). -/
abbrev CarriedByOrder (order : SameInstant) (s t : State) : Prop :=
  t.slc = { s.slc with queue := { s.slc.queue with
    pulse := if order.pulseAfter = true then
        s.slc.queue.pulse.map fun m =>
          if m.msg.frameStart = s.cu.latestFrameStart.getD 0 then { m with msg := pulseRequestOf t } else m
      else s.slc.queue.pulse } } ∧
  (t.sc.state = s.sc.state → t.wbp = s.wbp ∧ t.fs = s.fs) ∧
  (order.outputAfter = false → t.sc.state = .showing → t.wbp = s.wbp ∧ t.fs = s.fs) ∧
  (order.outputAfter = true → s.sc.state ≠ .showing → t.sc.state = .showing →
    t.wbp.mode = .picture ∧ t.wbp.frameSlot = shownSlot s.fs.slots ∧ t.wbp.position = some (0, 0)) ∧
  t.fs = { s.fs with sequence := t.fs.sequence, prefetch := t.fs.prefetch, arb := t.fs.arb }

/-- What the engine makes of an event from `s` to `t` that recomputes the view (R109, R111): nothing where the view stays;
from IDLE a pass starts at once from the changed view; at the instant of a promotion a pass from the changed view starts
then too, the again flag clear, where the follow-up pass has begun; elsewhere the again flag is set. -/
abbrev ViewTold (s t : State) : Prop :=
  let pass : WeightEngine := { s.we with
    engine := .computing, copy := t.pt.view, position := 0, passMaximum := 1, passStart := some t.now }
  t.we =
    if t.pt.view = s.pt.view then s.we
    else if s.we.engine = .idle then pass
    else if s.we.engine = .computing ∧ s.we.promotedAt = some t.now then { pass with again := false }
    else { s.we with again := true }

/-- What a move of the station state to another than SHOWING does to the output, from `s` to `t`: a PICTURE frame turns
BLACK and its need list is emptied, a fetch in progress to be discarded; nothing else changes (R120, R160). -/
abbrev TurnsBlack (s t : State) : Prop :=
  let turns : Bool := t.sc.state != s.sc.state && t.sc.state != .showing && s.wbp.mode == .picture
  t.wbp = { s.wbp with mode := if turns = true then .black else s.wbp.mode } ∧
  t.fs = if turns = true then
      { s.fs with
        sequence := [], prefetch := [], arb := { s.fs.arb with burst := s.fs.arb.burst.map Burst.dropRead } }
    else s.fs

/-- The receiver comes to the end of a message of `length` bit times that began at `t0` (R33, R44). -/
abbrev State.hearsAt (dt length t0 : Nat) (s : State) : Prop :=
  s.rstnLow = false ∧ s.running = true ∧ (s.slc.receiver = .receiving t0 true ∨ s.slc.receiver = .receiving t0 false) ∧
  s.now + dt = t0 + length * 1000

/-- The link once a received message has ended: the receiver waits, and the line is quiet since the last pulse (R32,
R44). -/
def Link.received (length t0 : Nat) (crc : Byte) (l : Link) : Link :=
  { l with receiver := .waiting, dominant := false, since := lastPulseEnd t0 length crc }

/-! ### Frame store -/

/-- The DRAM and its parity bits are in canonical form. -/
abbrev MemoryCanonical (s : State) : Prop := s.fs.memory.wf = true ∧ s.fs.parity.wf = true

/-- A slot is FILLING. -/
def Slot.isFilling : Slot → Bool
  | .filling => true
  | _ => false

/-- A slot is SHOWN. -/
def Slot.isShown : Slot → Bool
  | .shown _ => true
  | _ => false

/-- A slot is chosen. -/
def Slot.isChosen : Slot → Bool
  | .ready _ _ c => c
  | _ => false

/-- Four slots, at most one FILLING, at most one SHOWN; the READY slots' ranks are 1 to their number, each used once
(R151); a slot is FILLING only while a frame is in progress, and none in CONFIG (R152, R157). -/
abbrev SlotsDivided (s : State) : Prop :=
  s.fs.slots.length = 4 ∧ s.fs.slots.countP Slot.isFilling ≤ 1 ∧ s.fs.slots.countP Slot.isShown ≤ 1 ∧
  (∀ r < readyCount s.fs.slots, (s.fs.slots.filterMap Slot.rank?).count (r + 1) = 1) ∧
  (s.fs.slots.any Slot.isFilling = true → s.fs.frameInProgress = true) ∧
  (s.sc.state = .config → s.fs.port = .off)

/-- Slot `y` may stand beside slot `x`: a READY slot of higher rank than a READY one holds a newer frame, and a READY
slot holds a newer frame than the SHOWN one. -/
def framesOrdered : Slot → Slot → Bool
  | .ready f r _, .ready g q _ => decide (q ≤ r) || newer g f
  | .shown f, .ready g _ _ => newer g f
  | _, _ => true

/-- The frames in the slots rise with rank, and every READY frame is newer than the SHOWN one (R92, R151). -/
abbrev FramesRise (l : List Slot) : Prop := ∀ x ∈ l, ∀ y ∈ l, framesOrdered x y = true

/-- The slot that a SWAP names (R86). -/
def Decision.slot? : Decision → Option SlotNo
  | .swap _ i => some i
  | _ => Option.none

/-- The slot that a SWAP names is chosen and holds its target (R91). -/
def Decision.standsOn (l : List Slot) : Decision → Bool
  | .swap target i => (slotAt l i).isChosen && (slotAt l i).frame? == some target
  | _ => true

/-- The decision record and the chosen marks agree: a SWAP names a chosen READY slot that holds its target, and no other
slot is chosen; a decision stands only after the cutoff, and none in CONFIG (R86, R90, R91). -/
abbrev DecisionHeld (s : State) : Prop :=
  (∀ i : SlotNo, (slotAt s.fs.slots i).isChosen = true → s.swu.slot? = some i) ∧
  s.swu.standsOn s.fs.slots = true ∧ (s.swu = .none ∨ s.cu.cutoffTaken = true) ∧ (s.sc.state = .config → s.swu = .none)

/-- The slots, their frames and the decision record together (R86, R91, R92, R151). -/
abbrev StoreInOrder (s : State) : Prop := SlotsDivided s ∧ FramesRise s.fs.slots ∧ DecisionHeld s

/-- The side that a burst serves. -/
def Burst.side : Burst → Owner
  | .write _ _ _ _ => .writer
  | .read _ _ => .reader

/-- The entry that a burst fetches, where the fetch has not been discarded. -/
def Burst.fetching : Burst → Option Need
  | .read n true => some n
  | _ => none

/-- The arbiter: the burst in progress is the owner's, and there is one exactly while the memory is owned; an owner's
budget lies in 1..its run (R162; assumption log, entry 52); a fetch that is not to be discarded is that of the next
entry, and has a place in the prefetch (R160); only a READER's turn is ended by a frame start. -/
abbrev ArbiterInOrder (s : State) : Prop :=
  s.fs.arb.owner = (s.fs.arb.burst.map Burst.side).getD .none ∧
  s.fs.arb.budget ≤ s.fs.arb.owner.run ∧ (s.fs.arb.owner ≠ .none → 0 < s.fs.arb.budget) ∧
  (∀ n ∈ s.fs.arb.burst.bind Burst.fetching,
    s.fs.sequence.head? = some n ∧ s.fs.prefetch.length < Config.prefetchMax) ∧
  (s.fs.arb.turnEnds = true → s.fs.arb.owner = .reader)

/-- The buffers' limits: two input lines in the writer FIFO, 256 bursts in the prefetch, 32 bursts of budget (R150); in
CONFIG the FIFO is empty (R166); and the arbiter in order (R160, R162). -/
abbrev BuffersBounded (s : State) : Prop :=
  s.fs.fifo.length ≤ 2 * s.profile.inWidth ∧ s.fs.prefetch.length ≤ Config.prefetchMax ∧
  s.fs.arb.budget ≤ Config.readerRun ∧ (s.sc.state = .config → s.fs.fifo = []) ∧ ArbiterInOrder s

/-- The Frame Store of `t` is `f`, but for the reader's hand-over and the arbiter, which have been brought up to date
(R130, R162). -/
abbrev State.storeIs (t : State) (f : FrameStore) : Prop :=
  t.fs = { f with sequence := t.fs.sequence, arb := t.fs.arb }

/-- How the memory is passed on at the end of the owner's burst, from `s` to `t` (R162). The budget falls by one; while
it is not 0, and no frame start has ended the turn, an owner with a further burst to move goes on; else the other side is
granted with a fresh budget if it requests, else the owner again if it does, else the owner becomes NONE. The next burst
begins at once and ends 4 ns later. -/
abbrev PassedOn (s t : State) : Prop :=
  let a := s.fs.arb
  let given (o : Owner) (budget : Nat) : Arbiter :=
    { owner := o, budget := budget, burst := nextBurst o t, memoryFree := t.now + 4, turnEnds := false,
      grantedAt := none }
  let fresh (o : Owner) : Nat := if o = .reader then 32 else 16
  t.fs.arb =
    if a.budget - 1 ≠ 0 ∧ a.turnEnds = false ∧ requests a.owner t = true then given a.owner (a.budget - 1)
    else if requests a.owner.other t = true then given a.owner.other (fresh a.owner.other)
    else if requests a.owner t = true then given a.owner (fresh a.owner)
    else { owner := .none, budget := 0, burst := none, memoryFree := a.memoryFree, turnEnds := false, grantedAt := none }

/-- The arbiter of `t` after an event that has left `a` of it, by the requests that then stand (R162). With the owner NONE
the reader is granted before the writer; a WRITER granted from NONE at this same instant gives way to the reader, its burst
not begun; any other owner goes on. -/
abbrev Granted (a : Arbiter) (t : State) : Prop :=
  let given (o : Owner) (budget free : Nat) : Arbiter :=
    { owner := o, budget := budget, burst := nextBurst o t, memoryFree := max t.now free + 4, turnEnds := false,
      grantedAt := some t.now }
  t.fs.arb = match a.owner with
    | .none =>
      if readerRequests t = true then given .reader 32 a.memoryFree
      else if writerRequests t = true then given .writer 16 a.memoryFree
      else a
    | .writer =>
      if readerRequests t = true ∧ a.grantedAt = some t.now then given .reader 32 (a.memoryFree - 4) else a
    | .reader => a

/-- What an own frame start, from `s` to `t`, leaves of the arbiter: a fetch in progress is to be discarded, and so is a
write into a slot that the enactment of a SWAP has freed; a READER's turn ends with its burst; and the requests that then
stand are granted (R155, R159, R160, R162). That the discarded write occupies the memory to its end is the model's choice
(assumption log, entry 16). -/
abbrev FrameStartArbiter (s t : State) : Prop :=
  let a := s.fs.arb
  Granted
    { a with
      burst := match a.burst with
        | none => none
        | some (.read n _) => some (.read n false)
        | some (.write i line column kept) =>
          some (.write i line column
            (kept && !(s.swu.slot?.isSome && slotAt t.fs.slots i == .free))),
      turnEnds := a.turnEnds || a.owner == .reader } t

/-- `q` is the whole number nearest to `n / d`, a half going up. -/
abbrev NearestTo (n d q : Nat) : Prop := 2 * q * d ≤ 2 * n + d ∧ 2 * n < (2 * q + 1) * d

/-! ### Peer table -/

/-- Sixteen entries; no silence count exceeds the silence limit, and a SILENT entry's equals it (R57); nothing is stored
at the own number (R51), and in CONFIG nothing at all (R15). -/
abbrev SilenceBounded (s : State) : Prop :=
  s.pt.entries.length = 16 ∧ s.pt.entry s.profile.station = PeerEntry.absent ∧
  (∀ e ∈ s.pt.entries, e.silence ≤ s.profile.silenceLimit ∧
    (e.status = .silent → e.silence = s.profile.silenceLimit)) ∧
  s.pt.unheard ≤ s.profile.silenceLimit ∧
  (s.sc.state = .config → s.pt.entries = List.replicate 16 PeerEntry.absent ∧ s.pt.unheard = 0)

/-- The figures that make the view lie in their ranges: K in 1..4, L in 0..32768, at most three coverers (R19, R49, R106,
R136). -/
abbrev FiguresInRange (s : State) : Prop :=
  (1 ≤ s.we.kLocal ∧ s.we.kLocal ≤ 4) ∧ s.ls.lAnn ≤ Config.one ∧ s.ls.l0 ≤ Config.one ∧ s.ls.l1 ≤ Config.one ∧
  (∀ e ∈ s.pt.entries, (∀ k ∈ e.depth, 1 ≤ k ∧ k ≤ 4) ∧ ∀ l ∈ e.level, l ≤ Config.one) ∧
  (∀ r ∈ s.mt.records, r.2.coverers.length ≤ 3)

/-- The view record is what the entries and the own figures make it in a running state, and the empty view in CONFIG
(R62, R63, R64). -/
abbrev ViewFollows (s : State) : Prop :=
  (s.running = true → s.pt.view = s.formedView s.pt.view.serial) ∧
  (s.sc.state = .config → s.pt.view = View.config s.pt.view.serial ∧ s.ls.lAnn = 0 ∧
    s.pt.entries = List.replicate 16 PeerEntry.absent)

/-! ### Station, cadence, link and output -/

/-- The frame timer runs exactly while the profile is valid, and only a station with a valid profile runs (R8, R9). -/
abbrev TimerRuns (s : State) : Prop :=
  s.cu.running = s.sc.profileValid ∧ (s.running = true → s.sc.profileValid = true)

/-- The lock state is IDLE exactly in CONFIG, HOLD exactly while the table is ISOLATED, and a REFERENCE station's
reference is itself (R69, R81, R82, R84). -/
abbrev LockCoherent (s : State) : Prop :=
  (s.cu.lock = .idle ↔ s.sc.state = .config) ∧ (s.cu.lock = .hold ↔ s.pt.condition = .isolated) ∧
  (s.cu.lock = .reference → s.cu.reference = some s.profile.station)

/-- A station that meets both conditions of R10 has left JOINING: a transition is made within the event that makes its
condition true (R3, R10). -/
abbrev TransitionsMade (s : State) : Prop :=
  s.sc.state = .joining → ¬(s.lockMet = true ∧ s.we.promoted = true)

/-- In CONFIG the transmit queue is empty and no message is on the line (R30, R35). -/
abbrev QuietInConfig (s : State) : Prop :=
  s.sc.state = .config → s.slc.queue = TransmitQueue.empty ∧ s.slc.onLine = none

/-- A frame in PICTURE belongs to a SHOWING station (R120). -/
abbrev PictureOnlyShowing (s : State) : Prop := s.wbp.mode = .picture → s.sc.state = .showing

/-- The tuning and structural ranges of a held profile (R4, R5). -/
abbrev ProfileInRange (p : Profile) : Prop :=
  (4000 ≤ p.period ∧ p.period ≤ 41667) ∧ (256 ≤ p.outWidth ∧ p.outWidth ≤ 4096 ∧ 32 ∣ p.outWidth) ∧
  (128 ≤ p.outHeight ∧ p.outHeight ≤ 2400 ∧ 32 ∣ p.outHeight) ∧ (256 ≤ p.inWidth ∧ p.inWidth ≤ 4096) ∧
  (128 ≤ p.inHeight ∧ p.inHeight ≤ 2400) ∧ p.dark0 ≤ 4094 ∧ (p.dark0 + 256 ≤ p.rated0 ∧ p.rated0 ≤ 4094) ∧
  (p.lampMode = .dual → p.dark1 ≤ 4094 ∧ p.dark1 + 256 ≤ p.rated1 ∧ p.rated1 ≤ 4094) ∧
  p.blackStep ≤ 1024 ∧ (8192 ≤ p.tMin ∧ p.tMin ≤ 32768) ∧ (p.tMin ≤ p.tReturn ∧ p.tReturn ≤ 32768) ∧
  (32 ≤ p.lStep ∧ p.lStep ≤ 2048) ∧ (2 ≤ p.silenceLimit ∧ p.silenceLimit ≤ 15) ∧
  (5 ≤ p.lockTolerance ∧ p.lockTolerance ≤ 500) ∧
  (p.lockTolerance + 1 ≤ p.unlockThreshold ∧ p.unlockThreshold ≤ 2000) ∧
  (10 ≤ p.freeEnter ∧ p.freeEnter ≤ 2000) ∧ (1 ≤ p.freeExit ∧ p.freeExit ≤ p.freeEnter - 1) ∧
  (1 ≤ p.slew ∧ p.slew ≤ 200) ∧ (200 ≤ p.cutoffLead ∧ p.cutoffLead ≤ p.period / 4) ∧
  (16 ≤ p.lockTimeout ∧ p.lockTimeout ≤ 1023) ∧ p.retryLimit ≤ 7 ∧ p.glitchWidth ≤ 15

/-- A valid held profile lies in its ranges, and only a station with a valid profile runs (R4, R5, R9). -/
abbrev ProfileSound (s : State) : Prop :=
  (s.sc.profileValid = true → ProfileInRange s.profile) ∧ (s.running = true → s.sc.profileValid = true)

/-- A running station's announced luminance lies within L_step − 1 of its measured one (R142). -/
abbrev AnnouncedNearMeasured (s : State) : Prop :=
  s.running = true → ((s.ls.lMeas : Int) - (s.ls.lAnn : Int)).natAbs < s.profile.lStep

/-! ### Mesh and weights -/

/-- What R22 and R24 leave in a stored record of the station numbered `own`. -/
abbrev VertexSound (own : StationNo) (v : Vertex) : Prop :=
  v.coverers.length ≤ 3 ∧ (v.coverers.map Coverer.peer).Nodup ∧
  (∀ c ∈ v.coverers, c.peer ≠ own ∧ c.ramp ≤ Config.one) ∧
  (v.inside = true → 1 ≤ v.rSelf ∧ v.rSelf ≤ Config.one) ∧
  (v.inside = false → v.rSelf = 0 ∧ v.coverers = [])

/-- The written records lie in the grid in index order, are sound, are counted, and name the neighbour set (R18, R22,
R24, R26). -/
abbrev MeshSound (s : State) : Prop :=
  (s.mt.records.map Prod.fst).Pairwise (· < ·) ∧ (∀ r ∈ s.mt.records, r.1 < s.sc.vertexCount) ∧
  (∀ r ∈ s.mt.records, VertexSound s.profile.station r.2) ∧ s.mt.marked = s.mt.records.length ∧
  s.mt.neighbours = neighboursOf s.mt.records

/-- A weight table of the right size, A and B in 0..32768, and zero at every outside vertex (R99). -/
abbrev TableSound (s : State) (t : List Weight) : Prop :=
  t.length = s.sc.vertexCount ∧ (∀ e ∈ t, e.gain ≤ Config.one ∧ e.floor ≤ Config.one) ∧
  ∀ i < s.sc.vertexCount, (s.mt.vertex i).inside = false → t.getD i ⟨0, 0⟩ = ⟨0, 0⟩

/-- Both weight tables are sound; in CONFIG they are zero throughout and the engine is IDLE (R99, R115, R116). -/
abbrev WeightsSound (s : State) : Prop :=
  TableSound s s.we.shown ∧ TableSound s s.we.work ∧
  (s.sc.state = .config → s.we.shown = zeroTable s.sc ∧ s.we.work = zeroTable s.sc ∧ s.we.engine = .idle)

/-- No counter passes 65535 (00_scope.md, Conventions, Counters). -/
abbrev CountersSaturate (s : State) : Prop := ∀ n ∈ s.counters.toList, n ≤ Config.counterMax

end Sys2Proof.Machine
end

