-- ==== Sys2Proof/Certificates/Slice0/Obligations.lean ====
section
/-! DEFINITION. The statements for the provers. Each says which rules of the manual it formalises; a witness for every
statement with hypotheses stands in Sys2Proof/Tests/Slice0.lean. -/

open Sys2Proof Sys2Proof.Machine

/-! ### The queue and the service port -/

/-- A step takes the command at the front of the queue and runs it on the state with the queue's rest; with an empty
queue the block idles (the model's choice, assumption log, entry 4). -/
def Obligations.StepTakesFront : Prop :=
  (∀ (c : Instr) (rest : List Instr) (s : State),
    s.pending = c :: rest → step s = exec c { s with pending := rest }) ∧
  ∀ s : State, s.pending = [] → step s = .next s

/-- R169 to R171, R179, R185: SVC_CSN falling opens a transaction that ends where it rises, and SVC_SDO is driven just so
long; an unknown command byte and a short action write their result at the rise, and nothing else changes. The model
takes one command in a transaction, an action at its rise and a read before it, and lets only time pass at any other (its
inference, assumption log, entries 3 and 24). The bits of SVC_SDI sampled while SVC_CSN is low form bytes, most significant
bit first, a final partial byte discarded; the bytes of a transaction name the table's row by R185's codes, and an
incomplete command byte names none. That a SAMPLE whose mode byte is above 2 comes as the row of mode STOP is the model's
inference (entry 17), and that SVC_SDO stays released in a transaction ignored after RSTN rises its choice (entry 37). -/
def Obligations.PortTransactions : Prop :=
  (∀ (dt low : Nat) (s : State), s.rstnLow = false →
    let n : State := { s with now := s.now + dt }
    (s.svp.transaction = .closed ∨ s.svp.rise ≤ n.now →
      exec (.transactionBegin ⟨dt, low⟩) s =
        .next { n with svp := { s.svp with transaction := .opened, rise := n.now + low, received := [], shiftOut := [] } }) ∧
    (s.svp.transaction ≠ .closed → n.now < s.svp.rise → exec (.transactionBegin ⟨dt, low⟩) s = .next n) ∧
    (s.sdoDriven = true ↔ s.svp.transaction ≠ .closed ∧ s.now < s.svp.rise) ∧
    (∀ bit : Bool,
      (s.svp.transaction ≠ .closed ∧ n.now < s.svp.rise →
        s.clockIn dt bit = { n with svp := { s.svp with received := s.svp.received ++ [bit] } }) ∧
      (s.svp.transaction = .closed ∨ s.svp.rise ≤ n.now → s.clockIn dt bit = n)) ∧
    (s.takesAction dt →
      (∀ code : Byte, decodeCommand code = none →
        exec (.unknown dt code) s = .next (s.answered dt .unknown code.toNat)) ∧
      ∀ (code : Byte) (payload : List Byte), shortTransaction code payload = true →
        exec (.length dt code payload) s = .next (s.answered dt .length 0)) ∧
    (¬s.takesAction dt → ∀ (payload : List Byte) (code : Byte),
      exec (.profile dt payload) s = .next n ∧ exec (.stop dt) s = .next n ∧ exec (.unknown dt code) s = .next n ∧
      exec (.length dt code payload) s = .next n) ∧
    (¬s.takesRead dt → exec (.status dt) s = .next n ∧ exec (.counters dt) s = .next n)) ∧
  (∀ (dt : Nat) (line : LineLevel) (s : State),
    let bits (b : Byte) : List Bool := (List.range 8).map fun k => b.getMsbD k
    (s.svp.received.length < 8 → s.withReceived dt line = s) ∧
    ∀ (code : Byte) (payload : List Byte) (partialByte : List Bool), partialByte.length < 8 →
      s.svp.received = bits code ++ payload.flatMap bits ++ partialByte →
      s.withReceived dt line = s.withTransaction dt line code payload) ∧
  ∀ (dt : Nat) (line : LineLevel) (payload : List Byte),
    let row (code : Byte) : Instr := transactionInstr dt line code payload
    row 0x20 = .start dt ∧ row 0x21 = .stop dt ∧ row 0x2F = .reset ⟨dt, line⟩ ∧ row 0x80 = .status dt ∧
    row 0x81 = .peers dt ∧ row 0x82 = .counters dt ∧ row 0x83 = .trap dt ∧ row 0x84 = .readSample dt ∧
    row 0x10 = (if payload.length < 45 then .length dt 0x10 payload else .profile dt payload) ∧
    row 0x11 = (if payload.length < 3 + 16 * min 64 (payload.getD 2 0).toNat then .length dt 0x11 payload
      else .mesh dt payload) ∧
    (payload.length < 2 → row 0x30 = .length dt 0x30 payload) ∧
    (∀ (channel mode : Byte) (rest : List Byte), payload = channel :: mode :: rest →
      row 0x30 = if mode = 0 then .sampleSingle dt channel 0
        else if mode = 1 then .sampleContinuous dt channel 1
        else .sampleStop dt channel mode) ∧
    ∀ code : Byte, code ∉ ([0x10, 0x11, 0x20, 0x21, 0x2F, 0x30, 0x80, 0x81, 0x82, 0x83, 0x84] : List Byte) →
      row code = .unknown dt code

/-- R98, R105, R107, R146, R164, R170, R174 to R176, R178: each read command captures its record whole, makes its effect
of reading, and changes nothing else; STATUS and COUNTERS read the vertices that a running pass has computed by then, one
that falls due at that very instant not among them, where the manual allows either (the model's choice, assumption log,
entry 10). Without a result READSAMPLE's channel bit is 0 (the model's inference, entry 47). -/
def Obligations.ReadsTaken : Prop :=
  ∀ (dt : Nat) (s : State), s.takesRead dt →
    let n : State := { s with now := s.now + dt }
    let m := runPass n
    let reading (record : List Byte) : ServicePort := { s.svp with transaction := .reading, shiftOut := 0 :: record }
    exec (.status dt) s = .next { m with svp := { reading (statusRecord m) with causes := Causes.clear } } ∧
    exec (.peers dt) s = .next { n with svp := reading (peersRecord n) } ∧
    exec (.counters dt) s = .next { m with svp := reading (countersRecord m), counters := Counters.zero } ∧
    exec (.trap dt) s = .next { n with svp := reading (trapRecord n), fs := { s.fs with trap := none } } ∧
    exec (.readSample dt) s = .next { n with svp := reading (sampleRecord n), ls := { s.ls with fresh := false } } ∧
    (statusRecord m).length = 38 ∧ (peersRecord n).length = 208 ∧ (countersRecord m).length = 38 ∧
    (trapRecord n).length = 5 ∧ (sampleRecord n).length = 10 ∧
    (s.we.engine ≠ .computing → m = n) ∧
    (∀ p, s.we.engine = .computing → s.we.passStart = some p →
      let computed := min s.sc.vertexCount ((s.now + dt - p + 39) / 40)
      let since := ((List.range computed).drop s.we.position).map fun i =>
        computeVertex s.profile s.we.copy (s.mt.vertex i)
      let saturated := (since.filter VertexResult.saturated).length
      m = { n with
        we := { s.we with
          position := computed, passMaximum := (since.map VertexResult.k).foldl max s.we.passMaximum,
          saturated := s.we.saturated || saturated != 0 },
        counters := { s.counters with saturated := min 65535 (s.counters.saturated + saturated) } })

/-- R173: an action command refused in the station state writes its result and leaves every block as it was. -/
def Obligations.CommandsRefused : Prop :=
  ∀ (dt : Nat) (s : State), s.takesAction dt →
    (s.sc.state ≠ .config → ∀ (payload : List Byte) (channel mode : Byte),
      (Config.profileBytes ≤ payload.length →
        exec (.profile dt payload) s = .next (s.answered dt .busy 0)) ∧
      (3 + Config.vertexBytes * meshCount payload ≤ payload.length →
        exec (.mesh dt payload) s = .next (s.answered dt .busy 0)) ∧
      exec (.start dt) s = .next (s.answered dt .busy 0) ∧
      exec (.sampleSingle dt channel mode) s = .next (s.answered dt .busy 0) ∧
      exec (.sampleContinuous dt channel mode) s = .next (s.answered dt .busy 0) ∧
      exec (.sampleStop dt channel mode) s = .next (s.answered dt .busy 0)) ∧
    (s.sc.state = .config → s.sc.profileValid = false → ∀ payload : List Byte,
      (3 + Config.vertexBytes * meshCount payload ≤ payload.length →
        exec (.mesh dt payload) s = .next (s.answered dt .noProfile 0)) ∧
      exec (.start dt) s = .next (s.answered dt .noProfile 0)) ∧
    (s.sc.state = .config → s.sc.profileValid = true → s.mt.marked ≠ s.sc.vertexCount →
      exec (.start dt) s = .next (s.answered dt .noMesh 0)) ∧
    (s.sc.state = .config → exec (.stop dt) s = .next (s.answered dt .notRunning 0)) ∧
    (s.sc.state = .stopping → exec (.stop dt) s = .next (s.answered dt .busy 0))

/-- R4, R28, R144: BADFIELD names the first failing field, every field of a lower index passing its check; a refused PROFILE unmarks the mesh and changes nothing else, a
refused SAMPLE changes nothing else. -/
def Obligations.BadFieldRefused : Prop :=
  (∀ r : RawProfile, structuralFault r = none ↔ StructuralInRange r) ∧
  (∀ (r : RawProfile) (i : Nat), structuralFault r = some i → ¬r.passes i ∧ ∀ j < i, r.passes j) ∧
  ∀ (dt : Nat) (s : State), s.takesAction dt → s.sc.state = .config →
    (∀ (payload : List Byte) (i : Nat), Config.profileBytes ≤ payload.length →
      structuralFault (readProfile payload) = some i →
        exec (.profile dt payload) s = .next { s.answered dt .badField i with mt := Mesh.blank }) ∧
    ∀ channel mode : Byte,
      (2 ≤ channel.toNat →
        exec (.sampleSingle dt channel mode) s = .next (s.answered dt .badField 0) ∧
        exec (.sampleContinuous dt channel mode) s = .next (s.answered dt .badField 0) ∧
        exec (.sampleStop dt channel mode) s = .next (s.answered dt .badField 0)) ∧
      (channel.toNat < 2 → 2 < mode.toNat →
        exec (.sampleSingle dt channel mode) s = .next (s.answered dt .badField 1) ∧
        exec (.sampleContinuous dt channel mode) s = .next (s.answered dt .badField 1) ∧
        exec (.sampleStop dt channel mode) s = .next (s.answered dt .badField 1))

/-- R5, R6, R7, R28, R84, R117: an accepted PROFILE replaces the record with the clamped one, which lies in its ranges,
forms the tag, unmarks the mesh, sizes zero tables, and makes a frame start at once with code-0 output. The pass position
then stands at 0 and the pass maximum at 1, of which R117 says nothing (the model's choice, assumption log, entry 31). -/
def Obligations.ProfileAccepted : Prop :=
  (∀ r : RawProfile, StructuralInRange r → ProfileInRange (clampProfile r)) ∧
  ∀ (dt : Nat) (payload : List Byte) (s : State), s.takesAction dt → s.sc.state = .config →
    Config.profileBytes ≤ payload.length → StructuralInRange (readProfile payload) →
    let r := readProfile payload
    let p := clampProfile r
    let now := s.now + dt
    ∃ t, exec (.profile dt payload) s = .next t ∧
      t.sc = { s.sc with
        profile := p, profileValid := true, domeTag := domeTagOf p, clamped := (firstClamped r).isSome,
        firstClamped := (firstClamped r).getD 0, lastResult := .ok, lastIndex := 0 } ∧
      t.mt = Mesh.blank ∧
      t.cu = { s.cu with
        running := true, latestFrameStart := some (now / 1000), lastPeriod := none, cutoffTaken := false,
        periodEnd := some (now / 1000 + p.period), baseLength := p.period, lock := .idle, reference := none,
        lockCount := 0, orphanCount := 0, previous := none, frameCount := 0 } ∧
      t.we = { s.we with
        shown := List.replicate ((p.outWidth / 32 + 1) * (p.outHeight / 32 + 1)) ⟨0, 0⟩,
        work := List.replicate ((p.outWidth / 32 + 1) * (p.outHeight / 32 + 1)) ⟨0, 0⟩, kLocal := 1, position := 0,
        passMaximum := 1 } ∧
      t.wbp = { s.wbp with
        mode := .black, frameSlot := none, position := some (0, 0), underrun := false, frameAt := now, nextLine := 0,
        inFlight := [] } ∧
      t.fs.slots = s.fs.slots ∧ t.fs.memory = s.fs.memory ∧ t.fs.parity = s.fs.parity ∧ t.fs.trap = s.fs.trap ∧
      t.fs.fifo = s.fs.fifo ∧ t.fs.port = s.fs.port ∧
      t = { s with now := now, sc := t.sc, mt := t.mt, cu := t.cu, we := t.we, wbp := t.wbp, fs := t.fs,
                   svp := { s.svp with transaction := .closed, shiftOut := [] } }

/-- R21 to R24, R26: MESH stores the records before the first that fails, each at its index, and stops there with
BADVERTEX and the index of R23, or ends with OK; every other vertex is left as it was, and the neighbour set follows. -/
def Obligations.MeshTaken : Prop :=
  ∀ (dt : Nat) (payload : List Byte) (s : State) (n : Nat), s.takesAction dt → s.sc.state = .config →
    s.sc.profileValid = true → MeshSound s → 3 ≤ payload.length →
    3 + Config.vertexBytes * meshCount payload ≤ payload.length →
    let first := wordAt payload 0
    let records := readVertices payload
    let size := s.sc.vertexCount
    (∀ j q, j < n → records[j]? = some q → first + j < size ∧ q.fails s.profile.station = false) →
    n ≤ records.length →
    (∀ q, records[n]? = some q → size ≤ first + n ∨ q.fails s.profile.station = true) →
    ∃ t, exec (.mesh dt payload) s = .next t ∧
      t.sc = { s.sc with
        lastResult := if n = records.length then .ok else .badVertex,
        lastIndex := if n = records.length then 0 else if size ≤ first + n then size - 1 else first + n } ∧
      (∀ j q, j < n → records[j]? = some q →
        t.mt.vertex (first + j) = q.stored ∧ t.mt.isMarked (first + j) = true) ∧
      (∀ i, i < first ∨ first + n ≤ i → t.mt.vertex i = s.mt.vertex i ∧ t.mt.isMarked i = s.mt.isMarked i) ∧
      MeshSound t ∧
      t = { s with now := s.now + dt, sc := t.sc, mt := t.mt,
                   svp := { s.svp with transaction := .closed, shiftOut := [] } }

/-- R9, R64, R84, R115, R134, R147, R152: an accepted START takes the station to JOINING and makes every start-up action
within its event. A manual conversion in progress is left to complete, but for one that a manual completion has begun at
this same instant, which does not go on. -/
def Obligations.StartAccepted : Prop :=
  ∀ (dt : Nat) (s : State), s.takesAction dt → s.sc.state = .config → s.sc.profileValid = true →
    s.mt.marked = s.sc.vertexCount → WeightsSound s → PictureOnlyShowing s →
    let now := s.now + dt
    let manual := s.ls.conversion.any Conversion.manual
    let repeats := manual && s.ls.repeatedAt == some now
    let view : View := { alive := [], lSelf := 0, ceiling := 0, kDome := s.we.kLocal, serial := s.pt.view.serial + 1 }
    exec (.start dt) s = .next
      { s with
        now := now,
        sc := { s.sc with
          state := .joining, joinCount := 0, lockTimeoutCount := 0, lockWaived := false, lastResult := .ok,
          lastIndex := 0 },
        ls := { s.ls with
          mode := if manual && !repeats then s.ls.mode else .auto,
          autoPending := (manual && !repeats) || s.ls.autoPending, stopPending := false,
          conversion := if repeats then none else s.ls.conversion,
          sequences := 0, acc0 := ⟨0, 0⟩, acc1 := ⟨0, 0⟩, l0 := 0, l1 := 0, fault0 := false, fault1 := false,
          lMeas := 0, lAnn := 0 },
        cu := { s.cu with
          lock := .seeking, reference := none, lockCount := 0, orphanCount := 0, previous := none, frameCount := 0,
          baseLength := s.profile.period, windowCount := 0 },
        slc := { s.slc with receiver := .waiting, listenFrom := now },
        fs := { s.fs with port := .waiting, lossStart := some (now / 1000), lost := false },
        pt := { s.pt with unheard := 0, view := view },
        we := { s.we with
          engine := .computing, copy := view, position := 0, passMaximum := 1, passStart := some now,
          saturated := false },
        wbp := { s.wbp with underrun := false },
        svp := { s.svp with transaction := .closed, shiftOut := [], causes := { s.svp.causes with state := true } } }

/-- R14, R35, R120, R160: STOP in JOINING, SHOWING or DARK takes the station to STOPPING, raises STATE, replaces any
unsent LEAVE with a SERVICE LEAVE, and turns a PICTURE frame BLACK, emptying its need list, a fetch in progress to be
discarded; the mesh, the peer table, the cadence, the weights, the sampler, the slots and the memory are left as they
were. -/
def Obligations.StopTaken : Prop :=
  ∀ (dt : Nat) (s : State), s.takesAction dt →
    (s.sc.state = .joining ∨ s.sc.state = .showing ∨ s.sc.state = .dark) →
    ∃ t, exec (.stop dt) s = .next t ∧
      t.sc = { s.sc with state := .stopping, lastResult := .ok, lastIndex := 0 } ∧
      t.slc = { s.slc with
        queue := { s.slc.queue with
          leave := some { msg := { reason := 2, forStop := true }, retries := 0, retried := false } } } ∧
      t.svp = { s.svp with transaction := .closed, shiftOut := [], causes := { s.svp.causes with state := true } } ∧
      t.wbp = { s.wbp with mode := if s.wbp.mode = .picture then .black else s.wbp.mode } ∧
      (s.wbp.mode = .picture → t.fs = { s.fs with
        sequence := [], prefetch := [], arb := { s.fs.arb with burst := match s.fs.arb.burst with
          | some (.read n _) => some (.read n false)
          | b => b } }) ∧
      (s.wbp.mode ≠ .picture → t.fs = s.fs) ∧
      t = { s with now := s.now + dt, sc := t.sc, slc := t.slc, svp := t.svp, wbp := t.wbp, fs := t.fs }

/-- R15, R16, R46, R64, R68, R84, R97, R116, R134, R148, R166: RESET in every station state makes the soft reset: CONFIG
at once with every effect of entering it, the counters, the counts of frame starts and the fresh flag cleared; the
profile, the mesh, the trap, the marks, the memory and the pending causes are kept. That the line count, the line's
pixels, the damaged mark and the trailer pixels of an input frame in progress are kept too is the model's choice
(assumption log, entry 58). -/
def Obligations.ResetTaken : Prop :=
  ∀ (dt : Nat) (line : LineLevel) (s : State), s.takesAction dt →
    ∃ t u, exec (.reset ⟨dt, line⟩) s = .next t ∧
      (s.slc.busy = false → u.slc.dominant = s.slc.dominant ∧ u.slc.since = s.slc.since) ∧
      EntersConfig { s with
        now := s.now + dt, slc := { s.slc with dominant := u.slc.dominant, since := u.slc.since },
        svp := { s.svp with transaction := .closed, shiftOut := [] } } u ∧
      t = { u with
        counters := Counters.zero, ls := { u.ls with fresh := false },
        sc := { u.sc with joinCount := 0, lockTimeoutCount := 0, lockWaived := false, lastResult := .ok, lastIndex := 0 },
        svp := { u.svp with transaction := .closed, shiftOut := [] } }

/-- R144: a valid SAMPLE in CONFIG starts a manual conversion of the named channel, 16 µs long, or sets stop pending in
continuous mode, ends with OK, and touches nothing else. -/
def Obligations.SampleTaken : Prop :=
  ∀ (dt : Nat) (channel : Byte) (c : Channel) (s : State), s.takesAction dt → s.sc.state = .config →
    (channel = 0 ∧ c = .lamp0 ∨ channel = 1 ∧ c = .lamp1) →
    let conversion : Conversion := { channel := c, manual := true, completesAt := s.now + dt + 16000 }
    exec (.sampleSingle dt channel 0) s = .next { s.answered dt .ok 0 with
      ls := { s.ls with
        mode := .manualSingle, stopPending := false, conversion := some conversion, repeatedAt := none } } ∧
    exec (.sampleContinuous dt channel 1) s = .next { s.answered dt .ok 0 with
      ls := { s.ls with
        mode := .manualContinuous, stopPending := false, conversion := some conversion, repeatedAt := none } } ∧
    exec (.sampleStop dt channel 2) s = .next { s.answered dt .ok 0 with
      ls := { s.ls with stopPending := s.ls.stopPending || s.ls.mode == .manualContinuous } }

/-- R17, R30, R178, R179: RSTN low puts every block at its hardware reset value, the memory's contents apart (the model's
choice, assumption log, entry 14), and releases SEAM, SVC_ATNN and SVC_SDO; while it is low only time passes; its release
lets the blocks run from those values. -/
def Obligations.ResetLine : Prop :=
  (∀ (dt : Nat) (s : State),
    exec (.hardwareReset dt) s = .next
      { State.reset with
        pending := s.pending, now := s.now + dt, rstnLow := true, slc := { State.reset.slc with since := s.now + dt },
        fs := { State.reset.fs with memory := s.fs.memory, parity := s.fs.parity } } ∧
    (s.rstnLow = true → exec (.rstnRelease dt) s = .next
      { s with now := s.now + dt, rstnLow := false, slc := { s.slc with since := s.now + dt } }) ∧
    (s.rstnLow = true → s.drivesSeam = false ∧ s.attentionLow = false ∧ s.sdoDriven = false)) ∧
  ∀ (c : Instr) (s : State), s.rstnLow = true → (∀ dt, c ≠ .hardwareReset dt) → (∀ dt, c ≠ .rstnRelease dt) →
    ∃ dt, exec c s = .next { s with now := s.now + dt }

/-! ### Own frame starts -/

/-- R70, R71, R73, R76, R35, R47: at the period end the frame start sets the timer for the next period; in a running
state it advances the counts and requests the PULSE, whose fields but the announced state are those at that frame start,
and whose state and shown frame follow the order taken. The orphan count goes by the reference as it stands before any
peer becomes SILENT at this frame start (the model's choice, assumption log, entry 42). -/
def Obligations.FrameStartTimer : Prop :=
  ∀ (dt e : Nat) (order : SameInstant) (s : State), s.rstnLow = false → s.cu.running = true →
    s.cu.periodEnd = some e → s.now + dt = toNs e →
    ∃ t, exec (.frameStart dt order) s = .next t ∧
      t.cu = { s.cu with
        latestFrameStart := some e, lastPeriod := s.cu.latestFrameStart.map fun f => e - f, cutoffTaken := false,
        periodEnd := some (e + s.cu.baseLength),
        baseLength := if s.cu.lock = .hold then s.cu.baseLength else s.profile.period,
        frameCount := if s.running = true then s.cu.frameCount + 1 else s.cu.frameCount,
        windowCount := if s.running = true then min 5 (s.cu.windowCount + 1) else s.cu.windowCount,
        orphanCount :=
          if s.running = true ∧ 4 ≤ s.cu.windowCount ∧ s.cu.lock = .seeking ∧ s.cu.reference = none then
            min 4 (s.cu.orphanCount + 1)
          else s.cu.orphanCount } ∧
      (s.running = false → t.slc = s.slc) ∧
      (s.running = true →
        let announced := if order.pulseAfter = true then t.sc.state else s.sc.state
        let pulse : PulseRequest :=
          { beat := (s.cu.frameCount + 1).truncate 8,
            shown := if announced = .showing then (shownFrame t.fs.slots).getD 0 else 0,
            level := BitVec.ofNat 16 s.ls.lAnn, depth := BitVec.ofNat 2 (s.we.kLocal - 1),
            state := match announced with
              | .joining => 0
              | .showing => 1
              | _ => 2,
            lock := BitVec.ofNat 3 s.cu.lock.code, tag := s.sc.domeTag, frameStart := e }
        announced ≠ .config →
        t.slc = { s.slc with queue := { s.slc.queue with
          pulse := some { msg := pulse, retries := 0, retried := false } } }) ∧
      t = { s with
        now := s.now + dt, cu := t.cu, slc := t.slc, swu := t.swu, counters := t.counters, fs := t.fs, sc := t.sc,
        svp := t.svp, pt := t.pt, ls := t.ls, we := t.we, wbp := t.wbp }

/-- R86, R92, R93, R155, R159, R160, R162, R165: the decision record is enacted and cleared. A SWAP shows its slot, frees the old
SHOWN slot and every older READY slot with its pending pixels, and counts SWAPS; a HOLD counts HOLDS; none does nothing.
The occupancy marks are latched, and the arbiter goes on by the requests that then stand, a write into a freed slot
discarded (the model's choice, assumption log, entry 16). No byte of the memory changes. -/
def Obligations.FrameStartEnacts : Prop :=
  ∀ (dt e : Nat) (order : SameInstant) (s : State), s.rstnLow = false → s.cu.running = true →
    s.cu.periodEnd = some e → s.now + dt = toNs e →
    ∃ t, exec (.frameStart dt order) s = .next t ∧ t.swu = .none ∧
      (s.swu = .none → t.fs.slots = s.fs.slots ∧ t.fs.fifo = s.fs.fifo ∧ t.counters = s.counters) ∧
      (s.swu = .hold → t.fs.slots = s.fs.slots ∧ t.fs.fifo = s.fs.fifo ∧
        t.counters = { s.counters with holds := min 65535 (s.counters.holds + 1) }) ∧
      (∀ target slot, s.swu = .swap target slot →
        t.counters = { s.counters with swaps := min 65535 (s.counters.swaps + 1) } ∧
        slotAt t.fs.slots slot = .shown target ∧
        (∀ i, i ≠ slot →
          (slotAt s.fs.slots i = .free → slotAt t.fs.slots i = .free) ∧
          (slotAt s.fs.slots i = .filling → slotAt t.fs.slots i = .filling) ∧
          (∀ f, slotAt s.fs.slots i = .shown f → slotAt t.fs.slots i = .free) ∧
          ∀ f r c, slotAt s.fs.slots i = .ready f r c →
            if older f target = true then slotAt t.fs.slots i = .free
            else ∃ q, slotAt t.fs.slots i = .ready f q c) ∧
        t.fs.fifo = s.fs.fifo.filter fun p => slotAt t.fs.slots p.slot != .free) ∧
      t.fs = { s.fs with
        slots := t.fs.slots, fifo := t.fs.fifo, fifoPeakMark := s.fs.framePeak, prefetchMinMark := s.fs.frameMinimum,
        framePeak := t.fs.framePeak, frameMinimum := none, sequence := t.fs.sequence, prefetch := t.fs.prefetch,
        arb := t.fs.arb } ∧
      FrameStartArbiter s t ∧
      ∀ a, t.fs.memory.read a = s.fs.memory.read a

/-- R11, R57, R58, R59, R138: in a running state the frame start advances the unheard count up to the silence limit; in
NORMAL, unless the table now enters ISOLATED, the silence count of every heard peer; the join count, or after the join
window the lock-timeout count; and begins a sequence under AUTO. -/
def Obligations.FrameStartCounts : Prop :=
  ∀ (dt e : Nat) (order : SameInstant) (s : State), s.rstnLow = false → s.cu.running = true →
    s.cu.periodEnd = some e → s.now + dt = toNs e →
    ∃ t, exec (.frameStart dt order) s = .next t ∧
      (s.running = false → t.pt = s.pt ∧ t.ls = s.ls ∧ t.sc = s.sc ∧ t.we = s.we ∧ t.svp = s.svp) ∧
      (s.running = true →
        let limit := s.profile.silenceLimit
        let unheard := min limit (s.pt.unheard + 1)
        t.pt = { s.pt with
          unheard := unheard,
          entries :=
            if s.pt.condition = .normal ∧ ¬(unheard = limit ∧ s.somePeerHeard = true) then
              s.pt.entries.map fun e =>
                if e.status.heard = true then { e with silence := min limit (e.silence + 1) } else e
            else s.pt.entries } ∧
        t.ls = { s.ls with
          conversion :=
            if s.ls.mode = .auto ∧ s.ls.conversion = none then
              some { channel := .lamp0, manual := false, completesAt := s.now + dt + 16000 }
            else s.ls.conversion } ∧
        t.sc = { s.sc with
          state := t.sc.state, leftJoining := t.sc.leftJoining,
          joinCount := if s.sc.state = .joining ∧ s.sc.joinCount < 4 then s.sc.joinCount + 1 else s.sc.joinCount,
          lockTimeoutCount :=
            if s.sc.state = .joining ∧ 4 ≤ s.sc.joinCount then min 1023 (s.sc.lockTimeoutCount + 1)
            else s.sc.lockTimeoutCount })

/-- R10, R94, R107, R110: in a running state the frame start promotes a pending table, and starts the follow-up pass
where the again flag is set; a JOINING station whose lock condition holds then leaves JOINING by L_ann, raising STATE. -/
def Obligations.FrameStartPromotes : Prop :=
  ∀ (dt e : Nat) (order : SameInstant) (s : State), s.rstnLow = false → s.cu.running = true →
    s.cu.periodEnd = some e → s.now + dt = toNs e → s.running = true →
    ∃ t, exec (.frameStart dt order) s = .next t ∧
      (s.we.engine ≠ .pending → t.we = s.we) ∧
      (s.we.engine = .pending → s.we.again = false →
        t.we = { s.we with
          shown := s.we.work, work := s.we.shown, promoted := true, engine := .idle, promotedAt := some (s.now + dt) }) ∧
      (s.we.engine = .pending → s.we.again = true →
        t.we = { s.we with
          shown := s.we.work, work := s.we.shown, promoted := true, promotedAt := some (s.now + dt), again := false,
          engine := .computing, copy := s.pt.view, position := 0, passMaximum := 1, passStart := some (s.now + dt) }) ∧
      (if s.sc.state = .joining ∧ s.lockMet = true ∧ (s.we.promoted = true ∨ s.we.engine = .pending) then
        t.sc.state = (if s.profile.tMin ≤ s.ls.lAnn then .showing else .dark) ∧
        t.sc.leftJoining = some (s.now + dt) ∧
        t.svp = { s.svp with causes := { s.svp.causes with state := true } }
      else t.sc.state = s.sc.state ∧ t.sc.leftJoining = s.sc.leftJoining ∧ t.svp = s.svp)

/-- R119, R120, R121, R130, R160, R162, R165: every frame start begins an output frame, PICTURE where the station is
SHOWING as the order has it and BLACK elsewhere, reading the slot then SHOWN. PXO_FS marks it, pixels not yet sent are
dropped, and PXO_DE follows from 16 µs on, line by line with 64 ns of blanking. The work of the frame before is emptied,
a fetch in progress to be discarded and the READER's turn to end with it, the first line's need list is handed over, and
a memory that is free, or just granted to the writer, is granted by the requests that then stand.
The FIFO's peak starts from what the enactment has left in the FIFO (the model's choice, assumption log, entry 35), and a
write into a slot that the enactment has freed is discarded at its end (entry 16). -/
def Obligations.FrameStartOutput : Prop :=
  ∀ (dt e : Nat) (order : SameInstant) (s : State), s.rstnLow = false → s.cu.running = true →
    s.cu.periodEnd = some e → s.now + dt = toNs e →
    ∃ t, exec (.frameStart dt order) s = .next t ∧
      let picture : Prop := (if order.outputAfter = true then t.sc.state else s.sc.state) = .showing
      (picture → t.wbp.mode = .picture ∧ t.wbp.frameSlot = shownSlot t.fs.slots) ∧
      (¬picture → t.wbp.mode = .black ∧ t.wbp.frameSlot = none) ∧
      t.wbp = { s.wbp with
        mode := t.wbp.mode, frameSlot := t.wbp.frameSlot, position := some (0, 0), underrun := false,
        frameAt := s.now + dt, nextLine := t.wbp.nextLine, inFlight := [] } ∧
      t.pxoFs = true ∧
      (∀ y x, y < s.profile.outHeight → x < s.profile.outWidth + 64 →
        ({ t with now := s.now + dt + 16000 + y * (s.profile.outWidth + 64) + x }).pxoDe =
          decide (x < s.profile.outWidth)) ∧
      t.fs.framePeak = t.fs.fifo.length ∧
      t.fs.prefetch = [] ∧
      (∀ n kept, s.fs.arb.owner = .reader → s.fs.arb.burst = some (.read n kept) →
        t.fs.arb = { s.fs.arb with burst := some (.read n false), turnEnds := true }) ∧
      FrameStartArbiter s t ∧
      (t.wbp.frameSlot = none → t.fs.sequence = []) ∧
      ∀ slot, t.wbp.frameSlot = some slot → 0 < s.profile.outHeight → lineNeeds s.profile s.mt slot 0 ≠ [] →
        t.fs.sequence = lineNeeds s.profile s.mt slot 0

/-- R66, R72, R86, R90, R91: at C before the period end the cutoff is taken. In a running state a target that is newer
than the SHOWN frame, or any target where none is SHOWN, becomes a SWAP to the READY slot that holds it, which is chosen,
or a HOLD with SWAPMISS where no slot holds it; every other case is a HOLD. In CONFIG nothing is decided. -/
def Obligations.CutoffDecides : Prop :=
  ∀ (dt e : Nat) (s : State), s.rstnLow = false → s.cu.running = true → s.cu.cutoffTaken = false →
    s.cu.periodEnd = some e → toNs e = s.now + dt + toNs s.profile.cutoffLead →
    let cut : State := { s with now := s.now + dt, cu := { s.cu with cutoffTaken := true } }
    let calls (f : FrameNo) : Prop := ∀ g, shownFrame s.fs.slots = some g → newer f g = true
    (s.running = false → exec (.cutoff dt) s = .next cut) ∧
    (s.running = true →
      (s.swapTarget = none → exec (.cutoff dt) s = .next { cut with swu := .hold }) ∧
      (∀ f, s.swapTarget = some f → ¬calls f → exec (.cutoff dt) s = .next { cut with swu := .hold }) ∧
      (∀ f, s.swapTarget = some f → calls f → (∀ i r c, slotAt s.fs.slots i ≠ .ready f r c) →
        exec (.cutoff dt) s = .next
          { cut with
            swu := .hold, counters := { s.counters with swapMiss := min 65535 (s.counters.swapMiss + 1) } }) ∧
      (∀ f, s.swapTarget = some f → calls f → (∃ i r c, slotAt s.fs.slots i = .ready f r c) →
        ∃ t i r c, exec (.cutoff dt) s = .next t ∧ slotAt s.fs.slots i = .ready f r c ∧
          slotAt t.fs.slots i = .ready f r true ∧ (∀ j, j ≠ i → slotAt t.fs.slots j = slotAt s.fs.slots j) ∧
          t = { cut with swu := .swap f i, fs := { s.fs with slots := t.fs.slots } }))

/-- R87, R88, R89: the swap target. None without an own READY frame; alone, the own newest READY; in a group, none where
a group peer has announced none, and otherwise, over numbers that lie within half the numbering of one another, the least
of them all in serial order. -/
def Obligations.SwapTarget : Prop :=
  ∀ s : State,
    (newestReady s.fs.slots = none → s.swapTarget = none) ∧
    (s.cu.lock ≠ .locked → s.cu.lock ≠ .reference → s.swapTarget = newestReady s.fs.slots) ∧
    (s.cu.lock = .locked ∨ s.cu.lock = .reference →
      (∀ n, n ∈ s.groupPeers ↔ n ≠ s.profile.station ∧ (s.pt.entry n).status = .live ∧
        ((s.pt.entry n).lock = some .locked ∨ (s.pt.entry n).lock = some .reference)) ∧
      ((∃ n ∈ s.groupPeers, (s.pt.entry n).latestReady = none) → s.swapTarget = none) ∧
      ∀ (base : FrameNo) (own : Nat) (peers : StationNo → Nat), own ≤ 32767 →
        newestReady s.fs.slots = some (base + BitVec.ofNat 16 own) →
        (∀ n ∈ s.groupPeers, peers n ≤ 32767 ∧
          (s.pt.entry n).latestReady = some (base + BitVec.ofNat 16 (peers n))) →
        ∃ least, s.swapTarget = some (base + BitVec.ofNat 16 least) ∧ least ≤ own ∧
          (∀ n ∈ s.groupPeers, least ≤ peers n) ∧ (least = own ∨ ∃ n ∈ s.groupPeers, least = peers n))

/-- R57, R63, R65, R67, R74, R83, R109, R111: a heard peer whose silence count has reached the limit becomes SILENT. A
LIVE one leaves the alive list: the view is replaced with the next serial, the engine is told, and PEER is raised for a
neighbour. An eligible one leaves the choice of reference, which is weighed; a lock that moves lets a JOINING station
leave JOINING. Where this frame start has promoted a table, a pass from the changed view starts at once, also where the
follow-up pass had begun, of which R109 alone would set the flag again (the model's inference, assumption log, entry
51). -/
def Obligations.SilentTaken : Prop :=
  ∀ (dt f : Nat) (peer : StationNo) (order : SameInstant) (s : State), s.rstnLow = false → s.running = true →
    s.cu.latestFrameStart = some f → s.now + dt = toNs f → s.pt.condition = .normal → peer ≠ s.profile.station →
    (s.pt.entry peer).status.heard = true → (s.pt.entry peer).silence = s.profile.silenceLimit →
    s.pt.entries.length = 16 → ViewFollows s →
    ∃ t, exec (.silent dt peer order) s = .next t ∧
      t.pt = { s.pt with
        entries := s.pt.entries.set peer.val { s.pt.entry peer with status := .silent }, view := t.pt.view } ∧
      t.pt.entry peer = { s.pt.entry peer with status := .silent } ∧
      t.alive = s.alive.filter (fun n => n != peer) ∧
      ((s.pt.entry peer).status ≠ .live → t.pt.view = s.pt.view ∧ t.we = s.we) ∧
      ((s.pt.entry peer).status = .live →
        t.pt.view = t.formedView (s.pt.view.serial + 1) ∧
        ViewTold s t) ∧
      t.svp = { s.svp with causes := { s.svp.causes with
        peer := s.svp.causes.peer || ((s.pt.entry peer).status == .live && s.mt.neighbours.contains peer),
        state := s.svp.causes.state || t.sc.state != s.sc.state } } ∧
      t.cu = (if (s.pt.entry peer).eligible = true then
          chooseReference s.profile.station (s.eligiblePeers.filter fun n => n != peer) s.profile.period s.cu
        else s.cu) ∧
      t.sc = { s.sc with
        state :=
          if s.sc.state = .joining ∧ t.cu.lock ≠ s.cu.lock ∧ t.lockMet = true ∧ s.we.promoted = true then
            (if s.profile.tMin ≤ s.ls.lAnn then .showing else .dark)
          else s.sc.state,
        leftJoining := if t.sc.state = s.sc.state then s.sc.leftJoining else some (s.now + dt) } ∧
      CarriedByOrder order { s with now := s.now + dt } t ∧
      t = { s with
        now := s.now + dt, pt := t.pt, we := t.we, svp := t.svp, cu := t.cu, sc := t.sc, slc := t.slc, wbp := t.wbp,
        fs := t.fs }

/-- R59, R60, R67, R81: with the unheard count at the limit and some peer heard, the table enters ISOLATED: FAULT is
raised, the Cadence Unit enters HOLD keeping its reference and last period, and the entries and the view are held. -/
def Obligations.IsolatedTaken : Prop :=
  ∀ (dt f : Nat) (order : SameInstant) (s : State), s.rstnLow = false → s.running = true →
    s.cu.latestFrameStart = some f → s.now + dt = toNs f → s.pt.condition = .normal →
    s.pt.unheard = s.profile.silenceLimit → s.somePeerHeard = true → TransitionsMade s →
    ∃ t, exec (.isolated dt order) s = .next t ∧
      t.pt = { s.pt with condition := .isolated } ∧
      t.cu = { s.cu with
        lock := .hold, lockCount := 0, previous := none, orphanCount := 0,
        baseLength := match s.cu.lastPeriod with
          | some n => n
          | none => s.profile.period } ∧
      t.svp = { s.svp with causes := { s.svp.causes with fault := true } } ∧
      CarriedByOrder order { s with now := s.now + dt } t ∧
      t = { s with now := s.now + dt, pt := t.pt, cu := t.cu, svp := t.svp, slc := t.slc }

/-- R75, R76, R82, R83: the cold-start test at the fourth own frame start and the orphan test at an orphan count of 4. A
SEEKING station without a reference and without an eligible peer becomes REFERENCE where its number is below every
JOINING peer's, or every heard peer's, and then makes its JOINING test; otherwise nothing changes. Its lock count stays as
it stood, which no rule names (the model's inference, assumption log, entry 26). -/
def Obligations.LeaderlessTests : Prop :=
  ∀ (dt f : Nat) (order : SameInstant) (s : State), s.rstnLow = false → s.running = true →
    s.cu.latestFrameStart = some f → s.now + dt = toNs f →
    let rivals (test : PeerEntry → Bool) : Prop := ∃ n, n ≠ s.profile.station ∧ test (s.pt.entry n) = true ∧
      n < s.profile.station
    let stays (test : PeerEntry → Bool) : Prop :=
      s.cu.lock ≠ .seeking ∨ s.cu.reference ≠ none ∨ s.eligiblePeers ≠ [] ∨ rivals test
    let leads (t : State) : Prop :=
      t.cu = { s.cu with
        lock := .reference, reference := some s.profile.station, baseLength := s.profile.period, previous := none,
        orphanCount := 0 } ∧
      t.sc = { s.sc with
        state :=
          if s.sc.state = .joining ∧ s.we.promoted = true then
            (if s.profile.tMin ≤ s.ls.lAnn then .showing else .dark)
          else s.sc.state,
        leftJoining := if t.sc.state = s.sc.state then s.sc.leftJoining else some (s.now + dt) } ∧
      t.svp = { s.svp with causes := { s.svp.causes with state := s.svp.causes.state || t.sc.state != s.sc.state } } ∧
      CarriedByOrder order { s with now := s.now + dt } t ∧
      t = { s with now := s.now + dt, cu := t.cu, sc := t.sc, svp := t.svp, slc := t.slc, wbp := t.wbp, fs := t.fs }
    (s.cu.windowCount = 4 →
      (stays (fun e => e.status == .joining) → exec (.coldStartTest dt order) s = .next { s with now := s.now + dt }) ∧
      (¬stays (fun e => e.status == .joining) → ∃ t, exec (.coldStartTest dt order) s = .next t ∧ leads t)) ∧
    (s.cu.orphanCount = 4 →
      (stays (fun e => e.status.heard) → exec (.orphanTest dt order) s = .next { s with now := s.now + dt }) ∧
      (¬stays (fun e => e.status.heard) → ∃ t, exec (.orphanTest dt order) s = .next t ∧ leads t))

/-- R11: at the lock timeout the lock condition is waived, and a station with a promoted table leaves JOINING at once by
L_ann; the lock state is left as it is. -/
def Obligations.LockTimeoutWaives : Prop :=
  ∀ (dt f : Nat) (order : SameInstant) (s : State), s.rstnLow = false → s.sc.state = .joining →
    s.cu.latestFrameStart = some f → s.now + dt = toNs f → s.profile.lockTimeout ≤ s.sc.lockTimeoutCount →
    ∃ t, exec (.lockTimeout dt order) s = .next t ∧
      t.sc = { s.sc with
        lockWaived := true,
        state :=
          if s.we.promoted = true then (if s.profile.tMin ≤ s.ls.lAnn then .showing else .dark) else .joining,
        leftJoining := if s.we.promoted = true then some (s.now + dt) else s.sc.leftJoining } ∧
      t.svp = { s.svp with causes := { s.svp.causes with state := s.svp.causes.state || s.we.promoted } } ∧
      CarriedByOrder order { s with now := s.now + dt } t ∧
      t = { s with now := s.now + dt, sc := t.sc, svp := t.svp, slc := t.slc, wbp := t.wbp, fs := t.fs }

/-! ### The seam link -/

/-- R32, R36, R37, R42: the quiet count is the full bit times of recessive line, at most 40, and 0 while the line is
dominant; it stands on after a bit fault of the own start mark, and is held at 0 within the cells of a message (the model's
choice, assumption log, entry 55). With its required quiet reached, a due station puts the offered message on the line, LEAVE before
READY before PULSE, its first edge `joined` ns ago; a PULSE takes its delay in whole µs, or is dropped with EXPIRED at
its deadline. A station that is not running, is sending, has a STUCK link or no message, or has not reached the required
quiet of its offered message, starts nothing. The delay of a joined mark is counted from the mark's first edge, and is 0
where that lies before the frame start (the model's inference, assumption log, entry 20). A message put on the line ends the
sampling of an own aborted one (the model's choice, entry 56). -/
def Obligations.StartMarkBegins : Prop :=
  ∀ (dt joined : Nat) (s : State), s.rstnLow = false → joined ≤ 100 → joined ≤ s.now + dt →
    let n : State := { s with now := s.now + dt }
    let q := s.slc.queue
    let able : Prop := s.running = true ∧ s.slc.condition = .normal ∧ s.slc.onLine = none
    let quietFor (retried : Bool) : Nat := if retried = true then 7 else if s.slc.lastWon = true then 13 else 9
    let inCells : Prop := s.slc.onLine ≠ none ∨
      ∃ t0 own, s.slc.receiver = .receiving t0 own ∧ (own = false ∨ t0 + 4125 < s.now + dt)
    let started (rest : TransmitQueue) (body : Body) (retries : Nat) : State := { n with slc := { s.slc with
      queue := rest,
      receiver := match s.slc.receiver with
        | .receiving _ _ => .waiting
        | r => r,
      onLine := some { body := body, retries := retries, t0 := s.now + dt - joined, sending := false } } }
    (s.slc.dominant = true ∨ inCells → n.quietCount = 0) ∧
    (s.slc.dominant = false → ¬inCells → n.quietCount = min 40 ((s.now + dt - s.slc.since) / 1000)) ∧
    (able →
      (∀ m, q.leave = some m → 5 ≤ n.quietCount →
        exec (.startMarkBegin dt joined) s = .next (started { q with leave := none } (.leave m.msg) m.retries)) ∧
      (∀ m, q.leave = none → q.ready = some m → quietFor m.retried ≤ n.quietCount →
        exec (.startMarkBegin dt joined) s = .next (started { q with ready := none } (.ready m.msg) m.retries)) ∧
      (∀ m, q.leave = none → q.ready = none → q.pulse = some m → quietFor m.retried ≤ n.quietCount →
        exec (.startMarkBegin dt joined) s = .next
          (if (m.msg.frameStart + 4096) * 1000 ≤ s.now + dt then
            { n with
              slc := { s.slc with queue := { q with pulse := none } },
              counters := { s.counters with expired := min 65535 (s.counters.expired + 1) } }
          else
            started { q with pulse := none }
              (.pulse m.msg (BitVec.ofNat 12 ((s.now + dt - joined - m.msg.frameStart * 1000) / 1000))) m.retries))) ∧
    (¬able ∨ q = TransmitQueue.empty ∨
      (∃ m, q.leave = some m ∧ n.quietCount < 5) ∨
      (∃ m, q.leave = none ∧ q.ready = some m ∧ n.quietCount < quietFor m.retried) ∨
      (∃ m, q.leave = none ∧ q.ready = none ∧ q.pulse = some m ∧ n.quietCount < quietFor m.retried) →
      exec (.startMarkBegin dt joined) s = .next n)

/-- R31, R38, R42: a station that sent 1 in its arbitration field where the line is dominant counts LOSTARB, lets go of
the line and receives on; its message returns to its empty slot with its retry count unchanged, and a PULSE past its
deadline is dropped with EXPIRED; a newer request in the slot stands. R38 keeps the retry count; that the mark of a retry
is cleared is the model's inference (assumption log, entry 18). -/
def Obligations.ArbitrationLost : Prop :=
  ∀ (dt cell : Nat) (m : OnLine) (s : State), s.rstnLow = false → s.slc.onLine = some m → m.sending = false →
    5 ≤ cell → cell ≤ 10 → s.now + dt = m.t0 + (cell - 1) * 1000 + 500 →
    sentBit s.profile.station m.body cell = true →
    ∃ t, exec (.arbitrationLost dt) s = .next t ∧
      t.slc = { s.slc with queue := t.slc.queue, onLine := none, receiver := .receiving m.t0 false } ∧
      t.counters = { s.counters with
        lostArb := min 65535 (s.counters.lostArb + 1), expired := t.counters.expired } ∧
      (∀ r, m.body = .leave r → t.counters.expired = s.counters.expired ∧ t.slc.queue = { s.slc.queue with
        leave := match s.slc.queue.leave with
          | some x => some x
          | none => some { msg := r, retries := m.retries, retried := false } }) ∧
      (∀ f, m.body = .ready f → t.counters.expired = s.counters.expired ∧ t.slc.queue = { s.slc.queue with
        ready := match s.slc.queue.ready with
          | some x => some x
          | none => some { msg := f, retries := m.retries, retried := false } }) ∧
      (∀ r d, m.body = .pulse r d →
        (∀ x, s.slc.queue.pulse = some x →
          t.slc.queue = s.slc.queue ∧ t.counters.expired = s.counters.expired) ∧
        (s.slc.queue.pulse = none →
          if (r.frameStart + 4096) * 1000 ≤ s.now + dt then
            t.slc.queue = s.slc.queue ∧ t.counters.expired = min 65535 (s.counters.expired + 1)
          else
            t.counters.expired = s.counters.expired ∧ t.slc.queue = { s.slc.queue with
              pulse := some { msg := r, retries := m.retries, retried := false } })) ∧
      t = { s with now := s.now + dt, slc := t.slc, counters := t.counters }

/-- R31, R33, R39, R40, R42: a bit fault is exactly a sample of the manual's list. At one the station counts BITFAULT,
lets go of the line and receives on its own aborted message; up to the retry limit the message returns to its empty slot
as a retry, and beyond it TXDROP is counted and a STOP's LEAVE takes a STOPPING station to CONFIG. The line monitor goes
on from the level found and its run, which are operands (the model's inference, assumption log, entry 22). That TXDROP is
counted past the limit where a newer request fills the slot too, is the model's choice (entry 40), and so is what the
entry to CONFIG keeps of an input frame in progress (entry 58). -/
def Obligations.BitFaultTaken : Prop :=
  (∀ (own : StationNo) (m : OnLine) (cell offset : Nat) (level : Bool), 1 ≤ cell → offset < 1000 →
    (isBitFault own m (m.t0 + (cell - 1) * 1000 + offset) level = true ↔
      cell ≤ m.body.length ∧
        ((offset = 125 ∧ level = false ∧ cell ≠ 4) ∨
         (offset = 875 ∧ level = true ∧ 4 ≤ cell) ∨
         (offset = 500 ∧ cell ≤ 3 ∧ level = false) ∨
         (offset = 500 ∧ cell = 4 ∧ level = true) ∨
         (offset = 500 ∧ 5 ≤ cell ∧ cell ≤ 10 ∧ sentBit own m.body cell = false ∧ level = false) ∨
         (offset = 500 ∧ 11 ≤ cell ∧ level = sentBit own m.body cell)))) ∧
  ∀ (dt : Nat) (line : LineLevel) (m : OnLine) (s : State), s.rstnLow = false → s.slc.onLine = some m →
    isBitFault s.profile.station m (s.now + dt) line.dominant = true →
    let faulted : State := { s with
      now := s.now + dt, counters := { s.counters with bitFault := min 65535 (s.counters.bitFault + 1) },
      slc := { s.slc with
        onLine := none, receiver := .receiving m.t0 true, dominant := line.dominant,
        since := s.now + dt - line.run } }
    let dropped : State := { faulted with
      counters := { faulted.counters with txDrop := min 65535 (s.counters.txDrop + 1) } }
    (m.retries + 1 ≤ s.profile.retryLimit →
      (∀ r, m.body = .leave r → s.slc.queue.leave = none →
        exec (.bitFault dt line) s = .next { faulted with slc := { faulted.slc with queue := { s.slc.queue with
          leave := some { msg := r, retries := m.retries + 1, retried := true } } } }) ∧
      (∀ f, m.body = .ready f → s.slc.queue.ready = none →
        exec (.bitFault dt line) s = .next { faulted with slc := { faulted.slc with queue := { s.slc.queue with
          ready := some { msg := f, retries := m.retries + 1, retried := true } } } }) ∧
      (∀ r d, m.body = .pulse r d → s.slc.queue.pulse = none → s.now + dt < (r.frameStart + 4096) * 1000 →
        exec (.bitFault dt line) s = .next { faulted with slc := { faulted.slc with queue := { s.slc.queue with
          pulse := some { msg := r, retries := m.retries + 1, retried := true } } } }) ∧
      (∀ r d, m.body = .pulse r d → s.slc.queue.pulse = none → (r.frameStart + 4096) * 1000 ≤ s.now + dt →
        exec (.bitFault dt line) s = .next { faulted with
          counters := { faulted.counters with expired := min 65535 (s.counters.expired + 1) } }) ∧
      ((∃ r x, m.body = .leave r ∧ s.slc.queue.leave = some x) ∨ (∃ f x, m.body = .ready f ∧ s.slc.queue.ready = some x) ∨
        (∃ r d x, m.body = .pulse r d ∧ s.slc.queue.pulse = some x) →
        exec (.bitFault dt line) s = .next faulted)) ∧
    (s.profile.retryLimit < m.retries + 1 →
      (m.body.isStopLeave = false ∨ s.sc.state ≠ .stopping → exec (.bitFault dt line) s = .next dropped) ∧
      (m.body.isStopLeave = true → s.sc.state = .stopping →
        ∃ t, exec (.bitFault dt line) s = .next t ∧ EntersConfig dropped t ∧
          t.counters = (runPass dropped).counters))

/-- R15, R32, R33, R38, R41: the end of cell 10 takes the message to SENDING; the end of its last CRC cell sets the
last-won flag, releases it, and counts the line's quiet from its last pulse; a STOP's LEAVE takes a STOPPING station to
CONFIG with the counters kept, and with what the entry keeps of an input frame in progress (the model's choice, assumption
log, entry 58). -/
def Obligations.MessageSent : Prop :=
  ∀ (dt : Nat) (m : OnLine) (s : State), s.rstnLow = false → s.slc.onLine = some m →
    (m.sending = false → s.now + dt = m.t0 + 10 * 1000 →
      exec (.arbitrationFieldEnd dt) s = .next { s with
        now := s.now + dt, slc := { s.slc with onLine := some { m with sending := true } } }) ∧
    (m.sending = true → s.now + dt = m.t0 + m.body.length * 1000 →
      let crc := crc8 (coveredBits m.body.kind s.profile.station m.body.payload)
      let done : State := { s with
        now := s.now + dt,
        slc := { s.slc with
          lastWon := true, onLine := none, receiver := .waiting, dominant := false,
          since := m.t0 + (m.body.length - 1) * 1000 + if crc.getLsbD 0 = true then 250 else 750 } }
      (m.body.isStopLeave = false ∨ s.sc.state ≠ .stopping → exec (.messageComplete dt) s = .next done) ∧
      (m.body.isStopLeave = true → s.sc.state = .stopping →
        ∃ t, exec (.messageComplete dt) s = .next t ∧ EntersConfig done t ∧
          t.counters = (runPass done).counters))

/-- R42, R43: 4096 µs after its frame start a queued PULSE is dropped with EXPIRED counted; 8 bit times of dominant line
make the link STUCK and raise FAULT; a quiet count of 40 makes it NORMAL again and raises nothing. -/
def Obligations.LinkTimers : Prop :=
  ∀ (dt : Nat) (s : State), s.rstnLow = false →
    let n : State := { s with now := s.now + dt }
    (∀ m, s.slc.queue.pulse = some m → (m.msg.frameStart + 4096) * 1000 ≤ s.now + dt →
      exec (.pulseExpired dt) s = .next { n with
        slc := { s.slc with queue := { s.slc.queue with pulse := none } },
        counters := { s.counters with expired := min 65535 (s.counters.expired + 1) } }) ∧
    (s.slc.busy = false → 8000 ≤ s.now + dt →
      (s.slc.dominant = true ∧ s.slc.since = s.now + dt - 8000 ∨
        s.slc.dominant = false ∧ s.slc.since ≤ s.now + dt - 8000) →
      exec (.stuck dt) s = .next { n with
        slc := { s.slc with condition := .stuck, dominant := true, since := s.now + dt - 8000 },
        svp := if s.slc.condition = .normal then { s.svp with causes := { s.svp.causes with fault := true } }
          else s.svp }) ∧
    (s.slc.condition = .stuck → n.quietCount = 40 →
      exec (.linkNormal dt) s = .next { n with slc := { s.slc with condition := .normal } })

/-- R32, R33, R36, R44: the value samples of cells 2 to 4 decide a start mark. A receiver that takes marks clears the
last-won flag and opens the message, or counts CHECKFAIL for a malformed mark; a receiver that takes none only follows
the line. That a mark is taken and judged at 1500, 2500 or 3500 ns, its last-won flag and CHECKFAIL with it, and not at
the one bit time at which it is recognised, is the model's choice (assumption log, entry 19), and so are the receiver that
a mark without a recessive sample leaves waiting for a recessive line (entry 21), and that a mark recognised at the very
instant of START is taken (entry 50). -/
def Obligations.StartMarkRecognised : Prop :=
  ∀ (dt after run : Nat) (c2 c3 c4 : Bool) (s : State), s.rstnLow = false → s.slc.busy = false →
    after = (if c2 = false then 1500 else if c3 = false then 2500 else 3500) → after ≤ s.now + dt → run ≤ after →
    (s.slc.dominant = true ∧ s.slc.since = s.now + dt - after ∨
      s.slc.dominant = false ∧ s.slc.since ≤ s.now + dt - after) →
    let level := c2 && c3 && c4
    (level = true ∨ run + 1000 ≤ after) →
    let takes : Prop := s.running = true ∧ s.slc.condition = .normal ∧ s.slc.receiver = .waiting ∧
      s.slc.listenFrom + after ≤ s.now + dt + 1000
    let line : Link := { s.slc with dominant := level, since := s.now + dt - run }
    let n : State := { s with now := s.now + dt }
    (takes → c2 = true → c3 = true → c4 = false →
      exec (.startMarkRecognised dt c2 c3 c4 run) s = .next { n with
        slc := { line with lastWon := false, receiver := .receiving (s.now + dt - after) false } }) ∧
    (takes → ¬(c2 = true ∧ c3 = true ∧ c4 = false) →
      exec (.startMarkRecognised dt c2 c3 c4 run) s = .next { n with
        slc := { line with
          lastWon := false, receiver := if level = true ∧ after ≤ run then .spent else .waiting },
        counters := { s.counters with checkFail := min 65535 (s.counters.checkFail + 1) } }) ∧
    (¬takes →
      exec (.startMarkRecognised dt c2 c3 c4 run) s = .next { n with
        slc := { line with
          receiver := if level = false ∧ s.slc.receiver = .spent then .waiting else s.slc.receiver } })

/-- R32, R33, R39, R44, R46: a message that ends short is discarded with CHECKFAIL, which the station's own aborted
message does not count, and the receiver waits. Where a dominant run of 3500 ns or more ended it, that run is a start mark
whose samples have passed: malformed, counted and clearing the last-won flag, and the receiver waits for a recessive line;
that the aborted message's own mark, the run since its t0, counts nothing and clears nothing is the model's choice (entry
59). A dominant run that opens no start mark, being shorter than a bit time or met by a receiver that takes none, ends the
quiet count and the wait for a recessive line unless it is a glitch, which is ignored; no filter applies while the station
still samples its own aborted start mark, nor, which is the model's choice (entry 53), to a run that the monitor already
follows. RESET lets the line monitor run on: as it stands, and in the midst of a message from what SEAM shows then, an
operand (the model's inference, assumption log, entry 22). That an own message aborted within its start mark is judged
from its fifth cell on only is the model's choice (entry 41), and so is that a start mark recognised at the very instant
of START is taken (entry 50). -/
def Obligations.MessageEndedShort : Prop :=
  ∀ (dt run width t0 : Nat) (cause : ShortCause) (own : Bool) (s : State), s.rstnLow = false →
    let n : State := { s with now := s.now + dt }
    (s.running = true → s.slc.receiver = .receiving t0 own → run ≤ s.now + dt →
      (match cause with
        | .leadRecessive => ∃ cell, 4 ≤ cell ∧ s.now + dt = t0 + cell * 1000 + 125
        | .tailDominant => ∃ cell, 4 ≤ cell ∧ s.now + dt = t0 + cell * 1000 + 875
        | .kindThree => s.now + dt = t0 + 6000) →
      let spent : Prop := cause = .tailDominant ∧ 3500 ≤ run
      let foreign : Prop := spent ∧ t0 + run < s.now + dt
      let once := if own = true then s.counters.checkFail else min 65535 (s.counters.checkFail + 1)
      exec (.messageEndedShort dt cause run) s = .next { n with
        slc := { s.slc with
          receiver := if spent then .spent else .waiting, dominant := decide (cause = .tailDominant),
          since := s.now + dt - run, lastWon := if foreign then false else s.slc.lastWon },
        counters := { s.counters with checkFail := if foreign then min 65535 (once + 1) else once } }) ∧
    let opens : Prop := 1000 ≤ width ∧ s.running = true ∧ s.slc.condition = .normal ∧ s.slc.receiver = .waiting ∧
      s.slc.listenFrom + width ≤ s.now + dt + 1000
    (opens → exec (.strayPulse dt width) s = .next n) ∧
    (∀ line : LineLevel, s.takesAction dt → ∃ t, exec (.reset ⟨dt, line⟩) s = .next t ∧
      t.slc.dominant = (if s.slc.busy = true then line.dominant else s.slc.dominant) ∧
      t.slc.since = if s.slc.busy = true then s.now + dt - line.run else s.slc.since) ∧
    (s.slc.inCells n.now = false → ¬opens →
      (s.slc.dominant = true ∧ s.slc.since + width = s.now + dt ∨
        s.slc.dominant = false ∧ s.slc.since + width ≤ s.now + dt) →
      exec (.strayPulse dt width) s = .next
        (if s.slc.dominant = true ∨ s.slc.busy = true ∨ s.profile.glitchWidth * 50 ≤ width then
          { n with slc := { s.slc with
            dominant := false, since := s.now + dt,
            receiver := if s.slc.receiver = .spent then .waiting else s.slc.receiver } }
        else n))

/-! ### Messages -/

/-- R45: a message is discarded with CHECKFAIL where its CRC differs or, a PULSE, its state field holds 3; a valid one
that bears the own number counts DUPLICATE and raises FAULT. Nothing is delivered. -/
def Obligations.BadMessages : Prop :=
  ∀ (dt t0 : Nat) (sender : StationNo) (p64 : BitVec 64) (p16 : BitVec 16) (p8 : BitVec 8) (crc : Byte) (s : State),
    let own := s.profile.station
    let failed (length : Nat) : State := { s with
      now := s.now + dt, slc := s.slc.received length t0 crc,
      counters := { s.counters with checkFail := min 65535 (s.counters.checkFail + 1) } }
    let duplicated (length : Nat) : State := { s with
      now := s.now + dt, slc := s.slc.received length t0 crc,
      counters := { s.counters with duplicate := min 65535 (s.counters.duplicate + 1) },
      svp := { s.svp with causes := { s.svp.causes with fault := true } } }
    (s.hearsAt dt 82 t0 →
      (crc8 (coveredBits 2 sender (bitsOf p64)) ≠ crc ∨ (readPulse p64).state = 3 →
        exec (.pulse dt sender p64 crc) s = .next (failed 82)) ∧
      (crc8 (coveredBits 2 sender (bitsOf p64)) = crc → (readPulse p64).state ≠ 3 → sender = own →
        exec (.pulse dt sender p64 crc) s = .next (duplicated 82))) ∧
    (s.hearsAt dt 34 t0 →
      (crc8 (coveredBits 1 sender (bitsOf p16)) ≠ crc → exec (.ready dt sender p16 crc) s = .next (failed 34)) ∧
      (crc8 (coveredBits 1 sender (bitsOf p16)) = crc → sender = own →
        exec (.ready dt sender p16 crc) s = .next (duplicated 34))) ∧
    (s.hearsAt dt 26 t0 →
      (crc8 (coveredBits 0 sender (bitsOf p8)) ≠ crc → exec (.leave dt sender p8 crc) s = .next (failed 26)) ∧
      (crc8 (coveredBits 0 sender (bitsOf p8)) = crc → sender = own →
        exec (.leave dt sender p8 crc) s = .next (duplicated 26)))

/-- R27, R49, R52, R54, R63, R65, R74, R83, R96, R109: a valid PULSE with the own dome tag, its fields brought into
range, is stored in its sender's entry, whose status and silence count it sets; the view is recomputed and a change of it
told to the engine (at the instant of a promotion by the model's inference, assumption log, entry 51), and PEER follows LIVE. A change of eligibility weighs the choice of reference in every lock state,
and the PULSE is then taken as a reference PULSE where its sender is the reference. DIVERGE follows a LIVE sender in step
whose shown frame is another; it meets the own lock and cutoff as the Cadence Unit has left them, an order that R52 and
R96 leave open (the model's choice, entry 30). -/
def Obligations.PulseStored : Prop :=
  ∀ (dt t0 : Nat) (sender : StationNo) (p : BitVec 64) (crc : Byte) (a : AnnouncedState) (s : State),
    s.hearsAt dt 82 t0 → crc8 (coveredBits 2 sender (bitsOf p)) = crc → sender ≠ s.profile.station →
    s.pt.condition = .normal → s.pt.entries.length = 16 →
    let f := readPulse p
    AnnouncedState.ofCode f.state = some a → f.tag = s.sc.domeTag →
    let level := min 32768 (p.extractLsb' 12 16).toNat
    let status : PeerStatus := match a with
      | .joining => .joining
      | .showing => if s.profile.tMin ≤ level then .live else .dark
      | .dark => .dark
    let entry : PeerEntry := { s.pt.entry sender with
      status := status, level := some level, depth := some ((p.extractLsb' 10 2).toNat + 1), state := some a,
      lock := some f.lock, shown := if a = .showing then some (p.extractLsb' 40 16) else none, silence := 0 }
    let ts : Int := (t0 / 1000 : Nat) - ((p.extractLsb' 28 12).toNat : Int)
    ∃ t, exec (.pulse dt sender p crc) s = .next t ∧
      t.pt = { s.pt with entries := s.pt.entries.set sender.val entry, unheard := 0, view := t.pt.view } ∧
      t.pt.view = (if t.formedView s.pt.view.serial = s.pt.view then s.pt.view
        else t.formedView (s.pt.view.serial + 1)) ∧
      ViewTold s t ∧
      t.slc = s.slc.received 82 t0 crc ∧
      t.svp = { s.svp with causes := { s.svp.causes with
        peer := s.svp.causes.peer ||
          (((s.pt.entry sender).status == .live) != (status == .live) && s.mt.neighbours.contains sender),
        state := s.svp.causes.state || t.sc.state != s.sc.state } } ∧
      (let weighed : Cadence :=
        if t.eligiblePeers = s.eligiblePeers then s.cu
        else chooseReference s.profile.station t.eligiblePeers s.profile.period s.cu
      let reference : Prop := weighed.reference = some sender ∧
        (weighed.lock = .seeking ∨ weighed.lock = .locked ∨ weighed.lock = .free)
      (¬reference → t.cu = weighed) ∧
      (reference →
        let r := takeReferencePulse ts (p.extractLsb' 56 8) { s with now := s.now + dt, pt := t.pt, cu := weighed }
        t.cu = r.cu ∧ t.swu = r.swu ∧ t.counters.swapMiss = r.counters.swapMiss ∧ t.fs.slots = r.fs.slots)) ∧
      (t.cu.cutoffTaken = s.cu.cutoffTaken →
        t.swu = s.swu ∧ t.counters.swapMiss = s.counters.swapMiss ∧ t.fs.slots = s.fs.slots ∧
        (t.sc.state = s.sc.state → t.fs = s.fs ∧ t.wbp = s.wbp)) ∧
      (s.cu.lock = .reference → (∀ n ∈ t.eligiblePeers, s.profile.station < n) → t.cu = s.cu) ∧
      (let coming : Prop := t.cu.cutoffTaken = true ∧
        (s.profile.period : Int) < 2 * (ts - (t.cu.latestFrameStart.getD 0 : Nat))
      let frame : Option FrameNo := match t.swu with
        | .swap target _ => if coming then some target else shownFrame s.fs.slots
        | _ => shownFrame s.fs.slots
      t.counters = { s.counters with
        swapMiss := t.counters.swapMiss,
        diverge :=
          if status = .live ∧ (f.lock = .locked ∨ f.lock = .reference) ∧ (t.cu.lock = .locked ∨ t.cu.lock = .reference) ∧
              frame ≠ none ∧ frame ≠ some (p.extractLsb' 40 16) then
            min 65535 (s.counters.diverge + 1)
          else s.counters.diverge }) ∧
      t.sc = { s.sc with
        state :=
          if s.sc.state = .joining ∧ t.cu.lock ≠ s.cu.lock ∧ t.lockMet = true ∧ s.we.promoted = true then
            (if s.profile.tMin ≤ s.ls.lAnn then .showing else .dark)
          else s.sc.state,
        leftJoining := if t.sc.state = s.sc.state then s.sc.leftJoining else some (s.now + dt) } ∧
      t.fs = { s.fs with
        slots := t.fs.slots, sequence := t.fs.sequence, prefetch := t.fs.prefetch, arb := t.fs.arb } ∧
      t = { s with
        now := s.now + dt, pt := t.pt, we := t.we, slc := t.slc, svp := t.svp, cu := t.cu, swu := t.swu, sc := t.sc,
        fs := t.fs, wbp := t.wbp, counters := t.counters }

/-- R63, R65, R71, R74, R77, R78, R79, R80, R82: a PULSE whose sender is the reference once the change of eligibility it
brings has been weighed, in SEEKING, LOCKED or FREE. The phase error is folded into half a period; a PULSE that corrects
does so by a quarter of it, limited to the slew: before the cutoff the period in progress, whose cutoff may fall at once,
and after it the coming one; the lock count follows. A Δ beyond free enter makes the station FREE without a correction; a
FREE station leaves for SEEKING on a Δ within free exit and then corrects, and otherwise only stores the timing. A lock
that has moved weighs the choice again: a station that locks to a higher number than its own becomes REFERENCE itself. It
then keeps no previous timing, the choice being weighed after the timing is stored (the model's choice, assumption log,
entry 43), and its base length is P also where the PULSE has just corrected the coming period (the model's choice, entry
54). -/
def Obligations.ReferencePulse : Prop :=
  ∀ (dt t0 : Nat) (sender : StationNo) (p : BitVec 64) (crc : Byte) (a : AnnouncedState) (s : State),
    s.hearsAt dt 82 t0 → crc8 (coveredBits 2 sender (bitsOf p)) = crc → sender ≠ s.profile.station →
    s.pt.condition = .normal → s.pt.entries.length = 16 → 0 < s.profile.period →
    let f := readPulse p
    AnnouncedState.ofCode f.state = some a → f.tag = s.sc.domeTag →
    let own := s.profile.station
    let stored : State := { s with pt := { s.pt with entries := s.pt.entries.set sender.val { s.pt.entry sender with
      status := statusOf s.profile.tMin a f.level, lock := some f.lock } } }
    let peers := stored.eligiblePeers
    let w : Cadence :=
      if peers = s.eligiblePeers then s.cu else chooseReference own peers s.profile.period s.cu
    w.reference = some sender → w.lock = .seeking ∨ w.lock = .locked ∨ w.lock = .free →
    let tRef : Int := (t0 / 1000 : Nat) - ((p.extractLsb' 28 12).toNat : Int)
    let period : Int := s.profile.period
    let anchor : Nat := if s.cu.cutoffTaken = true then s.cu.periodEnd.getD 0 else s.cu.latestFrameStart.getD 0
    let delta : Option Int := match w.previous with
      | some q => if p.extractLsb' 56 8 = q.beat + 1 then some (tRef - q.tRef) else none
      | none => none
    let freed : Prop := w.lock ≠ .free ∧ ∃ d ∈ delta, s.profile.freeEnter < (d - period).natAbs
    let stays : Prop := w.lock = .free ∧ ¬∃ d ∈ delta, (d - period).natAbs < s.profile.freeExit
    let timing : Option Timing := some { tRef := tRef, beat := p.extractLsb' 56 8 }
    ∃ (t : State) (e : Int) (moved : Cadence), exec (.pulse dt sender p crc) s = .next t ∧
      -period < 2 * e ∧ 2 * e ≤ period ∧ (∃ k : Int, e = (anchor : Int) - tRef + k * period) ∧
      (freed → moved = { w with
        lock := .free, lockCount := 0, baseLength := s.profile.period, orphanCount := 0, previous := timing }) ∧
      (stays → moved = { w with previous := timing }) ∧
      (¬freed → ¬stays →
        let lock : LockState := if w.lock = .free then .seeking else w.lock
        let before : Nat := if w.lock = .free then 0 else w.lockCount
        let length : Nat := (period - max (-(s.profile.slew : Int)) (min s.profile.slew (e.tdiv 4))).toNat
        let count := if e.natAbs ≤ s.profile.lockTolerance then min 4 (before + 1) else 0
        let locks : Prop := lock = .seeking ∧ e.natAbs ≤ s.profile.lockTolerance ∧ count = 4
        let loses : Prop := lock = .locked ∧ s.profile.lockTolerance < e.natAbs ∧
          s.profile.unlockThreshold < e.natAbs
        let finish := s.cu.latestFrameStart.getD 0 + length
        let atOnce : Prop := s.cu.cutoffTaken = false ∧
          toNs (finish - s.profile.cutoffLead) ≤ s.now + dt
        moved = { w with
          lock := if locks then .locked else if loses then .seeking else lock,
          lockCount := count,
          orphanCount := if locks then 0 else w.orphanCount,
          cutoffTaken := if atOnce then true else s.cu.cutoffTaken,
          periodEnd :=
            if s.cu.cutoffTaken = true then s.cu.periodEnd
            else if atOnce then some ((s.now + dt) / 1000 + s.profile.cutoffLead)
            else some finish,
          baseLength := if s.cu.cutoffTaken = true then length else w.baseLength,
          previous := timing }) ∧
      t.cu = (if moved.lock = w.lock then moved else chooseReference own peers s.profile.period moved) ∧
      (moved.lock = .locked → w.lock = .seeking → lowest peers = some sender → own < sender →
        t.cu.lock = .reference ∧ t.cu.reference = some own ∧ t.cu.baseLength = s.profile.period ∧
        t.cu.previous = none) ∧
      (moved.lock = .seeking → lowest peers = some sender → t.cu = moved)

/-- R27, R53, R63, R65, R67, R74, R83, R109: a valid PULSE with another tag sets its sender's entry to MISMATCH with silence
count 0 and keeps its other fields; FAULT is raised where it was not MISMATCH before, and PEER where a neighbour left LIVE.
A change of the view is told to the engine (at the instant of a promotion by the model's inference, assumption log, entry
51); a sender that was eligible leaves the choice of reference, which is weighed, and a lock that moves lets a JOINING station leave JOINING. -/
def Obligations.PulseMismatched : Prop :=
  ∀ (dt t0 : Nat) (sender : StationNo) (p : BitVec 64) (crc : Byte) (s : State),
    s.hearsAt dt 82 t0 → crc8 (coveredBits 2 sender (bitsOf p)) = crc → sender ≠ s.profile.station →
    s.pt.condition = .normal → s.pt.entries.length = 16 →
    (readPulse p).state ≠ 3 → (readPulse p).tag ≠ s.sc.domeTag →
    let before := s.pt.entry sender
    ∃ t, exec (.pulse dt sender p crc) s = .next t ∧
      t.pt = { s.pt with
        entries := s.pt.entries.set sender.val { before with status := .mismatch, silence := 0 }, unheard := 0,
        view := t.pt.view } ∧
      t.pt.view = (if t.formedView s.pt.view.serial = s.pt.view then s.pt.view
        else t.formedView (s.pt.view.serial + 1)) ∧
      t.slc = s.slc.received 82 t0 crc ∧
      t.svp = { s.svp with causes := { s.svp.causes with
        fault := s.svp.causes.fault || before.status != .mismatch,
        peer := s.svp.causes.peer || (before.status == .live && s.mt.neighbours.contains sender),
        state := s.svp.causes.state || t.sc.state != s.sc.state } } ∧
      t.cu = (if before.eligible = true then
          chooseReference s.profile.station (s.eligiblePeers.filter fun n => n != sender) s.profile.period s.cu
        else s.cu) ∧
      ViewTold s t ∧
      t.sc = { s.sc with
        state :=
          if s.sc.state = .joining ∧ t.cu.lock ≠ s.cu.lock ∧ t.lockMet = true ∧ s.we.promoted = true then
            (if s.profile.tMin ≤ s.ls.lAnn then .showing else .dark)
          else s.sc.state,
        leftJoining := if t.sc.state = s.sc.state then s.sc.leftJoining else some (s.now + dt) } ∧
      (before.eligible = false → t.sc = s.sc) ∧
      TurnsBlack s t ∧
      t = { s with
        now := s.now + dt, pt := t.pt, slc := t.slc, svp := t.svp, cu := t.cu, we := t.we, sc := t.sc, fs := t.fs,
        wbp := t.wbp }

/-- R52, R55: a valid READY stores its frame number in its sender's entry, newer or older, unless the entry is in
MISMATCH; no status, silence count, view or cadence changes. -/
def Obligations.ReadyStored : Prop :=
  ∀ (dt t0 : Nat) (sender : StationNo) (p : BitVec 16) (crc : Byte) (s : State),
    s.hearsAt dt 34 t0 → crc8 (coveredBits 1 sender (bitsOf p)) = crc → sender ≠ s.profile.station →
    s.pt.condition = .normal → ViewFollows s →
    exec (.ready dt sender p crc) s = .next { s with
      now := s.now + dt, slc := s.slc.received 34 t0 crc,
      pt := { s.pt with
        unheard := 0,
        entries :=
          if (s.pt.entry sender).status = .mismatch then s.pt.entries
          else s.pt.entries.set sender.val { s.pt.entry sender with latestReady := some p } } }

/-- R27, R48, R52, R56, R63, R109: a valid LEAVE stores its reason, unless the entry is in MISMATCH, and takes a JOINING,
LIVE or DARK entry to DARK with its silence count left; one that was LIVE leaves the view at once, with the next serial
and the engine told (at the instant of a promotion by the model's inference, assumption log, entry 51); the cadence is left
as it is. -/
def Obligations.LeaveStored : Prop :=
  ∀ (dt t0 : Nat) (sender : StationNo) (p : BitVec 8) (crc : Byte) (s : State),
    s.hearsAt dt 26 t0 → crc8 (coveredBits 0 sender (bitsOf p)) = crc → sender ≠ s.profile.station →
    s.pt.condition = .normal → s.pt.entries.length = 16 → ViewFollows s →
    let before := s.pt.entry sender
    ∃ t, exec (.leave dt sender p crc) s = .next t ∧
      t.pt = { s.pt with
        unheard := 0, view := t.pt.view,
        entries :=
          if before.status = .mismatch then s.pt.entries
          else s.pt.entries.set sender.val { before with
            reason := some (p.extractLsb' 4 4),
            status := if before.status = .joining ∨ before.status = .live ∨ before.status = .dark then .dark
              else before.status } } ∧
      (before.status ≠ .live → t.pt.view = s.pt.view ∧ t.we = s.we ∧ t.svp = s.svp) ∧
      (before.status = .live →
        t.pt.view = t.formedView (s.pt.view.serial + 1) ∧
        t.alive = s.alive.filter (fun n => n != sender) ∧
        ViewTold s t ∧
        t.svp = { s.svp with causes := { s.svp.causes with
          peer := s.svp.causes.peer || s.mt.neighbours.contains sender } }) ∧
      t = { s with now := s.now + dt, slc := s.slc.received 26 t0 crc, pt := t.pt, we := t.we, svp := t.svp }

/-- R52, R53, R55, R56, R61, R74, R81: the first valid message of a peer, of any kind, ends ISOLATED before it is acted
on. The table is NORMAL with the unheard count 0, the Cadence Unit leaves HOLD for SEEKING with lock count 0 and base
length P and chooses its reference among the eligible peers, and no attention cause is raised; the message is then acted
on as in that state, so that a PULSE of the reference so chosen is taken as a reference PULSE at once. -/
def Obligations.IsolationEnds : Prop :=
  ∀ (dt t0 : Nat) (sender : StationNo) (crc : Byte) (s : State),
    sender ≠ s.profile.station → s.pt.condition = .isolated → s.cu.lock = .hold → ViewFollows s → TransitionsMade s →
    let ended : State := { s with
      pt := { s.pt with condition := .normal, unheard := 0 },
      cu := { s.cu with
        lock := .seeking, lockCount := 0, baseLength := s.profile.period, reference := lowest s.eligiblePeers,
        previous := if s.cu.reference = lowest s.eligiblePeers then s.cu.previous else none,
        orphanCount :=
          if s.cu.reference = lowest s.eligiblePeers ∨ s.eligiblePeers = [] then s.cu.orphanCount else 0 } }
    (∀ p : BitVec 64, s.hearsAt dt 82 t0 → crc8 (coveredBits 2 sender (bitsOf p)) = crc → (readPulse p).state ≠ 3 →
      exec (.pulse dt sender p crc) s = exec (.pulse dt sender p crc) ended ∧
      ∃ t, exec (.pulse dt sender p crc) s = .next t ∧ t.pt.condition = .normal ∧ t.pt.unheard = 0 ∧ t.cu.lock ≠ .hold) ∧
    (∀ p : BitVec 16, s.hearsAt dt 34 t0 → crc8 (coveredBits 1 sender (bitsOf p)) = crc →
      exec (.ready dt sender p crc) s = .next { ended with
        now := s.now + dt, slc := s.slc.received 34 t0 crc,
        pt := { ended.pt with
          entries :=
            if (s.pt.entry sender).status = .mismatch then s.pt.entries
            else s.pt.entries.set sender.val { s.pt.entry sender with latestReady := some p } } }) ∧
    (∀ p : BitVec 8, s.hearsAt dt 26 t0 → crc8 (coveredBits 0 sender (bitsOf p)) = crc →
      exec (.leave dt sender p crc) s = exec (.leave dt sender p crc) ended ∧
      ∃ t, exec (.leave dt sender p crc) s = .next t ∧ t.cu = ended.cu ∧
        t.pt = { ended.pt with entries := t.pt.entries, view := t.pt.view } ∧
        t.svp.causes = { s.svp.causes with peer := t.svp.causes.peer })

/-! ### Weights and lamp -/

/-- R63, R105, R106, R108, R109: at the end of its last vertex a pass replaces the WORK table with the vertices' entries,
is PENDING, counts the saturated vertices not yet counted, publishes its greatest coverage count as K_local, and the view
is recomputed, a change setting the again flag. The SHOWN table is left as it was. -/
def Obligations.PassCompletes : Prop :=
  ∀ (dt p : Nat) (s : State), s.rstnLow = false → s.running = true → s.we.engine = .computing →
    s.we.passStart = some p → s.now + dt = p + s.sc.vertexCount * 40 →
    let size := s.sc.vertexCount
    let result (i : Nat) : VertexResult := computeVertex s.profile s.we.copy (s.mt.vertex i)
    let saturated := (((List.range size).drop s.we.position).filter fun i => (result i).saturated).length
    ∃ t, exec (.passComplete dt) s = .next t ∧
      t.we.work.length = size ∧ (∀ i < size, t.we.work[i]? = some (result i).weight) ∧
      1 ≤ t.we.kLocal ∧ (∀ i < size, (result i).k ≤ t.we.kLocal) ∧
      (t.we.kLocal = 1 ∨ ∃ i < size, (result i).k = t.we.kLocal) ∧
      t.we = { s.we with
        work := t.we.work, engine := .pending, passStart := none, position := size, passMaximum := t.we.kLocal,
        kLocal := t.we.kLocal, saturated := s.we.saturated || saturated != 0,
        again := s.we.again || t.pt.view != s.pt.view } ∧
      t.pt = { s.pt with
        view := if t.formedView s.pt.view.serial = s.pt.view then s.pt.view
          else t.formedView (s.pt.view.serial + 1) } ∧
      t.counters = { s.counters with saturated := min 65535 (s.counters.saturated + saturated) } ∧
      t = { s with now := s.now + dt, we := t.we, pt := t.pt, counters := t.counters }

/-- R100 to R105: one vertex. In the zero case its entry is 0, 0 and its coverage count takes no part; elsewhere the
count is one more than the alive coverers, and gain and floor are the whole numbers nearest to S × r × 32768 / D and F ×
r × 32768 / D, halves going up, limited to 32768, a limited one marking the vertex saturated. -/
def Obligations.WeightNearest : Prop :=
  ∀ (p : Profile) (w : View) (x : Vertex),
    (x.inside = false ∨ w.lSelf < p.tMin →
      computeVertex p w x = { weight := { gain := 0, floor := 0 }, k := 1, saturated := false }) ∧
    (x.inside = true → p.tMin ≤ w.lSelf → 0 < w.lSelf → 0 < x.rSelf →
      let alive := x.coverers.filter fun c => w.alive.contains c.peer
      let k := 1 + alive.length
      let divisor := w.lSelf * (x.rSelf + (alive.map Coverer.ramp).sum)
      ∃ a b : Nat,
        NearestTo ((w.ceiling - (w.kDome - 1) * p.blackStep) * x.rSelf * 32768) divisor a ∧
        NearestTo ((if k < w.kDome then (w.kDome - k) * p.blackStep else 0) * x.rSelf * 32768) divisor b ∧
        computeVertex p w x =
          { weight := { gain := min 32768 a, floor := min 32768 b }, k := k,
            saturated := decide (32768 < a ∨ 32768 < b) })

/-- R138, R139, R145, R147: a conversion of a sequence is accumulated unless its code is full scale, and LAMP1 follows
LAMP0 in DUAL mode; a sequence before the fourth is counted. A manual conversion writes its result and the fresh flag,
and the mode moves by AUTO pending, by CONTINUOUS with or without stop pending, or by SINGLE. Nothing else changes. -/
def Obligations.ConversionsTaken : Prop :=
  ∀ (dt : Nat) (channel : Channel) (code : BitVec 12) (s : State), s.rstnLow = false →
    let due (manual : Bool) : Prop :=
      s.ls.conversion = some { channel := channel, manual := manual, completesAt := s.now + dt }
    let taken (a : Accumulator) : Accumulator :=
      if code = 4095 then a else { sum := a.sum + code.toNat, number := a.number + 1 }
    let next (k : Channel) (manual : Bool) : Option Conversion :=
      some { channel := k, manual := manual, completesAt := s.now + dt + 16000 }
    let sampled (l : Lamp) : State := { s with now := s.now + dt, ls := l }
    (s.running = true → due false →
      (channel = .lamp0 → s.profile.lampMode = .dual →
        exec (.conversionComplete dt code) s =
          .next (sampled { s.ls with acc0 := taken s.ls.acc0, conversion := next .lamp1 false })) ∧
      (channel = .lamp0 → s.profile.lampMode = .single → s.ls.sequences < 3 →
        exec (.conversionComplete dt code) s =
          .next (sampled { s.ls with
            acc0 := taken s.ls.acc0, conversion := none, sequences := s.ls.sequences + 1 })) ∧
      (channel = .lamp1 → s.ls.sequences < 3 →
        exec (.conversionComplete dt code) s =
          .next (sampled { s.ls with
            acc1 := taken s.ls.acc1, conversion := none, sequences := s.ls.sequences + 1 }))) ∧
    (due true →
      let written : Lamp := { s.ls with
        conversion := none, result := some { channel := channel, code := code }, fresh := true }
      (s.ls.autoPending = true →
        exec (.manualConversionComplete dt code) s =
          .next (sampled { written with mode := .auto, autoPending := false, stopPending := false })) ∧
      (s.ls.autoPending = false →
        (s.ls.mode = .manualSingle →
          exec (.manualConversionComplete dt code) s = .next (sampled { written with mode := .off })) ∧
        (s.ls.mode = .manualContinuous → s.ls.stopPending = false →
          exec (.manualConversionComplete dt code) s =
            .next (sampled { written with conversion := next channel true, repeatedAt := some (s.now + dt) })) ∧
        (s.ls.mode = .manualContinuous → s.ls.stopPending = true →
          exec (.manualConversionComplete dt code) s =
            .next (sampled { written with mode := .off, stopPending := false }))))

/-- R10, R12, R13, R63, R109, R120, R139 to R142: the fourth sequence forms the average. A channel with unfaulted codes takes its
value and clears its mark, one without keeps its value and sets it, raising FAULT where it was clear; L_meas follows, and
L_ann where it has moved by L_step or across a threshold. A changed L_ann recomputes the view, of which the engine is told
(at the instant of a promotion by the model's inference, assumption log, entry 51), and moves the station: SHOWING to DARK with a LAMP LEAVE, its PICTURE frame turning BLACK, DARK to SHOWING; where JOINING was left at this same instant, it decides that exit by
T_min and requests no LEAVE, which for the LEAVE is the model's inference (entry 29). -/
def Obligations.FourSequenceAverage : Prop :=
  ∀ (dt : Nat) (channel : Channel) (code : BitVec 12) (s : State), s.rstnLow = false → s.running = true →
    s.ls.conversion = some { channel := channel, manual := false, completesAt := s.now + dt } →
    (channel = .lamp1 ∨ s.profile.lampMode = .single) → s.ls.sequences = 3 →
    let p := s.profile
    let taken (k : Channel) (a : Accumulator) : Accumulator :=
      if channel ≠ k ∨ code = 4095 then a else { sum := a.sum + code.toNat, number := a.number + 1 }
    let value (dark rated : Nat) (a : Accumulator) : Nat :=
      if a.sum / a.number ≤ dark then 0
      else min 32768 ((32768 * (a.sum / a.number - dark) + (rated - dark) / 2) / (rated - dark))
    let a0 := taken .lamp0 s.ls.acc0
    let a1 := taken .lamp1 s.ls.acc1
    let l0 := if a0.number = 0 then s.ls.l0 else value p.dark0 p.rated0 a0
    let l1 := if p.lampMode = .single ∨ a1.number = 0 then s.ls.l1 else value p.dark1 p.rated1 a1
    let measured := if p.lampMode = .single then l0 else (l0 + l1) / 2
    let ann := s.ls.lAnn
    let moves : Prop := (p.lStep ≤ measured - ann ∨ p.lStep ≤ ann - measured) ∨
      (measured < p.tMin ∧ p.tMin ≤ ann ∨ ann < p.tMin ∧ p.tMin ≤ measured) ∨
      (measured < p.tReturn ∧ p.tReturn ≤ ann ∨ ann < p.tReturn ∧ p.tReturn ≤ measured)
    let just : Prop := s.sc.leftJoining = some (s.now + dt) ∧ (s.sc.state = .showing ∨ s.sc.state = .dark)
    0 < p.lStep →
    ∃ t, exec (.conversionComplete dt code) s = .next t ∧
      (t.ls.fault0 = true ↔ a0.number = 0) ∧
      (t.ls.fault1 = true ↔ if p.lampMode = .single then s.ls.fault1 = true else a1.number = 0) ∧
      (moves → t.ls.lAnn = measured) ∧ (¬moves → t.ls.lAnn = ann) ∧
      t.ls = { s.ls with
        conversion := none, acc0 := { sum := 0, number := 0 }, acc1 := { sum := 0, number := 0 }, sequences := 0,
        l0 := l0, l1 := l1, fault0 := t.ls.fault0, fault1 := t.ls.fault1, lMeas := measured, lAnn := t.ls.lAnn } ∧
      t.pt = { s.pt with
        view := if t.ls.lAnn = ann ∨ t.formedView s.pt.view.serial = s.pt.view then s.pt.view
          else t.formedView (s.pt.view.serial + 1) } ∧
      ViewTold s t ∧
      TurnsBlack s t ∧
      t.sc = { s.sc with
        state :=
          if t.ls.lAnn = ann then s.sc.state
          else if just then (if p.tMin ≤ t.ls.lAnn then .showing else .dark)
          else
            match s.sc.state with
            | .showing => if t.ls.lAnn < p.tMin then .dark else .showing
            | .dark => if p.tReturn ≤ t.ls.lAnn then .showing else .dark
            | .joining =>
              if s.lockMet = true ∧ s.we.promoted = true then
                (if p.tMin ≤ t.ls.lAnn then .showing else .dark)
              else .joining
            | .config => .config
            | .stopping => .stopping,
        leftJoining := if s.sc.state = .joining ∧ t.sc.state ≠ .joining then some (s.now + dt) else s.sc.leftJoining } ∧
      t.slc = { s.slc with queue := { s.slc.queue with
        leave := if ¬just ∧ s.sc.state = .showing ∧ t.sc.state = .dark then
            some { msg := { reason := 1, forStop := false }, retries := 0, retried := false }
          else s.slc.queue.leave } } ∧
      t.svp = { s.svp with causes := { s.svp.causes with
        fault := s.svp.causes.fault || (t.ls.fault0 && !s.ls.fault0) || (t.ls.fault1 && !s.ls.fault1),
        state := s.svp.causes.state || t.sc.state != s.sc.state } } ∧
      t = { s with
        now := s.now + dt, ls := t.ls, pt := t.pt, we := t.we, sc := t.sc, slc := t.slc, svp := t.svp, wbp := t.wbp,
        fs := t.fs }

/-! ### Pixels -/

/-- R152, R153, R157, R158: an input frame start ends a frame in progress short, and takes the FREE slot of lowest index,
or else the unchosen READY slot of lowest rank, whose frame is dropped with its pending pixels; the port stands in
PICTURE and the loss timer starts again. -/
def Obligations.InputFrameStart : Prop :=
  ∀ (dt : Nat) (s : State), s.rstnLow = false → s.running = true → s.fs.port ≠ .off → StoreInOrder s →
    let after (j : SlotNo) : Slot :=
      if slotAt s.fs.slots j = .filling then .free else slotAt s.fs.slots j
    let ended : Prop := ∃ j, slotAt s.fs.slots j = .filling
    ∃ t i, exec (.inputFrameStart dt) s = .next t ∧
      slotAt t.fs.slots i = .filling ∧
      (∀ j, j ≠ i →
        match after j with
        | .ready f _ c => ∃ q, slotAt t.fs.slots j = .ready f q c
        | x => slotAt t.fs.slots j = x) ∧
      ((∃ j, after j = .free) →
        after i = .free ∧ (∀ j, j < i → after j ≠ .free) ∧ t.counters.dropped = s.counters.dropped ∧
        t.fs.fifo = s.fs.fifo.filter fun p => slotAt s.fs.slots p.slot != .filling) ∧
      ((∀ j, after j ≠ .free) →
        (∃ f r, after i = .ready f r false ∧ ∀ j g q, after j = .ready g q false → r ≤ q) ∧
        t.counters.dropped = min 65535 (s.counters.dropped + 1) ∧
        t.fs.fifo = s.fs.fifo.filter fun p => p.slot != i) ∧
      (ended → s.fs.damaged = false →
        t.counters = { s.counters with
          dropped := t.counters.dropped, short := min 65535 (s.counters.short + 1) }) ∧
      (ended → s.fs.damaged = true →
        t.counters = { s.counters with
          dropped := t.counters.dropped, overrun := min 65535 (s.counters.overrun + 1) }) ∧
      (¬ended → t.counters = { s.counters with dropped := t.counters.dropped }) ∧
      t.storeIs { s.fs with
        slots := t.fs.slots, fifo := t.fs.fifo, port := .picture, lineCount := 0, linePixels := 0, damaged := false,
        trailer := [], lossStart := some ((s.now + dt) / 1000), lost := false } ∧
      t = { s with
        now := s.now + dt, fs := t.fs, counters := t.counters, wbp := { s.wbp with nextLine := t.wbp.nextLine } }

/-- R152, R154, R155: a picture pixel is placed in the FIFO with its slot, line and column, overruns a FIFO of 2 × Wi
pixels, or is only counted in a damaged frame; pixels beyond Wi and outside a frame are ignored, and the first two of the
trailer line are kept. -/
def Obligations.InputPixels : Prop :=
  ∀ (dt : Nat) (px : Pixel) (i : SlotNo) (s : State), s.rstnLow = false → s.running = true →
    let wi := s.profile.inWidth
    let f := s.fs
    let counted : FrameStore := { f with lineLast := px, linePixels := f.linePixels + 1 }
    let takes (g : FrameStore) : Prop := ∃ t, exec (.inputPixel dt px) s = .next t ∧ t.storeIs g ∧
      t = { s with now := s.now + dt, fs := t.fs, wbp := { s.wbp with nextLine := t.wbp.nextLine } }
    (f.port = .picture → f.linePixels < wi → fillingSlot f.slots = some i →
      (f.damaged = true → takes counted) ∧
      (f.damaged = false → 2 * wi ≤ f.fifo.length →
        takes { counted with damaged := true, fifo := f.fifo.filter fun p => p.slot != i }) ∧
      (f.damaged = false → f.fifo.length < 2 * wi →
        takes { counted with
          fifo := f.fifo ++ [{ slot := i, line := f.lineCount, column := f.linePixels, pixel := px }],
          framePeak := max f.framePeak (f.fifo.length + 1) })) ∧
    (f.port = .trailer → f.trailer.length < 2 →
      exec (.inputPixel dt px) s = .next { s with now := s.now + dt, fs := { f with trailer := f.trailer ++ [px] } }) ∧
    ((f.port = .picture ∧ wi ≤ f.linePixels) ∨ (f.port = .trailer ∧ 2 ≤ f.trailer.length) ∨ f.port = .waiting ∨
        f.port = .done ∨ f.port = .off →
      exec (.inputPixel dt px) s = .next { s with now := s.now + dt })

/-- R152, R154, R155: the end of a picture line fills it out to Wi with its last pixel, overrunning the FIFO where they
do not fit, and counts it; after the Hi-th the trailer line is expected. -/
def Obligations.LineEnds : Prop :=
  ∀ (dt : Nat) (i : SlotNo) (s : State), s.rstnLow = false → s.running = true → s.fs.port = .picture →
    0 < s.fs.linePixels → s.fs.linePixels ≤ s.profile.inWidth → fillingSlot s.fs.slots = some i →
    let wi := s.profile.inWidth
    let f := s.fs
    let missing := wi - f.linePixels
    ∃ t, exec (.lineEnd dt) s = .next t ∧
      (f.damaged = true → t.fs.damaged = true ∧ t.fs.fifo = f.fifo ∧ t.fs.framePeak = f.framePeak) ∧
      (f.damaged = false → f.fifo.length + missing ≤ 2 * wi →
        t.fs.damaged = false ∧
        t.fs.fifo = f.fifo ++ (List.range missing).map (fun j =>
          { slot := i, line := f.lineCount, column := f.linePixels + j, pixel := f.lineLast }) ∧
        t.fs.framePeak = if missing = 0 then f.framePeak else max f.framePeak (f.fifo.length + missing)) ∧
      (f.damaged = false → 2 * wi < f.fifo.length + missing → 0 < missing →
        t.fs.damaged = true ∧ t.fs.fifo = f.fifo.filter fun p => p.slot != i) ∧
      t.storeIs { f with
        lineCount := f.lineCount + 1, linePixels := 0,
        port := if s.profile.inHeight ≤ f.lineCount + 1 then .trailer else .picture, damaged := t.fs.damaged,
        fifo := t.fs.fifo, framePeak := t.fs.framePeak } ∧
      t = { s with now := s.now + dt, fs := t.fs, wbp := { s.wbp with nextLine := t.wbp.nextLine } }

/-- R35, R48, R156, R181: at the end of the trailer line a damaged frame counts OVERRUN, one without a valid trailer
UNTAGGED, and one not newer than every READY and SHOWN frame STALE, each freeing its slot with its pending pixels; any
other becomes READY with the next rank and requests a READY message. The two trailer pixels carry a frame number as R181
writes it, and any other pair is not valid. At the instant of an enactment the slots are read as they stand in the order
taken, which is the model's choice (assumption log, entry 57). -/
def Obligations.TrailerEnds : Prop :=
  (∀ (n : FrameNo) (rest : List Pixel),
    trailerFrame (pixelOf (n.toNat / 64) (n.toNat % 64 * 16) 707 ::
      pixelOf (1023 - n.toNat / 64) (1023 - n.toNat % 64 * 16) 707 :: rest) = some n) ∧
  (∀ (l : List Pixel) (n : FrameNo), trailerFrame l = some n → ∃ rest,
    l = pixelOf (n.toNat / 64) (n.toNat % 64 * 16) 707 ::
      pixelOf (1023 - n.toNat / 64) (1023 - n.toNat % 64 * 16) 707 :: rest) ∧
  ∀ (dt : Nat) (i : SlotNo) (s : State), s.rstnLow = false → s.running = true → s.fs.port = .trailer →
    fillingSlot s.fs.slots = some i →
    let fresh (n : FrameNo) : Prop := ∀ j f, (slotAt s.fs.slots j).frame? = some f → newer n f = true
    let freed (t : State) : Prop := slotAt t.fs.slots i = .free ∧
      (∀ j, j ≠ i →
        match slotAt s.fs.slots j with
        | .ready f _ c => ∃ q, slotAt t.fs.slots j = .ready f q c
        | x => slotAt t.fs.slots j = x) ∧
      t.storeIs { s.fs with
        slots := t.fs.slots, port := .done, fifo := s.fs.fifo.filter fun p => p.slot != i } ∧
      t = { s with
        now := s.now + dt, fs := t.fs, counters := t.counters, wbp := { s.wbp with nextLine := t.wbp.nextLine } }
    s.fs.slots.length = 4 →
    ∃ t, exec (.trailerLineEnd dt) s = .next t ∧
      (s.fs.damaged = true → freed t ∧
        t.counters = { s.counters with overrun := min 65535 (s.counters.overrun + 1) }) ∧
      (s.fs.damaged = false → trailerFrame s.fs.trailer = none → freed t ∧
        t.counters = { s.counters with untagged := min 65535 (s.counters.untagged + 1) }) ∧
      (∀ n, s.fs.damaged = false → trailerFrame s.fs.trailer = some n → ¬fresh n → freed t ∧
        t.counters = { s.counters with stale := min 65535 (s.counters.stale + 1) }) ∧
      (∀ n, s.fs.damaged = false → trailerFrame s.fs.trailer = some n → fresh n →
        slotAt t.fs.slots i = .ready n (readyCount s.fs.slots + 1) false ∧
        (∀ j, j ≠ i → slotAt t.fs.slots j = slotAt s.fs.slots j) ∧
        t.storeIs { s.fs with slots := t.fs.slots, port := .done } ∧
        t = { s with
          now := s.now + dt, fs := t.fs, wbp := { s.wbp with nextLine := t.wbp.nextLine },
          slc := { s.slc with queue := { s.slc.queue with
            ready := some { msg := n, retries := 0, retried := false } } } })

/-- R158: 2 × P after the loss timer's start, with the lost flag clear, input is declared lost: INPUT is raised, a frame
in progress is ended with SHORT or OVERRUN, the port waits, and the READY and SHOWN slots are kept; while the flag is set
nothing of it happens again. -/
def Obligations.InputLost : Prop :=
  (∀ (dt : Nat) (s : State), s.fs.lost = true → exec (.inputLost dt) s = .next { s with now := s.now + dt }) ∧
  ∀ (dt start : Nat) (s : State), s.rstnLow = false → s.running = true → s.fs.lost = false →
    s.fs.lossStart = some start → s.now + dt = (start + 2 * s.profile.period) * 1000 → StoreInOrder s →
    ∃ t, exec (.inputLost dt) s = .next t ∧
      (∀ j,
        match slotAt s.fs.slots j with
        | .ready f _ c => ∃ q, slotAt t.fs.slots j = .ready f q c
        | .filling => slotAt t.fs.slots j = .free
        | x => slotAt t.fs.slots j = x) ∧
      t.fs.fifo = (s.fs.fifo.filter fun p => slotAt s.fs.slots p.slot != .filling) ∧
      t.counters = { s.counters with
        short := if (∃ j, slotAt s.fs.slots j = .filling) ∧ s.fs.damaged = false then
            min 65535 (s.counters.short + 1)
          else s.counters.short,
        overrun := if (∃ j, slotAt s.fs.slots j = .filling) ∧ s.fs.damaged = true then
            min 65535 (s.counters.overrun + 1)
          else s.counters.overrun } ∧
      t.storeIs { s.fs with slots := t.fs.slots, fifo := t.fs.fifo, lost := true, port := .waiting } ∧
      t.svp = { s.svp with causes := { s.svp.causes with input := true } } ∧
      t = { s with
        now := s.now + dt, fs := t.fs, counters := t.counters, svp := t.svp,
        wbp := { s.wbp with nextLine := t.wbp.nextLine } }

/-- R154, R160, R162, R163: with the owner NONE a request is granted the memory, the reader's first. 4 ns after it began,
the writer's burst puts its pixels, a short line's end filled with copies of the last, at the burst's own address (the
model's choice of layout, assumption log, entry 11) with a parity bit for each byte, takes them from the FIFO at this
instant and not at the grant (the model's choice, entry 48), and changes no other byte; one whose pixels have been
discarded since its grant writes nothing (the model's choice, entry 16). The budget falls by one at the burst's end (the
model's choice, entry 52), and the memory is passed on by the requests as they then stand (entry 39). -/
def Obligations.WriteBurst : Prop :=
  (∀ s : State, s.fs.arb.owner = .none →
    let granted (o : Owner) (budget : Nat) : Arbiter :=
      { owner := o, budget := budget, burst := nextBurst o s, memoryFree := max s.now s.fs.arb.memoryFree + 4,
        turnEnds := false, grantedAt := some s.now }
    let next : Arbiter :=
      if readerRequests s = true then granted .reader 32
      else if writerRequests s = true then granted .writer 16
      else s.fs.arb
    arbitrate s = { s with fs := { s.fs with arb := next } }) ∧
  ∀ (dt : Nat) (slot : SlotNo) (line column : Nat) (kept : Bool) (s : State), s.rstnLow = false →
    s.fs.arb.owner = .writer → s.fs.arb.burst = some (.write slot line column kept) →
    s.fs.arb.memoryFree = s.now + dt → MemoryCanonical s →
    let held := (s.fs.fifo.filter (inBurst slot line column)).map FifoPixel.pixel
    (kept = true → held ≠ [] ∧ held.length ≤ 16) →
    let base := burstAddress s.profile.inWidth slot line column
    let pixels := held ++ List.replicate (16 - held.length) (held.getLastD 0)
    let bytes := pixels.flatMap pixelBytes
    ∃ t, exec (.writeBurst dt) s = .next t ∧ PassedOn s t ∧
      (kept = true → pixelsOf bytes = pixels ∧
        (∀ a, a < base ∨ base + 64 ≤ a →
          t.fs.memory.read a = s.fs.memory.read a ∧ t.fs.parity.read a = s.fs.parity.read a) ∧
        (∀ k < 64, t.fs.memory.read (base + k) = bytes.getD k 0 ∧
          t.fs.parity.read (base + k) = parityBit (bytes.getD k 0)) ∧
        t.storeIs { s.fs with
          memory := t.fs.memory, parity := t.fs.parity, fifo := s.fs.fifo.filter fun q => !inBurst slot line column q }) ∧
      (kept = false → t.storeIs s.fs) ∧
      t = { s with now := s.now + dt, fs := t.fs, wbp := { s.wbp with nextLine := t.wbp.nextLine } }

/-- R160, R162, R163, R164: 4 ns after it began, the reader's burst puts the next entry's pixels in the prefetch and
takes the entry from the sequence. It is failed exactly where some byte, as the memory returns it, disagrees with its
parity bit; a failed burst counts PARITY, and fills an empty trap and raises FAULT, or sets MORE. A fetch discarded since
its grant leaves no trace: that it is not checked is the model's choice (assumption log, entry 34). The memory is not
changed; the budget falls by one at the burst's end (entry 52), and the memory is passed on by the requests as they then
stand (entry 39). The burst's address is the model's own (entry
11), and so are the upset bits as an operand (entry 25). -/
def Obligations.ReadBurst : Prop :=
  ∀ (dt : Nat) (upsets : List Upset) (n : Need) (rest : List Need) (kept : Bool) (s : State), s.rstnLow = false →
    s.fs.arb.owner = .reader → s.fs.arb.burst = some (.read n kept) → s.fs.arb.memoryFree = s.now + dt →
    (kept = true → s.fs.sequence = n :: rest) →
    let base := burstAddress s.profile.inWidth n.slot n.line n.column
    let turned (k : Fin 64) : BitVec 9 :=
      ((upsets.filter fun u => u.offset == k).map Upset.flips).foldl (fun x y => x ^^^ y) 0
    let byte (k : Fin 64) : Byte := s.fs.memory.read (base + k.val) ^^^ (turned k).truncate 8
    let parity (k : Fin 64) : Byte :=
      s.fs.parity.read (base + k.val) ^^^ (if (turned k).getLsbD 8 = true then 1 else 0)
    ∃ t, exec (.readBurst dt upsets) s = .next t ∧ PassedOn s t ∧
      (kept = true → ∃ q : Fetched,
        q.need = n ∧ q.pixels = pixelsOf ((List.finRange 64).map byte) ∧
        (q.failed = true ↔ ∃ k : Fin 64, parityBit (byte k) ≠ parity k) ∧
        t.fs.prefetch = s.fs.prefetch ++ [q] ∧ (rest ≠ [] → t.fs.sequence = rest) ∧
        (q.failed = false → t.counters = s.counters ∧ t.fs.trap = s.fs.trap ∧ t.svp = s.svp) ∧
        (q.failed = true → t.counters = { s.counters with parity := min 65535 (s.counters.parity + 1) } ∧
          (s.fs.trap = none →
            t.fs.trap = some { slot := n.slot, line := n.line, column := n.column, more := false } ∧
            t.svp = { s.svp with causes := { s.svp.causes with fault := true } }) ∧
          (∀ u, s.fs.trap = some u → t.fs.trap = some { u with more := true } ∧ t.svp = s.svp))) ∧
      (kept = false → t.fs.prefetch = s.fs.prefetch ∧ (s.fs.sequence ≠ [] → t.fs.sequence = s.fs.sequence) ∧
        t.counters = s.counters ∧ t.fs.trap = s.fs.trap ∧ t.svp = s.svp) ∧
      t.storeIs { s.fs with prefetch := t.fs.prefetch, trap := t.fs.trap } ∧
      t = { s with
        now := s.now + dt, fs := t.fs, counters := t.counters, svp := t.svp,
        wbp := { s.wbp with nextLine := t.wbp.nextLine } }

/-- R119, R120, R123, R125, R127 to R132, R165: at its due instant a pixel is formed, to appear on PXO_D 1 µs later, and
the position moves on. BLACK forms code 0; PICTURE without a slot the encoding of the floor; with one, the floor where a
burst is missing, counting the frame's first underrun, or where a burst failed, and else the blend of the sampled pixels,
counting CLIPPED. Entries whose last pixel it was are retired from the prefetch and withdrawn from the sequence; one
whose own fetch is in progress has it discarded (the model's choice, assumption log, entry 33). A station that is not
SHOWING when the pixel is sent sends code 0 (entry 38). The prefetch minimum counts the bursts before the pixel retires
any (entry 49). -/
def Obligations.PixelDue : Prop :=
  ∀ (dt y x : Nat) (s : State), s.rstnLow = false → s.wbp.mode ≠ .none → s.wbp.position = some (y, x) →
    s.now + dt = s.wbp.frameAt + 15000 + y * (s.profile.outWidth + 64) + x →
    let c := s.profile.curve
    let gain := atPixel s.profile (gainAt s.we.shown) x y
    let floor := atPixel s.profile (floorAt s.we.shown) x y
    let dark := encodeLight c (min 32768 floor)
    let light (l : List (Nat × Pixel)) (channel : Pixel → Nat) : Nat :=
      (gain * linearize c (sampleCode channel l) + 16384) / 32768 + floor
    let sampled := sampleSources s.fs y (sourcesOf s.profile s.mt x y)
    let appears := s.now + dt + 1000
    let past (n : Need) : Prop := n.outLine < y ∨ n.outLine = y ∧ n.lastX ≤ x
    ∃ t pixel, exec (.pixelDue dt) s = .next t ∧
      t.wbp.position = (if x + 1 < s.profile.outWidth then some (y, x + 1)
        else if y + 1 < s.profile.outHeight then some (y + 1, 0) else none) ∧
      t.wbp.inFlight = (s.wbp.inFlight.filter fun q => decide (s.now + dt ≤ q.1)) ++ [(appears, pixel)] ∧
      ((∀ q ∈ s.wbp.inFlight, q.1 < appears) → ∀ state : ShowState,
        ({ t with now := appears, sc := { t.sc with state := state } }).pxoD = if state = .showing then pixel else 0) ∧
      (s.wbp.mode = .black → pixel = 0) ∧
      (s.wbp.mode = .picture → s.wbp.frameSlot = none → pixel = pixelOf dark dark dark) ∧
      (s.wbp.mode = .black ∨ s.wbp.frameSlot = none →
        t.counters = s.counters ∧ t.wbp.underrun = s.wbp.underrun ∧ t.fs.frameMinimum = s.fs.frameMinimum) ∧
      (s.wbp.mode = .picture → s.wbp.frameSlot ≠ none →
        (t.fs.frameMinimum = match s.fs.frameMinimum with
          | some n => some (min n s.fs.prefetch.length)
          | none => some s.fs.prefetch.length) ∧
        (sampled = .underrun →
          pixel = pixelOf dark dark dark ∧ t.wbp.underrun = true ∧
          t.counters = { s.counters with
            underrun := if s.wbp.underrun = true then s.counters.underrun
              else min 65535 (s.counters.underrun + 1) }) ∧
        (sampled = .parity →
          pixel = pixelOf dark dark dark ∧ t.wbp.underrun = s.wbp.underrun ∧ t.counters = s.counters) ∧
        (∀ l, sampled = .pixels l →
          pixel = pixelOf (encodeLight c (min 32768 (light l red)))
            (encodeLight c (min 32768 (light l green))) (encodeLight c (min 32768 (light l blue))) ∧
          t.wbp.underrun = s.wbp.underrun ∧
          t.counters = { s.counters with
            clipped := if 32768 < light l red ∨ 32768 < light l green ∨ 32768 < light l blue then
                min 65535 (s.counters.clipped + 1)
              else s.counters.clipped })) ∧
      (∀ q, q ∈ t.fs.prefetch ↔ q ∈ s.fs.prefetch ∧ ¬past q.need) ∧
      (∀ n ∈ t.fs.sequence, ¬past n) ∧
      (let left := s.fs.sequence.filter fun n => !decide (past n)
      left ≠ [] → t.fs.sequence = left) ∧
      (∀ n, s.fs.arb.owner = .reader → s.fs.arb.burst = some (.read n true) →
        t.fs.arb = { s.fs.arb with burst := some (.read n (!decide (past n))) }) ∧
      t.storeIs { s.fs with prefetch := t.fs.prefetch, frameMinimum := t.fs.frameMinimum } ∧
      t.wbp = { s.wbp with
        position := t.wbp.position, inFlight := t.wbp.inFlight, underrun := t.wbp.underrun,
        nextLine := t.wbp.nextLine } ∧
      t = { s with now := s.now + dt, wbp := t.wbp, fs := t.fs, counters := t.counters }

/-- R126, R128: every entry of the transfer tables is the whole number nearest to the curve's value, a half going up,
with γ of 11/5 and 12/5 for the two power curves; both tables run from 0 to full scale and rise. -/
def Obligations.TransferTables : Prop :=
  (∀ code ≤ 1023, NearestTo (code * 32768) 1023 (linearize .linear code)) ∧
  (∀ value ≤ 32768, NearestTo (value * 1023) 32768 (encodeLight .linear value)) ∧
  (∀ c g, (c = Curve.power22 ∧ g = 11) ∨ (c = Curve.power24 ∧ g = 12) →
    (∀ code ≤ 1023,
      (2 * linearize c code - 1) ^ 5 * 1023 ^ g ≤ 65536 ^ 5 * code ^ g ∧
      65536 ^ 5 * code ^ g < (2 * linearize c code + 1) ^ 5 * 1023 ^ g) ∧
    ∀ value ≤ 32768,
      (2 * encodeLight c value - 1) ^ g * 32768 ^ 5 ≤ 2046 ^ g * value ^ 5 ∧
      2046 ^ g * value ^ 5 < (2 * encodeLight c value + 1) ^ g * 32768 ^ 5) ∧
  ∀ c : Curve, linearize c 0 = 0 ∧ linearize c 1023 = 32768 ∧ encodeLight c 0 = 0 ∧ encodeLight c 32768 = 1023 ∧
    (∀ a b, a ≤ b → b ≤ 1023 → linearize c a ≤ linearize c b) ∧
    ∀ a b, a ≤ b → b ≤ 32768 → encodeLight c a ≤ encodeLight c b

/-! ### The whole part -/

/-- Every invariant of Safety.lean holds after reset (the model's choices among the reset values are in the assumption
log, entries 12 and 14). -/
def Obligations.ResetSound : Prop :=
  let s := State.reset
  (MemoryCanonical s ∧ BuffersBounded s ∧ CountersSaturate s) ∧ StoreInOrder s ∧ SilenceBounded s ∧ FiguresInRange s ∧
  ViewFollows s ∧ (LockCoherent s ∧ TransitionsMade s) ∧ (TimerRuns s ∧ QuietInConfig s ∧ PictureOnlyShowing s) ∧
  (MeshSound s ∧ WeightsSound s) ∧ (ProfileSound s ∧ AnnouncedNearMeasured s)

/-- Conventions, R150, R155, R160, R162, R166: every step keeps the memory canonical, the buffers in their limits, the arbiter
in order and the counters at most 65535. What the arbiter holds of a burst in progress are the model's own fields
(assumption log, entry 8), and that an owner's budget is never 0 during its burst is its choice (entry 52). -/
def Obligations.BuffersKept : Prop :=
  ∀ s t : State, MemoryCanonical s → BuffersBounded s → CountersSaturate s → step s = .next t →
    MemoryCanonical t ∧ BuffersBounded t ∧ CountersSaturate t

/-- R86, R91, R92, R151, R157: every step keeps the slots divided, their ranks 1 to their number, their frames rising
with rank above the SHOWN one, and the decision record agreeing with the chosen mark. -/
def Obligations.StoreKept : Prop := ∀ s t : State, StoreInOrder s → step s = .next t → StoreInOrder t

/-- R90, R92: from a SHOWN frame a step leads to the same SHOWN frame, to a newer one, or to none at an entry to CONFIG
or a hardware reset. -/
def Obligations.ShownAdvances : Prop :=
  ∀ (s t : State) (f : FrameNo), StoreInOrder s → step s = .next t → shownFrame s.fs.slots = some f →
    (∃ g, shownFrame t.fs.slots = some g ∧ (g = f ∨ newer g f = true)) ∨
    (shownFrame t.fs.slots = none ∧ t.sc.state = .config)

/-- R15, R50, R57, R58, R62 to R64, R106: every step keeps the silence counts in their limits, the figures in their
ranges, and the view as the entries and the own figures make it. -/
def Obligations.PeersKept : Prop :=
  ∀ s t : State, SilenceBounded s → FiguresInRange s → ViewFollows s → step s = .next t →
    SilenceBounded t ∧ FiguresInRange t ∧ ViewFollows t

/-- R3, R10, R69, R81, R82, R84: every step keeps IDLE with CONFIG, HOLD with ISOLATED, a REFERENCE station its own
reference, and leaves no JOINING station with both its conditions met. -/
def Obligations.LockKept : Prop :=
  ∀ s t : State, LockCoherent s → TransitionsMade s → step s = .next t → LockCoherent t ∧ TransitionsMade t

/-- R8, R30, R35, R120: every step keeps the timer running exactly while the profile is valid, nothing queued or on the
line in CONFIG, and PICTURE to a SHOWING station. -/
def Obligations.StationKept : Prop :=
  ∀ s t : State, TimerRuns s → QuietInConfig s → PictureOnlyShowing s → step s = .next t →
    TimerRuns t ∧ QuietInConfig t ∧ PictureOnlyShowing t

/-- R18, R22, R24, R26, R99, R115, R116: every step keeps the stored records sound and counted, and both weight tables of
the grid's size, in range, zero at every outside vertex, and zero throughout in CONFIG. -/
def Obligations.MeshAndWeightsKept : Prop :=
  ∀ s t : State, MeshSound s → WeightsSound s → step s = .next t → MeshSound t ∧ WeightsSound t

/-- R4, R5, R9, R142: every step keeps a valid profile in its ranges, and a running station's announced luminance within
L_step − 1 of its measured one. -/
def Obligations.ProfileKept : Prop :=
  ∀ s t : State, ProfileSound s → AnnouncedNearMeasured s → step s = .next t →
    ProfileSound t ∧ AnnouncedNearMeasured t

/-- R164, R177, R178: no command but TRAP and HARDWARE_RESET empties the trap or moves its location, and none but STATUS
and HARDWARE_RESET clears a pending cause. -/
def Obligations.TrapAndCausesHeld : Prop :=
  ∀ (c : Instr) (s t : State), exec c s = .next t → (∀ dt, c ≠ .hardwareReset dt) →
    (∀ u, s.fs.trap = some u → (∀ dt, c ≠ .trap dt) →
      ∃ more, t.fs.trap = some { u with more := more } ∧ (u.more = true → more = true)) ∧
    ((∀ dt, c ≠ .status dt) →
      (s.svp.causes.state = true → t.svp.causes.state = true) ∧
      (s.svp.causes.peer = true → t.svp.causes.peer = true) ∧
      (s.svp.causes.fault = true → t.svp.causes.fault = true) ∧
      (s.svp.causes.input = true → t.svp.causes.input = true))
end

