-- ==== Sys2Proof/Laws/State.lean ====
section
/-! SUPPORT. One lemma per field per update of State, so that no later proof unfolds a record update. -/

namespace Sys2Proof.Machine


/-! ### State.modSc -/

section

variable (g : Station → Station) (s : State)

@[simp] theorem State.modSc_pending : (s.modSc g).pending = s.pending := rfl
@[simp] theorem State.modSc_now : (s.modSc g).now = s.now := rfl
@[simp] theorem State.modSc_rstnLow : (s.modSc g).rstnLow = s.rstnLow := rfl
@[simp] theorem State.modSc_sc : (s.modSc g).sc = g s.sc := rfl
@[simp] theorem State.modSc_mt : (s.modSc g).mt = s.mt := rfl
@[simp] theorem State.modSc_slc : (s.modSc g).slc = s.slc := rfl
@[simp] theorem State.modSc_pt : (s.modSc g).pt = s.pt := rfl
@[simp] theorem State.modSc_cu : (s.modSc g).cu = s.cu := rfl
@[simp] theorem State.modSc_swu : (s.modSc g).swu = s.swu := rfl
@[simp] theorem State.modSc_we : (s.modSc g).we = s.we := rfl
@[simp] theorem State.modSc_wbp : (s.modSc g).wbp = s.wbp := rfl
@[simp] theorem State.modSc_ls : (s.modSc g).ls = s.ls := rfl
@[simp] theorem State.modSc_fs : (s.modSc g).fs = s.fs := rfl
@[simp] theorem State.modSc_svp : (s.modSc g).svp = s.svp := rfl
@[simp] theorem State.modSc_counters : (s.modSc g).counters = s.counters := rfl

end

/-! ### State.modMt -/

section

variable (g : Mesh → Mesh) (s : State)

@[simp] theorem State.modMt_pending : (s.modMt g).pending = s.pending := rfl
@[simp] theorem State.modMt_now : (s.modMt g).now = s.now := rfl
@[simp] theorem State.modMt_rstnLow : (s.modMt g).rstnLow = s.rstnLow := rfl
@[simp] theorem State.modMt_sc : (s.modMt g).sc = s.sc := rfl
@[simp] theorem State.modMt_mt : (s.modMt g).mt = g s.mt := rfl
@[simp] theorem State.modMt_slc : (s.modMt g).slc = s.slc := rfl
@[simp] theorem State.modMt_pt : (s.modMt g).pt = s.pt := rfl
@[simp] theorem State.modMt_cu : (s.modMt g).cu = s.cu := rfl
@[simp] theorem State.modMt_swu : (s.modMt g).swu = s.swu := rfl
@[simp] theorem State.modMt_we : (s.modMt g).we = s.we := rfl
@[simp] theorem State.modMt_wbp : (s.modMt g).wbp = s.wbp := rfl
@[simp] theorem State.modMt_ls : (s.modMt g).ls = s.ls := rfl
@[simp] theorem State.modMt_fs : (s.modMt g).fs = s.fs := rfl
@[simp] theorem State.modMt_svp : (s.modMt g).svp = s.svp := rfl
@[simp] theorem State.modMt_counters : (s.modMt g).counters = s.counters := rfl

end

/-! ### State.modSlc -/

section

variable (g : Link → Link) (s : State)

@[simp] theorem State.modSlc_pending : (s.modSlc g).pending = s.pending := rfl
@[simp] theorem State.modSlc_now : (s.modSlc g).now = s.now := rfl
@[simp] theorem State.modSlc_rstnLow : (s.modSlc g).rstnLow = s.rstnLow := rfl
@[simp] theorem State.modSlc_sc : (s.modSlc g).sc = s.sc := rfl
@[simp] theorem State.modSlc_mt : (s.modSlc g).mt = s.mt := rfl
@[simp] theorem State.modSlc_slc : (s.modSlc g).slc = g s.slc := rfl
@[simp] theorem State.modSlc_pt : (s.modSlc g).pt = s.pt := rfl
@[simp] theorem State.modSlc_cu : (s.modSlc g).cu = s.cu := rfl
@[simp] theorem State.modSlc_swu : (s.modSlc g).swu = s.swu := rfl
@[simp] theorem State.modSlc_we : (s.modSlc g).we = s.we := rfl
@[simp] theorem State.modSlc_wbp : (s.modSlc g).wbp = s.wbp := rfl
@[simp] theorem State.modSlc_ls : (s.modSlc g).ls = s.ls := rfl
@[simp] theorem State.modSlc_fs : (s.modSlc g).fs = s.fs := rfl
@[simp] theorem State.modSlc_svp : (s.modSlc g).svp = s.svp := rfl
@[simp] theorem State.modSlc_counters : (s.modSlc g).counters = s.counters := rfl

end

/-! ### State.modPt -/

section

variable (g : PeerTable → PeerTable) (s : State)

@[simp] theorem State.modPt_pending : (s.modPt g).pending = s.pending := rfl
@[simp] theorem State.modPt_now : (s.modPt g).now = s.now := rfl
@[simp] theorem State.modPt_rstnLow : (s.modPt g).rstnLow = s.rstnLow := rfl
@[simp] theorem State.modPt_sc : (s.modPt g).sc = s.sc := rfl
@[simp] theorem State.modPt_mt : (s.modPt g).mt = s.mt := rfl
@[simp] theorem State.modPt_slc : (s.modPt g).slc = s.slc := rfl
@[simp] theorem State.modPt_pt : (s.modPt g).pt = g s.pt := rfl
@[simp] theorem State.modPt_cu : (s.modPt g).cu = s.cu := rfl
@[simp] theorem State.modPt_swu : (s.modPt g).swu = s.swu := rfl
@[simp] theorem State.modPt_we : (s.modPt g).we = s.we := rfl
@[simp] theorem State.modPt_wbp : (s.modPt g).wbp = s.wbp := rfl
@[simp] theorem State.modPt_ls : (s.modPt g).ls = s.ls := rfl
@[simp] theorem State.modPt_fs : (s.modPt g).fs = s.fs := rfl
@[simp] theorem State.modPt_svp : (s.modPt g).svp = s.svp := rfl
@[simp] theorem State.modPt_counters : (s.modPt g).counters = s.counters := rfl

end

/-! ### State.modCu -/

section

variable (g : Cadence → Cadence) (s : State)

@[simp] theorem State.modCu_pending : (s.modCu g).pending = s.pending := rfl
@[simp] theorem State.modCu_now : (s.modCu g).now = s.now := rfl
@[simp] theorem State.modCu_rstnLow : (s.modCu g).rstnLow = s.rstnLow := rfl
@[simp] theorem State.modCu_sc : (s.modCu g).sc = s.sc := rfl
@[simp] theorem State.modCu_mt : (s.modCu g).mt = s.mt := rfl
@[simp] theorem State.modCu_slc : (s.modCu g).slc = s.slc := rfl
@[simp] theorem State.modCu_pt : (s.modCu g).pt = s.pt := rfl
@[simp] theorem State.modCu_cu : (s.modCu g).cu = g s.cu := rfl
@[simp] theorem State.modCu_swu : (s.modCu g).swu = s.swu := rfl
@[simp] theorem State.modCu_we : (s.modCu g).we = s.we := rfl
@[simp] theorem State.modCu_wbp : (s.modCu g).wbp = s.wbp := rfl
@[simp] theorem State.modCu_ls : (s.modCu g).ls = s.ls := rfl
@[simp] theorem State.modCu_fs : (s.modCu g).fs = s.fs := rfl
@[simp] theorem State.modCu_svp : (s.modCu g).svp = s.svp := rfl
@[simp] theorem State.modCu_counters : (s.modCu g).counters = s.counters := rfl

end

/-! ### State.modWe -/

section

variable (g : WeightEngine → WeightEngine) (s : State)

@[simp] theorem State.modWe_pending : (s.modWe g).pending = s.pending := rfl
@[simp] theorem State.modWe_now : (s.modWe g).now = s.now := rfl
@[simp] theorem State.modWe_rstnLow : (s.modWe g).rstnLow = s.rstnLow := rfl
@[simp] theorem State.modWe_sc : (s.modWe g).sc = s.sc := rfl
@[simp] theorem State.modWe_mt : (s.modWe g).mt = s.mt := rfl
@[simp] theorem State.modWe_slc : (s.modWe g).slc = s.slc := rfl
@[simp] theorem State.modWe_pt : (s.modWe g).pt = s.pt := rfl
@[simp] theorem State.modWe_cu : (s.modWe g).cu = s.cu := rfl
@[simp] theorem State.modWe_swu : (s.modWe g).swu = s.swu := rfl
@[simp] theorem State.modWe_we : (s.modWe g).we = g s.we := rfl
@[simp] theorem State.modWe_wbp : (s.modWe g).wbp = s.wbp := rfl
@[simp] theorem State.modWe_ls : (s.modWe g).ls = s.ls := rfl
@[simp] theorem State.modWe_fs : (s.modWe g).fs = s.fs := rfl
@[simp] theorem State.modWe_svp : (s.modWe g).svp = s.svp := rfl
@[simp] theorem State.modWe_counters : (s.modWe g).counters = s.counters := rfl

end

/-! ### State.modWbp -/

section

variable (g : Pipeline → Pipeline) (s : State)

@[simp] theorem State.modWbp_pending : (s.modWbp g).pending = s.pending := rfl
@[simp] theorem State.modWbp_now : (s.modWbp g).now = s.now := rfl
@[simp] theorem State.modWbp_rstnLow : (s.modWbp g).rstnLow = s.rstnLow := rfl
@[simp] theorem State.modWbp_sc : (s.modWbp g).sc = s.sc := rfl
@[simp] theorem State.modWbp_mt : (s.modWbp g).mt = s.mt := rfl
@[simp] theorem State.modWbp_slc : (s.modWbp g).slc = s.slc := rfl
@[simp] theorem State.modWbp_pt : (s.modWbp g).pt = s.pt := rfl
@[simp] theorem State.modWbp_cu : (s.modWbp g).cu = s.cu := rfl
@[simp] theorem State.modWbp_swu : (s.modWbp g).swu = s.swu := rfl
@[simp] theorem State.modWbp_we : (s.modWbp g).we = s.we := rfl
@[simp] theorem State.modWbp_wbp : (s.modWbp g).wbp = g s.wbp := rfl
@[simp] theorem State.modWbp_ls : (s.modWbp g).ls = s.ls := rfl
@[simp] theorem State.modWbp_fs : (s.modWbp g).fs = s.fs := rfl
@[simp] theorem State.modWbp_svp : (s.modWbp g).svp = s.svp := rfl
@[simp] theorem State.modWbp_counters : (s.modWbp g).counters = s.counters := rfl

end

/-! ### State.modLs -/

section

variable (g : Lamp → Lamp) (s : State)

@[simp] theorem State.modLs_pending : (s.modLs g).pending = s.pending := rfl
@[simp] theorem State.modLs_now : (s.modLs g).now = s.now := rfl
@[simp] theorem State.modLs_rstnLow : (s.modLs g).rstnLow = s.rstnLow := rfl
@[simp] theorem State.modLs_sc : (s.modLs g).sc = s.sc := rfl
@[simp] theorem State.modLs_mt : (s.modLs g).mt = s.mt := rfl
@[simp] theorem State.modLs_slc : (s.modLs g).slc = s.slc := rfl
@[simp] theorem State.modLs_pt : (s.modLs g).pt = s.pt := rfl
@[simp] theorem State.modLs_cu : (s.modLs g).cu = s.cu := rfl
@[simp] theorem State.modLs_swu : (s.modLs g).swu = s.swu := rfl
@[simp] theorem State.modLs_we : (s.modLs g).we = s.we := rfl
@[simp] theorem State.modLs_wbp : (s.modLs g).wbp = s.wbp := rfl
@[simp] theorem State.modLs_ls : (s.modLs g).ls = g s.ls := rfl
@[simp] theorem State.modLs_fs : (s.modLs g).fs = s.fs := rfl
@[simp] theorem State.modLs_svp : (s.modLs g).svp = s.svp := rfl
@[simp] theorem State.modLs_counters : (s.modLs g).counters = s.counters := rfl

end

/-! ### State.modFs -/

section

variable (g : FrameStore → FrameStore) (s : State)

@[simp] theorem State.modFs_pending : (s.modFs g).pending = s.pending := rfl
@[simp] theorem State.modFs_now : (s.modFs g).now = s.now := rfl
@[simp] theorem State.modFs_rstnLow : (s.modFs g).rstnLow = s.rstnLow := rfl
@[simp] theorem State.modFs_sc : (s.modFs g).sc = s.sc := rfl
@[simp] theorem State.modFs_mt : (s.modFs g).mt = s.mt := rfl
@[simp] theorem State.modFs_slc : (s.modFs g).slc = s.slc := rfl
@[simp] theorem State.modFs_pt : (s.modFs g).pt = s.pt := rfl
@[simp] theorem State.modFs_cu : (s.modFs g).cu = s.cu := rfl
@[simp] theorem State.modFs_swu : (s.modFs g).swu = s.swu := rfl
@[simp] theorem State.modFs_we : (s.modFs g).we = s.we := rfl
@[simp] theorem State.modFs_wbp : (s.modFs g).wbp = s.wbp := rfl
@[simp] theorem State.modFs_ls : (s.modFs g).ls = s.ls := rfl
@[simp] theorem State.modFs_fs : (s.modFs g).fs = g s.fs := rfl
@[simp] theorem State.modFs_svp : (s.modFs g).svp = s.svp := rfl
@[simp] theorem State.modFs_counters : (s.modFs g).counters = s.counters := rfl

end

/-! ### State.modSvp -/

section

variable (g : ServicePort → ServicePort) (s : State)

@[simp] theorem State.modSvp_pending : (s.modSvp g).pending = s.pending := rfl
@[simp] theorem State.modSvp_now : (s.modSvp g).now = s.now := rfl
@[simp] theorem State.modSvp_rstnLow : (s.modSvp g).rstnLow = s.rstnLow := rfl
@[simp] theorem State.modSvp_sc : (s.modSvp g).sc = s.sc := rfl
@[simp] theorem State.modSvp_mt : (s.modSvp g).mt = s.mt := rfl
@[simp] theorem State.modSvp_slc : (s.modSvp g).slc = s.slc := rfl
@[simp] theorem State.modSvp_pt : (s.modSvp g).pt = s.pt := rfl
@[simp] theorem State.modSvp_cu : (s.modSvp g).cu = s.cu := rfl
@[simp] theorem State.modSvp_swu : (s.modSvp g).swu = s.swu := rfl
@[simp] theorem State.modSvp_we : (s.modSvp g).we = s.we := rfl
@[simp] theorem State.modSvp_wbp : (s.modSvp g).wbp = s.wbp := rfl
@[simp] theorem State.modSvp_ls : (s.modSvp g).ls = s.ls := rfl
@[simp] theorem State.modSvp_fs : (s.modSvp g).fs = s.fs := rfl
@[simp] theorem State.modSvp_svp : (s.modSvp g).svp = g s.svp := rfl
@[simp] theorem State.modSvp_counters : (s.modSvp g).counters = s.counters := rfl

end

/-! ### State.modCounters -/

section

variable (g : Counters → Counters) (s : State)

@[simp] theorem State.modCounters_pending : (s.modCounters g).pending = s.pending := rfl
@[simp] theorem State.modCounters_now : (s.modCounters g).now = s.now := rfl
@[simp] theorem State.modCounters_rstnLow : (s.modCounters g).rstnLow = s.rstnLow := rfl
@[simp] theorem State.modCounters_sc : (s.modCounters g).sc = s.sc := rfl
@[simp] theorem State.modCounters_mt : (s.modCounters g).mt = s.mt := rfl
@[simp] theorem State.modCounters_slc : (s.modCounters g).slc = s.slc := rfl
@[simp] theorem State.modCounters_pt : (s.modCounters g).pt = s.pt := rfl
@[simp] theorem State.modCounters_cu : (s.modCounters g).cu = s.cu := rfl
@[simp] theorem State.modCounters_swu : (s.modCounters g).swu = s.swu := rfl
@[simp] theorem State.modCounters_we : (s.modCounters g).we = s.we := rfl
@[simp] theorem State.modCounters_wbp : (s.modCounters g).wbp = s.wbp := rfl
@[simp] theorem State.modCounters_ls : (s.modCounters g).ls = s.ls := rfl
@[simp] theorem State.modCounters_fs : (s.modCounters g).fs = s.fs := rfl
@[simp] theorem State.modCounters_svp : (s.modCounters g).svp = s.svp := rfl
@[simp] theorem State.modCounters_counters : (s.modCounters g).counters = g s.counters := rfl

end

/-! ### State.setSwu -/

section

variable (d : Decision) (s : State)

@[simp] theorem State.setSwu_pending : (s.setSwu d).pending = s.pending := rfl
@[simp] theorem State.setSwu_now : (s.setSwu d).now = s.now := rfl
@[simp] theorem State.setSwu_rstnLow : (s.setSwu d).rstnLow = s.rstnLow := rfl
@[simp] theorem State.setSwu_sc : (s.setSwu d).sc = s.sc := rfl
@[simp] theorem State.setSwu_mt : (s.setSwu d).mt = s.mt := rfl
@[simp] theorem State.setSwu_slc : (s.setSwu d).slc = s.slc := rfl
@[simp] theorem State.setSwu_pt : (s.setSwu d).pt = s.pt := rfl
@[simp] theorem State.setSwu_cu : (s.setSwu d).cu = s.cu := rfl
@[simp] theorem State.setSwu_swu : (s.setSwu d).swu = d := rfl
@[simp] theorem State.setSwu_we : (s.setSwu d).we = s.we := rfl
@[simp] theorem State.setSwu_wbp : (s.setSwu d).wbp = s.wbp := rfl
@[simp] theorem State.setSwu_ls : (s.setSwu d).ls = s.ls := rfl
@[simp] theorem State.setSwu_fs : (s.setSwu d).fs = s.fs := rfl
@[simp] theorem State.setSwu_svp : (s.setSwu d).svp = s.svp := rfl
@[simp] theorem State.setSwu_counters : (s.setSwu d).counters = s.counters := rfl

end

/-! ### State.advance -/

section

variable (dt : Nat) (s : State)

@[simp] theorem State.advance_pending : (s.advance dt).pending = s.pending := rfl
@[simp] theorem State.advance_now : (s.advance dt).now = s.now + dt := rfl
@[simp] theorem State.advance_rstnLow : (s.advance dt).rstnLow = s.rstnLow := rfl
@[simp] theorem State.advance_sc : (s.advance dt).sc = s.sc := rfl
@[simp] theorem State.advance_mt : (s.advance dt).mt = s.mt := rfl
@[simp] theorem State.advance_slc : (s.advance dt).slc = s.slc := rfl
@[simp] theorem State.advance_pt : (s.advance dt).pt = s.pt := rfl
@[simp] theorem State.advance_cu : (s.advance dt).cu = s.cu := rfl
@[simp] theorem State.advance_swu : (s.advance dt).swu = s.swu := rfl
@[simp] theorem State.advance_we : (s.advance dt).we = s.we := rfl
@[simp] theorem State.advance_wbp : (s.advance dt).wbp = s.wbp := rfl
@[simp] theorem State.advance_ls : (s.advance dt).ls = s.ls := rfl
@[simp] theorem State.advance_fs : (s.advance dt).fs = s.fs := rfl
@[simp] theorem State.advance_svp : (s.advance dt).svp = s.svp := rfl
@[simp] theorem State.advance_counters : (s.advance dt).counters = s.counters := rfl

end

end Sys2Proof.Machine
end

