-- ==== Sys2Proof/Laws/Frames.lean ====
section
/-! SUPPORT. One lemma per shared operation that says once all it can change: the operation's result is the state before
with the named fields replaced. -/

namespace Sys2Proof.Machine

/-! ### Service port -/

/-- A rising edge of SVC_SCK lets time pass and appends its bit where the port samples it, and does nothing else (R169). -/
theorem State.clockIn_eq (dt : Nat) (bit : Bool) (s : State) :
    s.clockIn dt bit =
      { s with now := s.now + dt, svp := { s.svp with received :=
          if (s.advance dt).sdoDriven = true then s.svp.received ++ [bit] else s.svp.received } } := by
  unfold State.clockIn
  dsimp only
  split <;> rfl

/-! ### Seam link -/

/-- A message that ends short changes the link and the counters alone (R44). -/
theorem takeShort_frame (c : ShortCause) (run : Nat) (s : State) :
    takeShort c run s = { s with slc := (takeShort c run s).slc, counters := (takeShort c run s).counters } := by
  simp only [takeShort, takeSpentMark, takeMark, countCheckFail, State.modSlc]
  repeat' split
  all_goals rfl

/-- A dominant run at which the receiver takes no mark any more can always end (R32, R33). -/
theorem strayDue_of_spent {s : State} {width : Nat} (hr : s.slc.receiver = .spent) (ho : s.slc.onLine = none)
    (hd : s.slc.dominant = true) (hw : s.slc.since + width = s.now) : s.strayDue width = true := by
  simp [State.strayDue, Link.inCells, State.takesMark, hr, ho, hd, hw]

/-! ### Frame Store and pipeline -/

/-- Beginning a burst changes the arbiter alone (R162). -/
theorem beginBurst_frame (o : Owner) (n : Nat) (b : Bool) (s : State) :
    beginBurst o n b s = { s with fs := { s.fs with arb := {
      owner := o, budget := n, burst := nextBurst o s, memoryFree := max s.now s.fs.arb.memoryFree + Config.burstTime,
      turnEnds := false, grantedAt := if b then some s.now else none } } } := rfl

/-- Requests change the arbiter alone (R162). -/
theorem arbitrate_frame (s : State) : arbitrate s = { s with fs := { s.fs with arb := (arbitrate s).fs.arb } } := by
  unfold arbitrate
  split <;> (repeat' split) <;> rfl

/-- While the reader owns the memory, or the writer does and was not granted it from NONE just now, requests wait (R162).
-/
theorem arbitrate_owned (s : State) (h : s.fs.arb.owner ≠ .none) (g : s.fs.arb.grantedAt ≠ some s.now) :
    arbitrate s = s := by
  unfold arbitrate
  split <;> simp_all

/-- Passing the memory on changes the arbiter alone (R162). -/
theorem nextTurn_frame (s : State) : nextTurn s = { s with fs := { s.fs with arb := (nextTurn s).fs.arb } } := by
  unfold nextTurn
  dsimp only
  (repeat' split) <;> rfl

/-- Who owns the memory after a burst, and with what budget (R162). -/
theorem nextTurn_turn (s : State) :
    ((nextTurn s).fs.arb.owner, (nextTurn s).fs.arb.budget) =
      if s.fs.arb.budget ≠ 0 ∧ s.fs.arb.turnEnds = false ∧ requests s.fs.arb.owner s = true then
        (s.fs.arb.owner, s.fs.arb.budget)
      else if requests s.fs.arb.owner.other s = true then (s.fs.arb.owner.other, s.fs.arb.owner.other.run)
      else if requests s.fs.arb.owner s = true then (s.fs.arb.owner, s.fs.arb.owner.run)
      else (.none, 0) := by
  have key : (s.fs.arb.budget != 0 && !s.fs.arb.turnEnds && requests s.fs.arb.owner s) = true ↔
      s.fs.arb.budget ≠ 0 ∧ s.fs.arb.turnEnds = false ∧ requests s.fs.arb.owner s = true := by
    simp [and_assoc]
  unfold nextTurn
  simp only [key]
  (repeat' split) <;> rfl

/-- The end of the reader's turn at a frame start is noted in the arbiter alone (R162). -/
theorem endReaderTurn_frame (s : State) :
    endReaderTurn s = { s with fs := { s.fs with arb := (endReaderTurn s).fs.arb } } := rfl

/-- Handing need lists over changes the need sequence and the next line alone (R130). -/
theorem refill_frame (n : Nat) (s : State) :
    refill n s = { s with wbp := { s.wbp with nextLine := (refill n s).wbp.nextLine },
                          fs := { s.fs with sequence := (refill n s).fs.sequence } } := by
  induction n generalizing s with
  | zero => rfl
  | succ n ih =>
    unfold refill
    split
    · dsimp only
      split
      · rw [ih]; rfl
      · rfl
    · rfl

/-- A BLACK frame, or one without a slot, hands no need list over (R130). -/
theorem refill_of_not_picture (n : Nat) (s : State) (h : s.wbp.mode ≠ .picture) : refill n s = s := by
  cases n with
  | zero => rfl
  | succ n => unfold refill; split <;> simp_all

/-- Settling the store changes the need sequence, the next line and the arbiter alone. -/
theorem settleStore_frame (s : State) :
    settleStore s = { s with
      wbp := { s.wbp with nextLine := (settleStore s).wbp.nextLine },
      fs := { s.fs with sequence := (settleStore s).fs.sequence, arb := (settleStore s).fs.arb } } := by
  unfold settleStore refillSequence
  rw [arbitrate_frame, refill_frame]

/-- The end of a burst changes the need sequence, the next line and the arbiter alone (R162). -/
theorem endBurst_frame (s : State) :
    endBurst s = { s with
      wbp := { s.wbp with nextLine := (endBurst s).wbp.nextLine },
      fs := { s.fs with sequence := (endBurst s).fs.sequence, arb := (endBurst s).fs.arb } } := by
  unfold endBurst refillSequence
  rw [nextTurn_frame, refill_frame]
  rfl

/-- Emptying the reader's work leaves the need sequence and the prefetch empty, and a fetch in progress to be discarded
(R160). -/
theorem cutReader_frame (s : State) :
    cutReader s = { s with fs := { s.fs with sequence := [], prefetch := [], arb := (cutReader s).fs.arb } } := rfl

/-- Discarding pixels changes the FIFO, and a write burst in progress to one that is discarded (R155). -/
theorem discardPixels_frame (gone : SlotNo → Bool) (f : FrameStore) :
    discardPixels gone f = { f with
      fifo := f.fifo.filter fun p => !gone p.slot, arb := (discardPixels gone f).arb } := rfl

/-- A new output frame: its mode and slot from the station state as it stands, the prefetch empty, and nothing but the
pipeline, the reader and the arbiter changed (R119, R120, R121, R160). -/
theorem beginOutputFrame_frame (s : State) :
    beginOutputFrame s = { s with
      wbp := { s.wbp with
        mode := if s.sc.state = .showing then .picture else .black,
        frameSlot := if s.sc.state = .showing then shownSlot s.fs.slots else none, position := some (0, 0),
        underrun := false, frameAt := s.now, nextLine := (beginOutputFrame s).wbp.nextLine, inFlight := [] },
      fs := { s.fs with
        sequence := (beginOutputFrame s).fs.sequence, prefetch := [], arb := (beginOutputFrame s).fs.arb } } := by
  unfold beginOutputFrame
  rw [settleStore_frame, endReaderTurn_frame, cutReader_frame]
  by_cases h : s.sc.state = .showing <;> simp [h, State.modWbp]

/-- A frame that begins outside SHOWING hands no need list over (R120, R130). -/
theorem beginOutputFrame_sequence (s : State) (h : s.sc.state ≠ .showing) :
    (beginOutputFrame s).fs.sequence = [] ∧ (beginOutputFrame s).wbp.nextLine = 0 := by
  have hm : ((s.sc.state == ShowState.showing) = true) ↔ False := by simp [h]
  unfold beginOutputFrame settleStore refillSequence
  rw [arbitrate_frame, refill_of_not_picture _ _ (by simp [hm, State.modWbp, endReaderTurn])]
  exact ⟨rfl, rfl⟩

/-- Turning BLACK empties the reader's work where the frame was in PICTURE, and does nothing else (R120, R160). -/
theorem turnBlack_frame (s : State) :
    turnBlack s = { s with
      wbp := { s.wbp with mode := if s.wbp.mode = .picture then .black else s.wbp.mode },
      fs := { s.fs with
        sequence := if s.wbp.mode = .picture then [] else s.fs.sequence,
        prefetch := if s.wbp.mode = .picture then [] else s.fs.prefetch, arb := (turnBlack s).fs.arb } } := by
  unfold turnBlack
  split
  · rw [cutReader_frame]; simp_all [State.modWbp]
  · simp_all

/-- A frame that is not in PICTURE does not turn. -/
theorem turnBlack_of_not_picture (s : State) (h : s.wbp.mode ≠ .picture) : turnBlack s = s := by simp [turnBlack, h]

/-! ### Station Controller -/

/-- A change of station state raises STATE and turns a PICTURE frame BLACK on leaving SHOWING (R1, R120). -/
theorem setState_of_ne (st : ShowState) (s : State) (h : s.sc.state ≠ st) :
    setState st s =
      (if st = .showing then id else turnBlack) (raiseState (s.modSc fun c => { c with state := st })) := by
  unfold setState; simp [h]; split <;> simp

/-- A state that stands already is left as it is (R1). -/
theorem setState_of_eq (st : ShowState) (s : State) (h : s.sc.state = st) : setState st s = s := by
  simp [setState, h]

/-- What a state change can touch: the state, the STATE cause, the output mode, the reader and the arbiter. -/
theorem setState_frame (st : ShowState) (s : State) :
    setState st s = { s with
      sc := { s.sc with state := st },
      svp := { s.svp with causes := { s.svp.causes with state := s.svp.causes.state || s.sc.state != st } },
      wbp := { s.wbp with mode := (setState st s).wbp.mode },
      fs := { s.fs with
        sequence := (setState st s).fs.sequence, prefetch := (setState st s).fs.prefetch,
        arb := (setState st s).fs.arb } } := by
  by_cases h : s.sc.state = st
  · subst h
    rw [setState_of_eq _ _ rfl]
    simp
  · rw [setState_of_ne _ _ h]
    split
    · simp [raiseState, State.modSc, State.modSvp, h]
    · rw [turnBlack_frame]; simp [raiseState, State.modSc, State.modSvp, h]

/-- The JOINING test leaves a station that is not in JOINING as it is (R10). -/
theorem joiningTest_of_not_joining (s : State) (h : s.sc.state ≠ .joining) : joiningTest s = s := by
  simp [joiningTest, h]

/-- The JOINING test is a state change, with its instant noted, or nothing (R10). -/
theorem joiningTest_cases (s : State) :
    joiningTest s = s ∨ (s.sc.state = .joining ∧ s.lockMet = true ∧ s.we.promoted = true ∧
      joiningTest s = (setState s.joiningExit s).modSc fun c => { c with leftJoining := some s.now }) := by
  unfold joiningTest
  split
  · next h => exact .inr ⟨h.1, h.2.1, h.2.2, rfl⟩
  · exact .inl rfl

/-! ### Requests and counters -/

/-- Updating the transmit queue changes nothing else. -/
theorem modQueue_frame (f : TransmitQueue → TransmitQueue) (s : State) :
    modQueue f s = { s with slc := { s.slc with queue := f s.slc.queue } } := rfl

/-- A returned message changes the slot of its kind, or counts EXPIRED (R38, R39, R42). -/
theorem returnToQueue_frame (m : OnLine) (n : Nat) (b : Bool) (s : State) :
    returnToQueue m n b s = { s with
      slc := { s.slc with queue := (returnToQueue m n b s).slc.queue },
      counters := { s.counters with expired := (returnToQueue m n b s).counters.expired } } := by
  unfold returnToQueue
  dsimp only
  split <;> (repeat' split) <;> rfl

/-! ### View and engine -/

/-- A view change reaches the engine alone (R109). -/
theorem engineViewChange_frame (s : State) :
    engineViewChange s = { s with we := (engineViewChange s).we } := by
  unfold engineViewChange; (repeat' split) <;> rfl

/-- An engine that is not IDLE takes a view change as its again flag, but at the instant of a promotion (R109, R111). -/
theorem engineViewChange_busy (s : State) (h : s.we.engine ≠ .idle)
    (g : s.we.engine = .computing → s.we.promotedAt ≠ some s.now) :
    engineViewChange s = s.modWe fun e => { e with again := true } := by
  unfold engineViewChange
  rw [if_neg h, if_neg fun k => g k.1 k.2]

/-- A view change at the instant of a promotion ends in one state, whether or not the follow-up pass had begun: a pass from
the changed view, with the again flag clear (R111). -/
theorem engineViewChange_promoted (s : State) (h : s.we.engine ≠ .pending) (g : s.we.promotedAt = some s.now)
    (k : s.we.engine = .idle → s.we.again = false) :
    engineViewChange s = { s with we := { s.we with
      engine := .computing, copy := s.pt.view, position := 0, passMaximum := 1, passStart := some s.now,
      again := false } } := by
  unfold engineViewChange
  split
  · next e => have := k e; simp only [startPass, State.modWe, ← this]
  · next e =>
    have c : s.we.engine = .computing := by
      cases x : s.we.engine
      · exact absurd x e
      · rfl
      · exact absurd x h
    rw [if_pos ⟨c, g⟩]; rfl

/-- The formed view depends on the entries, the own number, L_ann and K_local alone (R62). -/
theorem formedView_congr (s t : State) (serial : BitVec 8) (h1 : t.pt.entries = s.pt.entries)
    (h2 : t.profile.station = s.profile.station) (h3 : t.ls.lAnn = s.ls.lAnn) (h4 : t.we.kLocal = s.we.kLocal) :
    t.formedView serial = s.formedView serial := by
  simp [State.formedView, State.alive, State.peersWith, PeerTable.entry, h1, h2, h3, h4]

/-- The serial of a formed view is the one given. -/
theorem formedView_serial (s : State) (n : BitVec 8) : (s.formedView n).serial = n := rfl

/-- Recomputing the view leaves the view as the entries make it, serial advanced only on a change, and touches the engine
alone besides (R63). -/
theorem recomputeView_frame (s : State) :
    recomputeView s = { s with pt := { s.pt with view := (recomputeView s).pt.view }, we := (recomputeView s).we } := by
  unfold recomputeView
  split
  · rfl
  · rw [engineViewChange_frame]; rfl

/-- After a recomputation the view is the formed one (R62, R63). -/
theorem recomputeView_view (s : State) :
    (recomputeView s).pt.view =
      s.formedView (if s.formedView s.pt.view.serial = s.pt.view then s.pt.view.serial else s.pt.view.serial + 1) := by
  unfold recomputeView
  split
  · next h => exact h.symm
  · rw [engineViewChange_frame]; rfl

/-- A view that already is the formed one stays, and nothing is signalled (R63). -/
theorem recomputeView_same (s : State) (h : s.formedView s.pt.view.serial = s.pt.view) : recomputeView s = s := by
  simp [recomputeView, h]

/-- An entry written raises at most PEER (R27, R67). -/
theorem changeEntry_frame (n : StationNo) (e : PeerEntry) (s : State) :
    changeEntry n e s = { s with
      pt := { s.pt with entries := s.pt.entries.set n.val e },
      svp := { s.svp with causes := { s.svp.causes with peer := (changeEntry n e s).svp.causes.peer } } } := by
  unfold changeEntry
  dsimp only
  split <;> rfl

/-- A promotion touches the engine alone (R110). -/
theorem promote_frame (s : State) : promote s = { s with we := (promote s).we } := by
  unfold promote
  split
  · dsimp only; split <;> rfl
  · rfl

/-! ### Cadence and swap -/

/-- Weighing the choice of reference touches the Cadence Unit alone (R74). -/
theorem weighIfChanged_frame (b s : State) : weighIfChanged b s = { s with cu := (weighIfChanged b s).cu } := by
  unfold weighIfChanged weighReference; split <;> rfl

/-- The cutoff touches the timer, the decision record, the chosen marks and SWAPMISS (R72, R90, R91). -/
theorem takeCutoff_frame (s : State) :
    takeCutoff s = { s with
      cu := { s.cu with cutoffTaken := true }, swu := (takeCutoff s).swu,
      fs := { s.fs with slots := (takeCutoff s).fs.slots },
      counters := { s.counters with swapMiss := (takeCutoff s).counters.swapMiss } } := by
  unfold takeCutoff decideSwap
  dsimp only
  (repeat' split) <;> rfl

/-- A divergence changes its counter alone (R96). -/
theorem examinePulse_frame (ts : Int) (l : LockState) (f : FrameNo) (s : State) :
    examinePulse ts l f s = { s with counters := { s.counters with diverge := (examinePulse ts l f s).counters.diverge } } := by
  unfold examinePulse
  (repeat' split) <;> rfl

/-- The enactment empties the decision record and touches slots, FIFO, arbiter, SWAPS and HOLDS (R92, R93). -/
theorem enactDecision_frame (s : State) :
    enactDecision s = { s with
      swu := .none,
      fs := { s.fs with
        slots := (enactDecision s).fs.slots, fifo := (enactDecision s).fs.fifo, arb := (enactDecision s).fs.arb },
      counters := { s.counters with
        swaps := (enactDecision s).counters.swaps, holds := (enactDecision s).counters.holds } } := by
  unfold enactDecision
  split
  · next h => rw [← h]
  · rfl
  · rfl

/-! ### How a command falls -/

/-- An event under RSTN high has its effect. -/
theorem event_live (dt : Nat) (s : State) (f : State → State) (h : s.rstnLow = false) :
    event dt s f = .next (f (s.advance dt)) := by simp [event, h]

/-- An event that is due has its effect. -/
theorem eventWhen_due (dt : Nat) (s : State) (due : State → Bool) (f : State → State) (h : s.rstnLow = false)
    (hd : due (s.advance dt) = true) : eventWhen dt s due f = .next (f (s.advance dt)) := by
  simp [eventWhen, event, h, hd]

/-- An event that is not due only lets time pass. -/
theorem eventWhen_not_due (dt : Nat) (s : State) (due : State → Bool) (f : State → State)
    (hd : due (s.advance dt) = false) : eventWhen dt s due f = .next (s.advance dt) := by
  simp [eventWhen, event, hd]

/-- An action command at the rising edge of SVC_CSN that ends an open transaction has its effect on the closed port
(R169, R170). -/
theorem actionCommand_open (dt : Nat) (s : State) (f : State → State)
    (h : s.rstnLow = false ∧ s.svp.transaction = .opened ∧ s.now + dt = s.svp.rise) :
    actionCommand dt s f = .next (f (endTransaction (s.advance dt))) := by
  simp [actionCommand, eventWhen, event, h]

/-- A read command of an open transaction, before SVC_CSN rises, captures its record and then has its effects (R170). -/
theorem readCommand_open (dt : Nat) (s : State) (record : State → List Byte) (f : State → State)
    (h : s.rstnLow = false ∧ s.svp.transaction = .opened ∧ s.now + dt < s.svp.rise) :
    readCommand dt s record f = .next ((f (s.advance dt)).modSvp fun p =>
      { p with transaction := .reading, shiftOut := 0 :: record (s.advance dt) }) := by
  simp [readCommand, eventWhen, event, h]

end Sys2Proof.Machine
end

