-- ==== Sys2Proof/Laws/Entry.lean ====
section
/-! SUPPORT. What the entry to CONFIG does to every block, said once (R15). -/

namespace Sys2Proof.Machine

/-- Turning BLACK moves PICTURE to BLACK and leaves the other modes (R120). -/
theorem turnBlack_mode (s : State) :
    (turnBlack s).wbp.mode = if s.wbp.mode = .picture then .black else s.wbp.mode := by
  by_cases h : s.wbp.mode = .picture
  · simp [turnBlack, h, State.modWbp]
  · simp [turnBlack, h]

/-- A state change neither starts nor ends the sending of frames. -/
theorem setState_mode_none (st : ShowState) (s : State) : (setState st s).wbp.mode = .none ↔ s.wbp.mode = .none := by
  have key : ∀ m : OutputMode, (if m = .picture then OutputMode.black else m) = .none ↔ m = .none := by
    intro m; cases m <;> simp
  unfold setState
  split
  · rfl
  · dsimp only; split
    · rfl
    · rw [turnBlack_mode]; exact key _

/-- A state change leaves the instant at which the memory is free: a burst in progress runs to its end (R120, R160). -/
theorem setState_memoryFree (st : ShowState) (s : State) :
    (setState st s).fs.arb.memoryFree = s.fs.arb.memoryFree := by
  unfold setState
  split
  · rfl
  · dsimp only; split
    · rfl
    · unfold turnBlack; split <;> rfl

/-- Bringing a pass up to date writes its position, its maximum k, the SATURATED flag and the SATURATED counter, and
nothing else (R98, R105, R106, R107). -/
theorem runPass_frame (s : State) :
    runPass s =
      { s with
        we := { s.we with
          position := (runPass s).we.position, passMaximum := (runPass s).we.passMaximum,
          saturated := (runPass s).we.saturated },
        counters := { s.counters with saturated := (runPass s).counters.saturated } } := by
  unfold runPass
  split <;> rfl

@[simp] theorem runPass_pending (s : State) : (runPass s).pending = s.pending := by unfold runPass; split <;> rfl
@[simp] theorem runPass_now (s : State) : (runPass s).now = s.now := by unfold runPass; split <;> rfl
@[simp] theorem runPass_rstnLow (s : State) : (runPass s).rstnLow = s.rstnLow := by unfold runPass; split <;> rfl
@[simp] theorem runPass_sc (s : State) : (runPass s).sc = s.sc := by unfold runPass; split <;> rfl
@[simp] theorem runPass_mt (s : State) : (runPass s).mt = s.mt := by unfold runPass; split <;> rfl
@[simp] theorem runPass_slc (s : State) : (runPass s).slc = s.slc := by unfold runPass; split <;> rfl
@[simp] theorem runPass_pt (s : State) : (runPass s).pt = s.pt := by unfold runPass; split <;> rfl
@[simp] theorem runPass_cu (s : State) : (runPass s).cu = s.cu := by unfold runPass; split <;> rfl
@[simp] theorem runPass_swu (s : State) : (runPass s).swu = s.swu := by unfold runPass; split <;> rfl
@[simp] theorem runPass_wbp (s : State) : (runPass s).wbp = s.wbp := by unfold runPass; split <;> rfl
@[simp] theorem runPass_ls (s : State) : (runPass s).ls = s.ls := by unfold runPass; split <;> rfl
@[simp] theorem runPass_fs (s : State) : (runPass s).fs = s.fs := by unfold runPass; split <;> rfl
@[simp] theorem runPass_svp (s : State) : (runPass s).svp = s.svp := by unfold runPass; split <;> rfl
@[simp] theorem runPass_profile (s : State) : (runPass s).profile = s.profile := by simp [State.profile]

/-- Outside a pass there is nothing to bring up to date. -/
theorem runPass_of_not_computing {s : State} (h : s.we.engine ≠ .computing) : runPass s = s := by simp [runPass, h]

/-- `enterConfig` is the entry to CONFIG in every block (R15). -/
theorem enterConfig_enters (s : State) : EntersConfig s (enterConfig s) := by
  simp only [enterConfig]
  rw [setState_frame]
  simp only [EntersConfig, State.modSlc, State.modPt, State.modCu, State.modWe, State.setSwu, State.modFs,
    State.modLs, State.modWbp, tableToConfig, View.config, cadenceToConfig, engineToConfig, zeroTable, storeToConfig,
    lampToConfig, Accumulator.zero, pipelineToConfig, linkToConfig, State.profile, List.replicate, setState_mode_none,
    setState_memoryFree]
  simp only [runPass_pending, runPass_now, runPass_rstnLow, runPass_sc, runPass_mt, runPass_slc, runPass_pt, runPass_cu,
    runPass_wbp, runPass_ls, runPass_fs, runPass_svp, and_true]

end Sys2Proof.Machine
end

