-- ==== Sys2Proof/Laws/Fields.lean ====
section
/-! SUPPORT. What each shared operation leaves alone, field by field: every lemma says that one field of the state after
the operation is that of the state before. -/

namespace Sys2Proof.Machine

/-! ### Frames of the operations that Laws/Frames.lean does not cover -/

/-- The JOINING test touches the state, the STATE cause, the output mode, the reader and the arbiter (R10). -/
theorem joiningTest_frame (s : State) :
    joiningTest s = { s with
      sc := { s.sc with state := (joiningTest s).sc.state, leftJoining := (joiningTest s).sc.leftJoining },
      svp := { s.svp with causes := { s.svp.causes with
        state := s.svp.causes.state || s.sc.state != (joiningTest s).sc.state } },
      wbp := { s.wbp with mode := (joiningTest s).wbp.mode },
      fs := { s.fs with
        sequence := (joiningTest s).fs.sequence, prefetch := (joiningTest s).fs.prefetch,
        arb := (joiningTest s).fs.arb } } := by
  obtain h | ⟨_, _, _, h⟩ := joiningTest_cases s
  · rw [h]; simp
  · rw [h]
    generalize s.joiningExit = st
    have hs : (setState st s).sc.state = st := by rw [setState_frame]
    simp only [State.modSc, hs]
    conv_lhs => rw [setState_frame st s]

/-- The state a JOINING test leaves, and the instant at which it has left JOINING (R10). -/
theorem joiningTest_state (s : State) :
    (joiningTest s).sc.state =
        (if s.sc.state = .joining ∧ s.lockMet = true ∧ s.we.promoted = true then
          (if s.profile.tMin ≤ s.ls.lAnn then .showing else .dark)
        else s.sc.state) ∧
      (joiningTest s).sc.leftJoining =
        (if s.sc.state = .joining ∧ s.lockMet = true ∧ s.we.promoted = true then some s.now
        else s.sc.leftJoining) := by
  unfold joiningTest
  split
  · simp only [State.modSc, and_true]; rw [setState_frame]; rfl
  · exact ⟨rfl, rfl⟩

/-- The silence counts touch the Peer Table alone (R57, R58). -/
theorem silenceTick_frame (s : State) :
    silenceTick s = { s with pt := { s.pt with
      entries := (silenceTick s).pt.entries, unheard := (silenceTick s).pt.unheard } } := by
  unfold silenceTick; dsimp only; split <;> rfl

/-- Hearing a peer touches the condition, the unheard count and the Cadence Unit alone (R52, R61). -/
theorem hearPeer_frame (s : State) :
    hearPeer s = { s with pt := { s.pt with condition := .normal, unheard := 0 }, cu := (hearPeer s).cu } := by
  unfold hearPeer; dsimp only
  cases h : s.pt.condition
  · simp [State.modPt, h]
  · simp only [if_true]; split <;> rfl

/-- A reference PULSE touches the Cadence Unit, and by a cutoff that occurs at once the Swap Unit's decision (R77, R78). -/
theorem takeReferencePulse_frame (i : Int) (b : BitVec 8) (s : State) :
    takeReferencePulse i b s = { s with
      cu := (takeReferencePulse i b s).cu, swu := (takeReferencePulse i b s).swu,
      fs := { s.fs with slots := (takeReferencePulse i b s).fs.slots },
      counters := { s.counters with swapMiss := (takeReferencePulse i b s).counters.swapMiss } } := by
  unfold takeReferencePulse
  dsimp only
  generalize applyCorrection _ _ _ _ = a
  obtain ⟨c, now⟩ := a
  cases now <;> (repeat' split) <;>
    first | rfl | (simp only [State.modCu, weighReference]; rw [takeCutoff_frame])

/-! ### Beginning a burst leaves alone -/
@[simp] theorem beginBurst_pending (o : Owner) (n : Nat) (b : Bool) (s : State) : (beginBurst o n b s).pending = s.pending := rfl
@[simp] theorem beginBurst_now (o : Owner) (n : Nat) (b : Bool) (s : State) : (beginBurst o n b s).now = s.now := rfl
@[simp] theorem beginBurst_rstnLow (o : Owner) (n : Nat) (b : Bool) (s : State) : (beginBurst o n b s).rstnLow = s.rstnLow := rfl
@[simp] theorem beginBurst_sc (o : Owner) (n : Nat) (b : Bool) (s : State) : (beginBurst o n b s).sc = s.sc := rfl
@[simp] theorem beginBurst_mt (o : Owner) (n : Nat) (b : Bool) (s : State) : (beginBurst o n b s).mt = s.mt := rfl
@[simp] theorem beginBurst_slc (o : Owner) (n : Nat) (b : Bool) (s : State) : (beginBurst o n b s).slc = s.slc := rfl
@[simp] theorem beginBurst_pt (o : Owner) (n : Nat) (b : Bool) (s : State) : (beginBurst o n b s).pt = s.pt := rfl
@[simp] theorem beginBurst_cu (o : Owner) (n : Nat) (b : Bool) (s : State) : (beginBurst o n b s).cu = s.cu := rfl
@[simp] theorem beginBurst_swu (o : Owner) (n : Nat) (b : Bool) (s : State) : (beginBurst o n b s).swu = s.swu := rfl
@[simp] theorem beginBurst_we (o : Owner) (n : Nat) (b : Bool) (s : State) : (beginBurst o n b s).we = s.we := rfl
@[simp] theorem beginBurst_wbp (o : Owner) (n : Nat) (b : Bool) (s : State) : (beginBurst o n b s).wbp = s.wbp := rfl
@[simp] theorem beginBurst_ls (o : Owner) (n : Nat) (b : Bool) (s : State) : (beginBurst o n b s).ls = s.ls := rfl
@[simp] theorem beginBurst_fs_slots (o : Owner) (n : Nat) (b : Bool) (s : State) : (beginBurst o n b s).fs.slots = s.fs.slots := rfl
@[simp] theorem beginBurst_fs_port (o : Owner) (n : Nat) (b : Bool) (s : State) : (beginBurst o n b s).fs.port = s.fs.port := rfl
@[simp] theorem beginBurst_fs_lineCount (o : Owner) (n : Nat) (b : Bool) (s : State) : (beginBurst o n b s).fs.lineCount = s.fs.lineCount := rfl
@[simp] theorem beginBurst_fs_linePixels (o : Owner) (n : Nat) (b : Bool) (s : State) : (beginBurst o n b s).fs.linePixels = s.fs.linePixels := rfl
@[simp] theorem beginBurst_fs_damaged (o : Owner) (n : Nat) (b : Bool) (s : State) : (beginBurst o n b s).fs.damaged = s.fs.damaged := rfl
@[simp] theorem beginBurst_fs_trailer (o : Owner) (n : Nat) (b : Bool) (s : State) : (beginBurst o n b s).fs.trailer = s.fs.trailer := rfl
@[simp] theorem beginBurst_fs_lossStart (o : Owner) (n : Nat) (b : Bool) (s : State) : (beginBurst o n b s).fs.lossStart = s.fs.lossStart := rfl
@[simp] theorem beginBurst_fs_lost (o : Owner) (n : Nat) (b : Bool) (s : State) : (beginBurst o n b s).fs.lost = s.fs.lost := rfl
@[simp] theorem beginBurst_fs_fifo (o : Owner) (n : Nat) (b : Bool) (s : State) : (beginBurst o n b s).fs.fifo = s.fs.fifo := rfl
@[simp] theorem beginBurst_fs_sequence (o : Owner) (n : Nat) (b : Bool) (s : State) : (beginBurst o n b s).fs.sequence = s.fs.sequence := rfl
@[simp] theorem beginBurst_fs_prefetch (o : Owner) (n : Nat) (b : Bool) (s : State) : (beginBurst o n b s).fs.prefetch = s.fs.prefetch := rfl
@[simp] theorem beginBurst_fs_trap (o : Owner) (n : Nat) (b : Bool) (s : State) : (beginBurst o n b s).fs.trap = s.fs.trap := rfl
@[simp] theorem beginBurst_fs_fifoPeakMark (o : Owner) (n : Nat) (b : Bool) (s : State) : (beginBurst o n b s).fs.fifoPeakMark = s.fs.fifoPeakMark := rfl
@[simp] theorem beginBurst_fs_prefetchMinMark (o : Owner) (n : Nat) (b : Bool) (s : State) : (beginBurst o n b s).fs.prefetchMinMark = s.fs.prefetchMinMark := rfl
@[simp] theorem beginBurst_fs_framePeak (o : Owner) (n : Nat) (b : Bool) (s : State) : (beginBurst o n b s).fs.framePeak = s.fs.framePeak := rfl
@[simp] theorem beginBurst_fs_frameMinimum (o : Owner) (n : Nat) (b : Bool) (s : State) : (beginBurst o n b s).fs.frameMinimum = s.fs.frameMinimum := rfl
@[simp] theorem beginBurst_fs_memory (o : Owner) (n : Nat) (b : Bool) (s : State) : (beginBurst o n b s).fs.memory = s.fs.memory := rfl
@[simp] theorem beginBurst_fs_parity (o : Owner) (n : Nat) (b : Bool) (s : State) : (beginBurst o n b s).fs.parity = s.fs.parity := rfl
@[simp] theorem beginBurst_fs_lineLast (o : Owner) (n : Nat) (b : Bool) (s : State) : (beginBurst o n b s).fs.lineLast = s.fs.lineLast := rfl
@[simp] theorem beginBurst_svp (o : Owner) (n : Nat) (b : Bool) (s : State) : (beginBurst o n b s).svp = s.svp := rfl
@[simp] theorem beginBurst_counters (o : Owner) (n : Nat) (b : Bool) (s : State) : (beginBurst o n b s).counters = s.counters := rfl

/-! ### The arbiter leaves alone -/
@[simp] theorem arbitrate_pending (s : State) : (arbitrate s).pending = s.pending := by rw [arbitrate_frame]
@[simp] theorem arbitrate_now (s : State) : (arbitrate s).now = s.now := by rw [arbitrate_frame]
@[simp] theorem arbitrate_rstnLow (s : State) : (arbitrate s).rstnLow = s.rstnLow := by rw [arbitrate_frame]
@[simp] theorem arbitrate_sc (s : State) : (arbitrate s).sc = s.sc := by rw [arbitrate_frame]
@[simp] theorem arbitrate_mt (s : State) : (arbitrate s).mt = s.mt := by rw [arbitrate_frame]
@[simp] theorem arbitrate_slc (s : State) : (arbitrate s).slc = s.slc := by rw [arbitrate_frame]
@[simp] theorem arbitrate_pt (s : State) : (arbitrate s).pt = s.pt := by rw [arbitrate_frame]
@[simp] theorem arbitrate_cu (s : State) : (arbitrate s).cu = s.cu := by rw [arbitrate_frame]
@[simp] theorem arbitrate_swu (s : State) : (arbitrate s).swu = s.swu := by rw [arbitrate_frame]
@[simp] theorem arbitrate_we (s : State) : (arbitrate s).we = s.we := by rw [arbitrate_frame]
@[simp] theorem arbitrate_wbp (s : State) : (arbitrate s).wbp = s.wbp := by rw [arbitrate_frame]
@[simp] theorem arbitrate_ls (s : State) : (arbitrate s).ls = s.ls := by rw [arbitrate_frame]
@[simp] theorem arbitrate_fs_slots (s : State) : (arbitrate s).fs.slots = s.fs.slots := by rw [arbitrate_frame]
@[simp] theorem arbitrate_fs_port (s : State) : (arbitrate s).fs.port = s.fs.port := by rw [arbitrate_frame]
@[simp] theorem arbitrate_fs_lineCount (s : State) : (arbitrate s).fs.lineCount = s.fs.lineCount := by rw [arbitrate_frame]
@[simp] theorem arbitrate_fs_linePixels (s : State) : (arbitrate s).fs.linePixels = s.fs.linePixels := by rw [arbitrate_frame]
@[simp] theorem arbitrate_fs_damaged (s : State) : (arbitrate s).fs.damaged = s.fs.damaged := by rw [arbitrate_frame]
@[simp] theorem arbitrate_fs_trailer (s : State) : (arbitrate s).fs.trailer = s.fs.trailer := by rw [arbitrate_frame]
@[simp] theorem arbitrate_fs_lossStart (s : State) : (arbitrate s).fs.lossStart = s.fs.lossStart := by rw [arbitrate_frame]
@[simp] theorem arbitrate_fs_lost (s : State) : (arbitrate s).fs.lost = s.fs.lost := by rw [arbitrate_frame]
@[simp] theorem arbitrate_fs_fifo (s : State) : (arbitrate s).fs.fifo = s.fs.fifo := by rw [arbitrate_frame]
@[simp] theorem arbitrate_fs_sequence (s : State) : (arbitrate s).fs.sequence = s.fs.sequence := by rw [arbitrate_frame]
@[simp] theorem arbitrate_fs_prefetch (s : State) : (arbitrate s).fs.prefetch = s.fs.prefetch := by rw [arbitrate_frame]
@[simp] theorem arbitrate_fs_trap (s : State) : (arbitrate s).fs.trap = s.fs.trap := by rw [arbitrate_frame]
@[simp] theorem arbitrate_fs_fifoPeakMark (s : State) : (arbitrate s).fs.fifoPeakMark = s.fs.fifoPeakMark := by rw [arbitrate_frame]
@[simp] theorem arbitrate_fs_prefetchMinMark (s : State) : (arbitrate s).fs.prefetchMinMark = s.fs.prefetchMinMark := by rw [arbitrate_frame]
@[simp] theorem arbitrate_fs_framePeak (s : State) : (arbitrate s).fs.framePeak = s.fs.framePeak := by rw [arbitrate_frame]
@[simp] theorem arbitrate_fs_frameMinimum (s : State) : (arbitrate s).fs.frameMinimum = s.fs.frameMinimum := by rw [arbitrate_frame]
@[simp] theorem arbitrate_fs_memory (s : State) : (arbitrate s).fs.memory = s.fs.memory := by rw [arbitrate_frame]
@[simp] theorem arbitrate_fs_parity (s : State) : (arbitrate s).fs.parity = s.fs.parity := by rw [arbitrate_frame]
@[simp] theorem arbitrate_fs_lineLast (s : State) : (arbitrate s).fs.lineLast = s.fs.lineLast := by rw [arbitrate_frame]
@[simp] theorem arbitrate_svp (s : State) : (arbitrate s).svp = s.svp := by rw [arbitrate_frame]
@[simp] theorem arbitrate_counters (s : State) : (arbitrate s).counters = s.counters := by rw [arbitrate_frame]

/-! ### The end of the reader's turn leaves alone -/
@[simp] theorem endReaderTurn_pending (s : State) : (endReaderTurn s).pending = s.pending := rfl
@[simp] theorem endReaderTurn_now (s : State) : (endReaderTurn s).now = s.now := rfl
@[simp] theorem endReaderTurn_rstnLow (s : State) : (endReaderTurn s).rstnLow = s.rstnLow := rfl
@[simp] theorem endReaderTurn_sc (s : State) : (endReaderTurn s).sc = s.sc := rfl
@[simp] theorem endReaderTurn_mt (s : State) : (endReaderTurn s).mt = s.mt := rfl
@[simp] theorem endReaderTurn_slc (s : State) : (endReaderTurn s).slc = s.slc := rfl
@[simp] theorem endReaderTurn_pt (s : State) : (endReaderTurn s).pt = s.pt := rfl
@[simp] theorem endReaderTurn_cu (s : State) : (endReaderTurn s).cu = s.cu := rfl
@[simp] theorem endReaderTurn_swu (s : State) : (endReaderTurn s).swu = s.swu := rfl
@[simp] theorem endReaderTurn_we (s : State) : (endReaderTurn s).we = s.we := rfl
@[simp] theorem endReaderTurn_wbp (s : State) : (endReaderTurn s).wbp = s.wbp := rfl
@[simp] theorem endReaderTurn_ls (s : State) : (endReaderTurn s).ls = s.ls := rfl
@[simp] theorem endReaderTurn_fs_slots (s : State) : (endReaderTurn s).fs.slots = s.fs.slots := rfl
@[simp] theorem endReaderTurn_fs_port (s : State) : (endReaderTurn s).fs.port = s.fs.port := rfl
@[simp] theorem endReaderTurn_fs_lineCount (s : State) : (endReaderTurn s).fs.lineCount = s.fs.lineCount := rfl
@[simp] theorem endReaderTurn_fs_linePixels (s : State) : (endReaderTurn s).fs.linePixels = s.fs.linePixels := rfl
@[simp] theorem endReaderTurn_fs_damaged (s : State) : (endReaderTurn s).fs.damaged = s.fs.damaged := rfl
@[simp] theorem endReaderTurn_fs_trailer (s : State) : (endReaderTurn s).fs.trailer = s.fs.trailer := rfl
@[simp] theorem endReaderTurn_fs_lossStart (s : State) : (endReaderTurn s).fs.lossStart = s.fs.lossStart := rfl
@[simp] theorem endReaderTurn_fs_lost (s : State) : (endReaderTurn s).fs.lost = s.fs.lost := rfl
@[simp] theorem endReaderTurn_fs_fifo (s : State) : (endReaderTurn s).fs.fifo = s.fs.fifo := rfl
@[simp] theorem endReaderTurn_fs_sequence (s : State) : (endReaderTurn s).fs.sequence = s.fs.sequence := rfl
@[simp] theorem endReaderTurn_fs_prefetch (s : State) : (endReaderTurn s).fs.prefetch = s.fs.prefetch := rfl
@[simp] theorem endReaderTurn_fs_trap (s : State) : (endReaderTurn s).fs.trap = s.fs.trap := rfl
@[simp] theorem endReaderTurn_fs_fifoPeakMark (s : State) : (endReaderTurn s).fs.fifoPeakMark = s.fs.fifoPeakMark := rfl
@[simp] theorem endReaderTurn_fs_prefetchMinMark (s : State) : (endReaderTurn s).fs.prefetchMinMark = s.fs.prefetchMinMark := rfl
@[simp] theorem endReaderTurn_fs_framePeak (s : State) : (endReaderTurn s).fs.framePeak = s.fs.framePeak := rfl
@[simp] theorem endReaderTurn_fs_frameMinimum (s : State) : (endReaderTurn s).fs.frameMinimum = s.fs.frameMinimum := rfl
@[simp] theorem endReaderTurn_fs_memory (s : State) : (endReaderTurn s).fs.memory = s.fs.memory := rfl
@[simp] theorem endReaderTurn_fs_parity (s : State) : (endReaderTurn s).fs.parity = s.fs.parity := rfl
@[simp] theorem endReaderTurn_fs_lineLast (s : State) : (endReaderTurn s).fs.lineLast = s.fs.lineLast := rfl
@[simp] theorem endReaderTurn_svp (s : State) : (endReaderTurn s).svp = s.svp := rfl
@[simp] theorem endReaderTurn_counters (s : State) : (endReaderTurn s).counters = s.counters := rfl

/-! ### The end of a burst leaves alone -/
@[simp] theorem endBurst_pending (s : State) : (endBurst s).pending = s.pending := by rw [endBurst_frame]
@[simp] theorem endBurst_now (s : State) : (endBurst s).now = s.now := by rw [endBurst_frame]
@[simp] theorem endBurst_rstnLow (s : State) : (endBurst s).rstnLow = s.rstnLow := by rw [endBurst_frame]
@[simp] theorem endBurst_sc (s : State) : (endBurst s).sc = s.sc := by rw [endBurst_frame]
@[simp] theorem endBurst_mt (s : State) : (endBurst s).mt = s.mt := by rw [endBurst_frame]
@[simp] theorem endBurst_slc (s : State) : (endBurst s).slc = s.slc := by rw [endBurst_frame]
@[simp] theorem endBurst_pt (s : State) : (endBurst s).pt = s.pt := by rw [endBurst_frame]
@[simp] theorem endBurst_cu (s : State) : (endBurst s).cu = s.cu := by rw [endBurst_frame]
@[simp] theorem endBurst_swu (s : State) : (endBurst s).swu = s.swu := by rw [endBurst_frame]
@[simp] theorem endBurst_we (s : State) : (endBurst s).we = s.we := by rw [endBurst_frame]
@[simp] theorem endBurst_wbp_mode (s : State) : (endBurst s).wbp.mode = s.wbp.mode := by rw [endBurst_frame]
@[simp] theorem endBurst_wbp_frameSlot (s : State) : (endBurst s).wbp.frameSlot = s.wbp.frameSlot := by rw [endBurst_frame]
@[simp] theorem endBurst_wbp_position (s : State) : (endBurst s).wbp.position = s.wbp.position := by rw [endBurst_frame]
@[simp] theorem endBurst_wbp_underrun (s : State) : (endBurst s).wbp.underrun = s.wbp.underrun := by rw [endBurst_frame]
@[simp] theorem endBurst_wbp_frameAt (s : State) : (endBurst s).wbp.frameAt = s.wbp.frameAt := by rw [endBurst_frame]
@[simp] theorem endBurst_wbp_inFlight (s : State) : (endBurst s).wbp.inFlight = s.wbp.inFlight := by rw [endBurst_frame]
@[simp] theorem endBurst_ls (s : State) : (endBurst s).ls = s.ls := by rw [endBurst_frame]
@[simp] theorem endBurst_fs_slots (s : State) : (endBurst s).fs.slots = s.fs.slots := by rw [endBurst_frame]
@[simp] theorem endBurst_fs_port (s : State) : (endBurst s).fs.port = s.fs.port := by rw [endBurst_frame]
@[simp] theorem endBurst_fs_lineCount (s : State) : (endBurst s).fs.lineCount = s.fs.lineCount := by rw [endBurst_frame]
@[simp] theorem endBurst_fs_linePixels (s : State) : (endBurst s).fs.linePixels = s.fs.linePixels := by rw [endBurst_frame]
@[simp] theorem endBurst_fs_damaged (s : State) : (endBurst s).fs.damaged = s.fs.damaged := by rw [endBurst_frame]
@[simp] theorem endBurst_fs_trailer (s : State) : (endBurst s).fs.trailer = s.fs.trailer := by rw [endBurst_frame]
@[simp] theorem endBurst_fs_lossStart (s : State) : (endBurst s).fs.lossStart = s.fs.lossStart := by rw [endBurst_frame]
@[simp] theorem endBurst_fs_lost (s : State) : (endBurst s).fs.lost = s.fs.lost := by rw [endBurst_frame]
@[simp] theorem endBurst_fs_fifo (s : State) : (endBurst s).fs.fifo = s.fs.fifo := by rw [endBurst_frame]
@[simp] theorem endBurst_fs_prefetch (s : State) : (endBurst s).fs.prefetch = s.fs.prefetch := by rw [endBurst_frame]
@[simp] theorem endBurst_fs_trap (s : State) : (endBurst s).fs.trap = s.fs.trap := by rw [endBurst_frame]
@[simp] theorem endBurst_fs_fifoPeakMark (s : State) : (endBurst s).fs.fifoPeakMark = s.fs.fifoPeakMark := by rw [endBurst_frame]
@[simp] theorem endBurst_fs_prefetchMinMark (s : State) : (endBurst s).fs.prefetchMinMark = s.fs.prefetchMinMark := by rw [endBurst_frame]
@[simp] theorem endBurst_fs_framePeak (s : State) : (endBurst s).fs.framePeak = s.fs.framePeak := by rw [endBurst_frame]
@[simp] theorem endBurst_fs_frameMinimum (s : State) : (endBurst s).fs.frameMinimum = s.fs.frameMinimum := by rw [endBurst_frame]
@[simp] theorem endBurst_fs_memory (s : State) : (endBurst s).fs.memory = s.fs.memory := by rw [endBurst_frame]
@[simp] theorem endBurst_fs_parity (s : State) : (endBurst s).fs.parity = s.fs.parity := by rw [endBurst_frame]
@[simp] theorem endBurst_fs_lineLast (s : State) : (endBurst s).fs.lineLast = s.fs.lineLast := by rw [endBurst_frame]
@[simp] theorem endBurst_svp (s : State) : (endBurst s).svp = s.svp := by rw [endBurst_frame]
@[simp] theorem endBurst_counters (s : State) : (endBurst s).counters = s.counters := by rw [endBurst_frame]

/-! ### Settling the store leaves alone -/
@[simp] theorem settleStore_pending (s : State) : (settleStore s).pending = s.pending := by rw [settleStore_frame]
@[simp] theorem settleStore_now (s : State) : (settleStore s).now = s.now := by rw [settleStore_frame]
@[simp] theorem settleStore_rstnLow (s : State) : (settleStore s).rstnLow = s.rstnLow := by rw [settleStore_frame]
@[simp] theorem settleStore_sc (s : State) : (settleStore s).sc = s.sc := by rw [settleStore_frame]
@[simp] theorem settleStore_mt (s : State) : (settleStore s).mt = s.mt := by rw [settleStore_frame]
@[simp] theorem settleStore_slc (s : State) : (settleStore s).slc = s.slc := by rw [settleStore_frame]
@[simp] theorem settleStore_pt (s : State) : (settleStore s).pt = s.pt := by rw [settleStore_frame]
@[simp] theorem settleStore_cu (s : State) : (settleStore s).cu = s.cu := by rw [settleStore_frame]
@[simp] theorem settleStore_swu (s : State) : (settleStore s).swu = s.swu := by rw [settleStore_frame]
@[simp] theorem settleStore_we (s : State) : (settleStore s).we = s.we := by rw [settleStore_frame]
@[simp] theorem settleStore_wbp_mode (s : State) : (settleStore s).wbp.mode = s.wbp.mode := by rw [settleStore_frame]
@[simp] theorem settleStore_wbp_frameSlot (s : State) : (settleStore s).wbp.frameSlot = s.wbp.frameSlot := by rw [settleStore_frame]
@[simp] theorem settleStore_wbp_position (s : State) : (settleStore s).wbp.position = s.wbp.position := by rw [settleStore_frame]
@[simp] theorem settleStore_wbp_underrun (s : State) : (settleStore s).wbp.underrun = s.wbp.underrun := by rw [settleStore_frame]
@[simp] theorem settleStore_wbp_frameAt (s : State) : (settleStore s).wbp.frameAt = s.wbp.frameAt := by rw [settleStore_frame]
@[simp] theorem settleStore_wbp_inFlight (s : State) : (settleStore s).wbp.inFlight = s.wbp.inFlight := by rw [settleStore_frame]
@[simp] theorem settleStore_ls (s : State) : (settleStore s).ls = s.ls := by rw [settleStore_frame]
@[simp] theorem settleStore_fs_slots (s : State) : (settleStore s).fs.slots = s.fs.slots := by rw [settleStore_frame]
@[simp] theorem settleStore_fs_port (s : State) : (settleStore s).fs.port = s.fs.port := by rw [settleStore_frame]
@[simp] theorem settleStore_fs_lineCount (s : State) : (settleStore s).fs.lineCount = s.fs.lineCount := by rw [settleStore_frame]
@[simp] theorem settleStore_fs_linePixels (s : State) : (settleStore s).fs.linePixels = s.fs.linePixels := by rw [settleStore_frame]
@[simp] theorem settleStore_fs_damaged (s : State) : (settleStore s).fs.damaged = s.fs.damaged := by rw [settleStore_frame]
@[simp] theorem settleStore_fs_trailer (s : State) : (settleStore s).fs.trailer = s.fs.trailer := by rw [settleStore_frame]
@[simp] theorem settleStore_fs_lossStart (s : State) : (settleStore s).fs.lossStart = s.fs.lossStart := by rw [settleStore_frame]
@[simp] theorem settleStore_fs_lost (s : State) : (settleStore s).fs.lost = s.fs.lost := by rw [settleStore_frame]
@[simp] theorem settleStore_fs_fifo (s : State) : (settleStore s).fs.fifo = s.fs.fifo := by rw [settleStore_frame]
@[simp] theorem settleStore_fs_prefetch (s : State) : (settleStore s).fs.prefetch = s.fs.prefetch := by rw [settleStore_frame]
@[simp] theorem settleStore_fs_trap (s : State) : (settleStore s).fs.trap = s.fs.trap := by rw [settleStore_frame]
@[simp] theorem settleStore_fs_fifoPeakMark (s : State) : (settleStore s).fs.fifoPeakMark = s.fs.fifoPeakMark := by rw [settleStore_frame]
@[simp] theorem settleStore_fs_prefetchMinMark (s : State) : (settleStore s).fs.prefetchMinMark = s.fs.prefetchMinMark := by rw [settleStore_frame]
@[simp] theorem settleStore_fs_framePeak (s : State) : (settleStore s).fs.framePeak = s.fs.framePeak := by rw [settleStore_frame]
@[simp] theorem settleStore_fs_frameMinimum (s : State) : (settleStore s).fs.frameMinimum = s.fs.frameMinimum := by rw [settleStore_frame]
@[simp] theorem settleStore_fs_memory (s : State) : (settleStore s).fs.memory = s.fs.memory := by rw [settleStore_frame]
@[simp] theorem settleStore_fs_parity (s : State) : (settleStore s).fs.parity = s.fs.parity := by rw [settleStore_frame]
@[simp] theorem settleStore_fs_lineLast (s : State) : (settleStore s).fs.lineLast = s.fs.lineLast := by rw [settleStore_frame]
@[simp] theorem settleStore_svp (s : State) : (settleStore s).svp = s.svp := by rw [settleStore_frame]
@[simp] theorem settleStore_counters (s : State) : (settleStore s).counters = s.counters := by rw [settleStore_frame]

/-! ### Turning BLACK leaves alone -/
@[simp] theorem turnBlack_pending (s : State) : (turnBlack s).pending = s.pending := by rw [turnBlack_frame]
@[simp] theorem turnBlack_now (s : State) : (turnBlack s).now = s.now := by rw [turnBlack_frame]
@[simp] theorem turnBlack_rstnLow (s : State) : (turnBlack s).rstnLow = s.rstnLow := by rw [turnBlack_frame]
@[simp] theorem turnBlack_sc (s : State) : (turnBlack s).sc = s.sc := by rw [turnBlack_frame]
@[simp] theorem turnBlack_mt (s : State) : (turnBlack s).mt = s.mt := by rw [turnBlack_frame]
@[simp] theorem turnBlack_slc (s : State) : (turnBlack s).slc = s.slc := by rw [turnBlack_frame]
@[simp] theorem turnBlack_pt (s : State) : (turnBlack s).pt = s.pt := by rw [turnBlack_frame]
@[simp] theorem turnBlack_cu (s : State) : (turnBlack s).cu = s.cu := by rw [turnBlack_frame]
@[simp] theorem turnBlack_swu (s : State) : (turnBlack s).swu = s.swu := by rw [turnBlack_frame]
@[simp] theorem turnBlack_we (s : State) : (turnBlack s).we = s.we := by rw [turnBlack_frame]
@[simp] theorem turnBlack_wbp_frameSlot (s : State) : (turnBlack s).wbp.frameSlot = s.wbp.frameSlot := by rw [turnBlack_frame]
@[simp] theorem turnBlack_wbp_position (s : State) : (turnBlack s).wbp.position = s.wbp.position := by rw [turnBlack_frame]
@[simp] theorem turnBlack_wbp_underrun (s : State) : (turnBlack s).wbp.underrun = s.wbp.underrun := by rw [turnBlack_frame]
@[simp] theorem turnBlack_wbp_frameAt (s : State) : (turnBlack s).wbp.frameAt = s.wbp.frameAt := by rw [turnBlack_frame]
@[simp] theorem turnBlack_wbp_nextLine (s : State) : (turnBlack s).wbp.nextLine = s.wbp.nextLine := by rw [turnBlack_frame]
@[simp] theorem turnBlack_wbp_inFlight (s : State) : (turnBlack s).wbp.inFlight = s.wbp.inFlight := by rw [turnBlack_frame]
@[simp] theorem turnBlack_ls (s : State) : (turnBlack s).ls = s.ls := by rw [turnBlack_frame]
@[simp] theorem turnBlack_fs_slots (s : State) : (turnBlack s).fs.slots = s.fs.slots := by rw [turnBlack_frame]
@[simp] theorem turnBlack_fs_port (s : State) : (turnBlack s).fs.port = s.fs.port := by rw [turnBlack_frame]
@[simp] theorem turnBlack_fs_lineCount (s : State) : (turnBlack s).fs.lineCount = s.fs.lineCount := by rw [turnBlack_frame]
@[simp] theorem turnBlack_fs_linePixels (s : State) : (turnBlack s).fs.linePixels = s.fs.linePixels := by rw [turnBlack_frame]
@[simp] theorem turnBlack_fs_damaged (s : State) : (turnBlack s).fs.damaged = s.fs.damaged := by rw [turnBlack_frame]
@[simp] theorem turnBlack_fs_trailer (s : State) : (turnBlack s).fs.trailer = s.fs.trailer := by rw [turnBlack_frame]
@[simp] theorem turnBlack_fs_lossStart (s : State) : (turnBlack s).fs.lossStart = s.fs.lossStart := by rw [turnBlack_frame]
@[simp] theorem turnBlack_fs_lost (s : State) : (turnBlack s).fs.lost = s.fs.lost := by rw [turnBlack_frame]
@[simp] theorem turnBlack_fs_fifo (s : State) : (turnBlack s).fs.fifo = s.fs.fifo := by rw [turnBlack_frame]
@[simp] theorem turnBlack_fs_trap (s : State) : (turnBlack s).fs.trap = s.fs.trap := by rw [turnBlack_frame]
@[simp] theorem turnBlack_fs_fifoPeakMark (s : State) : (turnBlack s).fs.fifoPeakMark = s.fs.fifoPeakMark := by rw [turnBlack_frame]
@[simp] theorem turnBlack_fs_prefetchMinMark (s : State) : (turnBlack s).fs.prefetchMinMark = s.fs.prefetchMinMark := by rw [turnBlack_frame]
@[simp] theorem turnBlack_fs_framePeak (s : State) : (turnBlack s).fs.framePeak = s.fs.framePeak := by rw [turnBlack_frame]
@[simp] theorem turnBlack_fs_frameMinimum (s : State) : (turnBlack s).fs.frameMinimum = s.fs.frameMinimum := by rw [turnBlack_frame]
@[simp] theorem turnBlack_fs_memory (s : State) : (turnBlack s).fs.memory = s.fs.memory := by rw [turnBlack_frame]
@[simp] theorem turnBlack_fs_parity (s : State) : (turnBlack s).fs.parity = s.fs.parity := by rw [turnBlack_frame]
@[simp] theorem turnBlack_fs_lineLast (s : State) : (turnBlack s).fs.lineLast = s.fs.lineLast := by rw [turnBlack_frame]
@[simp] theorem turnBlack_svp (s : State) : (turnBlack s).svp = s.svp := by rw [turnBlack_frame]
@[simp] theorem turnBlack_counters (s : State) : (turnBlack s).counters = s.counters := by rw [turnBlack_frame]

/-! ### A state change leaves alone -/
@[simp] theorem setState_pending (st : ShowState) (s : State) : (setState st s).pending = s.pending := by rw [setState_frame]
@[simp] theorem setState_now (st : ShowState) (s : State) : (setState st s).now = s.now := by rw [setState_frame]
@[simp] theorem setState_rstnLow (st : ShowState) (s : State) : (setState st s).rstnLow = s.rstnLow := by rw [setState_frame]
@[simp] theorem setState_sc_profile (st : ShowState) (s : State) : (setState st s).sc.profile = s.sc.profile := by rw [setState_frame]
@[simp] theorem setState_sc_profileValid (st : ShowState) (s : State) : (setState st s).sc.profileValid = s.sc.profileValid := by rw [setState_frame]
@[simp] theorem setState_sc_domeTag (st : ShowState) (s : State) : (setState st s).sc.domeTag = s.sc.domeTag := by rw [setState_frame]
@[simp] theorem setState_sc_clamped (st : ShowState) (s : State) : (setState st s).sc.clamped = s.sc.clamped := by rw [setState_frame]
@[simp] theorem setState_sc_firstClamped (st : ShowState) (s : State) : (setState st s).sc.firstClamped = s.sc.firstClamped := by rw [setState_frame]
@[simp] theorem setState_sc_joinCount (st : ShowState) (s : State) : (setState st s).sc.joinCount = s.sc.joinCount := by rw [setState_frame]
@[simp] theorem setState_sc_lockTimeoutCount (st : ShowState) (s : State) : (setState st s).sc.lockTimeoutCount = s.sc.lockTimeoutCount := by rw [setState_frame]
@[simp] theorem setState_sc_lockWaived (st : ShowState) (s : State) : (setState st s).sc.lockWaived = s.sc.lockWaived := by rw [setState_frame]
@[simp] theorem setState_sc_leftJoining (st : ShowState) (s : State) : (setState st s).sc.leftJoining = s.sc.leftJoining := by rw [setState_frame]
@[simp] theorem setState_sc_lastResult (st : ShowState) (s : State) : (setState st s).sc.lastResult = s.sc.lastResult := by rw [setState_frame]
@[simp] theorem setState_sc_lastIndex (st : ShowState) (s : State) : (setState st s).sc.lastIndex = s.sc.lastIndex := by rw [setState_frame]
@[simp] theorem setState_mt (st : ShowState) (s : State) : (setState st s).mt = s.mt := by rw [setState_frame]
@[simp] theorem setState_slc (st : ShowState) (s : State) : (setState st s).slc = s.slc := by rw [setState_frame]
@[simp] theorem setState_pt (st : ShowState) (s : State) : (setState st s).pt = s.pt := by rw [setState_frame]
@[simp] theorem setState_cu (st : ShowState) (s : State) : (setState st s).cu = s.cu := by rw [setState_frame]
@[simp] theorem setState_swu (st : ShowState) (s : State) : (setState st s).swu = s.swu := by rw [setState_frame]
@[simp] theorem setState_we (st : ShowState) (s : State) : (setState st s).we = s.we := by rw [setState_frame]
@[simp] theorem setState_wbp_frameSlot (st : ShowState) (s : State) : (setState st s).wbp.frameSlot = s.wbp.frameSlot := by rw [setState_frame]
@[simp] theorem setState_wbp_position (st : ShowState) (s : State) : (setState st s).wbp.position = s.wbp.position := by rw [setState_frame]
@[simp] theorem setState_wbp_underrun (st : ShowState) (s : State) : (setState st s).wbp.underrun = s.wbp.underrun := by rw [setState_frame]
@[simp] theorem setState_wbp_frameAt (st : ShowState) (s : State) : (setState st s).wbp.frameAt = s.wbp.frameAt := by rw [setState_frame]
@[simp] theorem setState_wbp_nextLine (st : ShowState) (s : State) : (setState st s).wbp.nextLine = s.wbp.nextLine := by rw [setState_frame]
@[simp] theorem setState_wbp_inFlight (st : ShowState) (s : State) : (setState st s).wbp.inFlight = s.wbp.inFlight := by rw [setState_frame]
@[simp] theorem setState_ls (st : ShowState) (s : State) : (setState st s).ls = s.ls := by rw [setState_frame]
@[simp] theorem setState_fs_slots (st : ShowState) (s : State) : (setState st s).fs.slots = s.fs.slots := by rw [setState_frame]
@[simp] theorem setState_fs_port (st : ShowState) (s : State) : (setState st s).fs.port = s.fs.port := by rw [setState_frame]
@[simp] theorem setState_fs_lineCount (st : ShowState) (s : State) : (setState st s).fs.lineCount = s.fs.lineCount := by rw [setState_frame]
@[simp] theorem setState_fs_linePixels (st : ShowState) (s : State) : (setState st s).fs.linePixels = s.fs.linePixels := by rw [setState_frame]
@[simp] theorem setState_fs_damaged (st : ShowState) (s : State) : (setState st s).fs.damaged = s.fs.damaged := by rw [setState_frame]
@[simp] theorem setState_fs_trailer (st : ShowState) (s : State) : (setState st s).fs.trailer = s.fs.trailer := by rw [setState_frame]
@[simp] theorem setState_fs_lossStart (st : ShowState) (s : State) : (setState st s).fs.lossStart = s.fs.lossStart := by rw [setState_frame]
@[simp] theorem setState_fs_lost (st : ShowState) (s : State) : (setState st s).fs.lost = s.fs.lost := by rw [setState_frame]
@[simp] theorem setState_fs_fifo (st : ShowState) (s : State) : (setState st s).fs.fifo = s.fs.fifo := by rw [setState_frame]
@[simp] theorem setState_fs_trap (st : ShowState) (s : State) : (setState st s).fs.trap = s.fs.trap := by rw [setState_frame]
@[simp] theorem setState_fs_fifoPeakMark (st : ShowState) (s : State) : (setState st s).fs.fifoPeakMark = s.fs.fifoPeakMark := by rw [setState_frame]
@[simp] theorem setState_fs_prefetchMinMark (st : ShowState) (s : State) : (setState st s).fs.prefetchMinMark = s.fs.prefetchMinMark := by rw [setState_frame]
@[simp] theorem setState_fs_framePeak (st : ShowState) (s : State) : (setState st s).fs.framePeak = s.fs.framePeak := by rw [setState_frame]
@[simp] theorem setState_fs_frameMinimum (st : ShowState) (s : State) : (setState st s).fs.frameMinimum = s.fs.frameMinimum := by rw [setState_frame]
@[simp] theorem setState_fs_memory (st : ShowState) (s : State) : (setState st s).fs.memory = s.fs.memory := by rw [setState_frame]
@[simp] theorem setState_fs_parity (st : ShowState) (s : State) : (setState st s).fs.parity = s.fs.parity := by rw [setState_frame]
@[simp] theorem setState_fs_lineLast (st : ShowState) (s : State) : (setState st s).fs.lineLast = s.fs.lineLast := by rw [setState_frame]
@[simp] theorem setState_svp_transaction (st : ShowState) (s : State) : (setState st s).svp.transaction = s.svp.transaction := by rw [setState_frame]
@[simp] theorem setState_svp_rise (st : ShowState) (s : State) : (setState st s).svp.rise = s.svp.rise := by rw [setState_frame]
@[simp] theorem setState_svp_received (st : ShowState) (s : State) : (setState st s).svp.received = s.svp.received := by rw [setState_frame]
@[simp] theorem setState_svp_shiftOut (st : ShowState) (s : State) : (setState st s).svp.shiftOut = s.svp.shiftOut := by rw [setState_frame]
@[simp] theorem setState_counters (st : ShowState) (s : State) : (setState st s).counters = s.counters := by rw [setState_frame]

/-! ### The JOINING test leaves alone -/
@[simp] theorem joiningTest_pending (s : State) : (joiningTest s).pending = s.pending := by rw [joiningTest_frame]
@[simp] theorem joiningTest_now (s : State) : (joiningTest s).now = s.now := by rw [joiningTest_frame]
@[simp] theorem joiningTest_rstnLow (s : State) : (joiningTest s).rstnLow = s.rstnLow := by rw [joiningTest_frame]
@[simp] theorem joiningTest_sc_profile (s : State) : (joiningTest s).sc.profile = s.sc.profile := by rw [joiningTest_frame]
@[simp] theorem joiningTest_sc_profileValid (s : State) : (joiningTest s).sc.profileValid = s.sc.profileValid := by rw [joiningTest_frame]
@[simp] theorem joiningTest_sc_domeTag (s : State) : (joiningTest s).sc.domeTag = s.sc.domeTag := by rw [joiningTest_frame]
@[simp] theorem joiningTest_sc_clamped (s : State) : (joiningTest s).sc.clamped = s.sc.clamped := by rw [joiningTest_frame]
@[simp] theorem joiningTest_sc_firstClamped (s : State) : (joiningTest s).sc.firstClamped = s.sc.firstClamped := by rw [joiningTest_frame]
@[simp] theorem joiningTest_sc_joinCount (s : State) : (joiningTest s).sc.joinCount = s.sc.joinCount := by rw [joiningTest_frame]
@[simp] theorem joiningTest_sc_lockTimeoutCount (s : State) : (joiningTest s).sc.lockTimeoutCount = s.sc.lockTimeoutCount := by rw [joiningTest_frame]
@[simp] theorem joiningTest_sc_lockWaived (s : State) : (joiningTest s).sc.lockWaived = s.sc.lockWaived := by rw [joiningTest_frame]
@[simp] theorem joiningTest_sc_lastResult (s : State) : (joiningTest s).sc.lastResult = s.sc.lastResult := by rw [joiningTest_frame]
@[simp] theorem joiningTest_sc_lastIndex (s : State) : (joiningTest s).sc.lastIndex = s.sc.lastIndex := by rw [joiningTest_frame]
@[simp] theorem joiningTest_mt (s : State) : (joiningTest s).mt = s.mt := by rw [joiningTest_frame]
@[simp] theorem joiningTest_slc (s : State) : (joiningTest s).slc = s.slc := by rw [joiningTest_frame]
@[simp] theorem joiningTest_pt (s : State) : (joiningTest s).pt = s.pt := by rw [joiningTest_frame]
@[simp] theorem joiningTest_cu (s : State) : (joiningTest s).cu = s.cu := by rw [joiningTest_frame]
@[simp] theorem joiningTest_swu (s : State) : (joiningTest s).swu = s.swu := by rw [joiningTest_frame]
@[simp] theorem joiningTest_we (s : State) : (joiningTest s).we = s.we := by rw [joiningTest_frame]
@[simp] theorem joiningTest_wbp_frameSlot (s : State) : (joiningTest s).wbp.frameSlot = s.wbp.frameSlot := by rw [joiningTest_frame]
@[simp] theorem joiningTest_wbp_position (s : State) : (joiningTest s).wbp.position = s.wbp.position := by rw [joiningTest_frame]
@[simp] theorem joiningTest_wbp_underrun (s : State) : (joiningTest s).wbp.underrun = s.wbp.underrun := by rw [joiningTest_frame]
@[simp] theorem joiningTest_wbp_frameAt (s : State) : (joiningTest s).wbp.frameAt = s.wbp.frameAt := by rw [joiningTest_frame]
@[simp] theorem joiningTest_wbp_nextLine (s : State) : (joiningTest s).wbp.nextLine = s.wbp.nextLine := by rw [joiningTest_frame]
@[simp] theorem joiningTest_wbp_inFlight (s : State) : (joiningTest s).wbp.inFlight = s.wbp.inFlight := by rw [joiningTest_frame]
@[simp] theorem joiningTest_ls (s : State) : (joiningTest s).ls = s.ls := by rw [joiningTest_frame]
@[simp] theorem joiningTest_fs_slots (s : State) : (joiningTest s).fs.slots = s.fs.slots := by rw [joiningTest_frame]
@[simp] theorem joiningTest_fs_port (s : State) : (joiningTest s).fs.port = s.fs.port := by rw [joiningTest_frame]
@[simp] theorem joiningTest_fs_lineCount (s : State) : (joiningTest s).fs.lineCount = s.fs.lineCount := by rw [joiningTest_frame]
@[simp] theorem joiningTest_fs_linePixels (s : State) : (joiningTest s).fs.linePixels = s.fs.linePixels := by rw [joiningTest_frame]
@[simp] theorem joiningTest_fs_damaged (s : State) : (joiningTest s).fs.damaged = s.fs.damaged := by rw [joiningTest_frame]
@[simp] theorem joiningTest_fs_trailer (s : State) : (joiningTest s).fs.trailer = s.fs.trailer := by rw [joiningTest_frame]
@[simp] theorem joiningTest_fs_lossStart (s : State) : (joiningTest s).fs.lossStart = s.fs.lossStart := by rw [joiningTest_frame]
@[simp] theorem joiningTest_fs_lost (s : State) : (joiningTest s).fs.lost = s.fs.lost := by rw [joiningTest_frame]
@[simp] theorem joiningTest_fs_fifo (s : State) : (joiningTest s).fs.fifo = s.fs.fifo := by rw [joiningTest_frame]
@[simp] theorem joiningTest_fs_trap (s : State) : (joiningTest s).fs.trap = s.fs.trap := by rw [joiningTest_frame]
@[simp] theorem joiningTest_fs_fifoPeakMark (s : State) : (joiningTest s).fs.fifoPeakMark = s.fs.fifoPeakMark := by rw [joiningTest_frame]
@[simp] theorem joiningTest_fs_prefetchMinMark (s : State) : (joiningTest s).fs.prefetchMinMark = s.fs.prefetchMinMark := by rw [joiningTest_frame]
@[simp] theorem joiningTest_fs_framePeak (s : State) : (joiningTest s).fs.framePeak = s.fs.framePeak := by rw [joiningTest_frame]
@[simp] theorem joiningTest_fs_frameMinimum (s : State) : (joiningTest s).fs.frameMinimum = s.fs.frameMinimum := by rw [joiningTest_frame]
@[simp] theorem joiningTest_fs_memory (s : State) : (joiningTest s).fs.memory = s.fs.memory := by rw [joiningTest_frame]
@[simp] theorem joiningTest_fs_parity (s : State) : (joiningTest s).fs.parity = s.fs.parity := by rw [joiningTest_frame]
@[simp] theorem joiningTest_fs_lineLast (s : State) : (joiningTest s).fs.lineLast = s.fs.lineLast := by rw [joiningTest_frame]
@[simp] theorem joiningTest_svp_transaction (s : State) : (joiningTest s).svp.transaction = s.svp.transaction := by rw [joiningTest_frame]
@[simp] theorem joiningTest_svp_rise (s : State) : (joiningTest s).svp.rise = s.svp.rise := by rw [joiningTest_frame]
@[simp] theorem joiningTest_svp_received (s : State) : (joiningTest s).svp.received = s.svp.received := by rw [joiningTest_frame]
@[simp] theorem joiningTest_svp_shiftOut (s : State) : (joiningTest s).svp.shiftOut = s.svp.shiftOut := by rw [joiningTest_frame]
@[simp] theorem joiningTest_counters (s : State) : (joiningTest s).counters = s.counters := by rw [joiningTest_frame]

/-! ### The test on a moved lock leaves alone -/
@[simp] theorem lockTest_pending (b s : State) : (lockTest b s).pending = s.pending := by unfold lockTest; split <;> simp
@[simp] theorem lockTest_now (b s : State) : (lockTest b s).now = s.now := by unfold lockTest; split <;> simp
@[simp] theorem lockTest_rstnLow (b s : State) : (lockTest b s).rstnLow = s.rstnLow := by unfold lockTest; split <;> simp
@[simp] theorem lockTest_sc_profile (b s : State) : (lockTest b s).sc.profile = s.sc.profile := by unfold lockTest; split <;> simp
@[simp] theorem lockTest_sc_profileValid (b s : State) : (lockTest b s).sc.profileValid = s.sc.profileValid := by unfold lockTest; split <;> simp
@[simp] theorem lockTest_sc_domeTag (b s : State) : (lockTest b s).sc.domeTag = s.sc.domeTag := by unfold lockTest; split <;> simp
@[simp] theorem lockTest_sc_clamped (b s : State) : (lockTest b s).sc.clamped = s.sc.clamped := by unfold lockTest; split <;> simp
@[simp] theorem lockTest_sc_firstClamped (b s : State) : (lockTest b s).sc.firstClamped = s.sc.firstClamped := by unfold lockTest; split <;> simp
@[simp] theorem lockTest_sc_joinCount (b s : State) : (lockTest b s).sc.joinCount = s.sc.joinCount := by unfold lockTest; split <;> simp
@[simp] theorem lockTest_sc_lockTimeoutCount (b s : State) : (lockTest b s).sc.lockTimeoutCount = s.sc.lockTimeoutCount := by unfold lockTest; split <;> simp
@[simp] theorem lockTest_sc_lockWaived (b s : State) : (lockTest b s).sc.lockWaived = s.sc.lockWaived := by unfold lockTest; split <;> simp
@[simp] theorem lockTest_sc_lastResult (b s : State) : (lockTest b s).sc.lastResult = s.sc.lastResult := by unfold lockTest; split <;> simp
@[simp] theorem lockTest_sc_lastIndex (b s : State) : (lockTest b s).sc.lastIndex = s.sc.lastIndex := by unfold lockTest; split <;> simp
@[simp] theorem lockTest_mt (b s : State) : (lockTest b s).mt = s.mt := by unfold lockTest; split <;> simp
@[simp] theorem lockTest_slc (b s : State) : (lockTest b s).slc = s.slc := by unfold lockTest; split <;> simp
@[simp] theorem lockTest_pt (b s : State) : (lockTest b s).pt = s.pt := by unfold lockTest; split <;> simp
@[simp] theorem lockTest_cu (b s : State) : (lockTest b s).cu = s.cu := by unfold lockTest; split <;> simp
@[simp] theorem lockTest_swu (b s : State) : (lockTest b s).swu = s.swu := by unfold lockTest; split <;> simp
@[simp] theorem lockTest_we (b s : State) : (lockTest b s).we = s.we := by unfold lockTest; split <;> simp
@[simp] theorem lockTest_wbp_frameSlot (b s : State) : (lockTest b s).wbp.frameSlot = s.wbp.frameSlot := by unfold lockTest; split <;> simp
@[simp] theorem lockTest_wbp_position (b s : State) : (lockTest b s).wbp.position = s.wbp.position := by unfold lockTest; split <;> simp
@[simp] theorem lockTest_wbp_underrun (b s : State) : (lockTest b s).wbp.underrun = s.wbp.underrun := by unfold lockTest; split <;> simp
@[simp] theorem lockTest_wbp_frameAt (b s : State) : (lockTest b s).wbp.frameAt = s.wbp.frameAt := by unfold lockTest; split <;> simp
@[simp] theorem lockTest_wbp_nextLine (b s : State) : (lockTest b s).wbp.nextLine = s.wbp.nextLine := by unfold lockTest; split <;> simp
@[simp] theorem lockTest_wbp_inFlight (b s : State) : (lockTest b s).wbp.inFlight = s.wbp.inFlight := by unfold lockTest; split <;> simp
@[simp] theorem lockTest_ls (b s : State) : (lockTest b s).ls = s.ls := by unfold lockTest; split <;> simp
@[simp] theorem lockTest_fs_slots (b s : State) : (lockTest b s).fs.slots = s.fs.slots := by unfold lockTest; split <;> simp
@[simp] theorem lockTest_fs_port (b s : State) : (lockTest b s).fs.port = s.fs.port := by unfold lockTest; split <;> simp
@[simp] theorem lockTest_fs_lineCount (b s : State) : (lockTest b s).fs.lineCount = s.fs.lineCount := by unfold lockTest; split <;> simp
@[simp] theorem lockTest_fs_linePixels (b s : State) : (lockTest b s).fs.linePixels = s.fs.linePixels := by unfold lockTest; split <;> simp
@[simp] theorem lockTest_fs_damaged (b s : State) : (lockTest b s).fs.damaged = s.fs.damaged := by unfold lockTest; split <;> simp
@[simp] theorem lockTest_fs_trailer (b s : State) : (lockTest b s).fs.trailer = s.fs.trailer := by unfold lockTest; split <;> simp
@[simp] theorem lockTest_fs_lossStart (b s : State) : (lockTest b s).fs.lossStart = s.fs.lossStart := by unfold lockTest; split <;> simp
@[simp] theorem lockTest_fs_lost (b s : State) : (lockTest b s).fs.lost = s.fs.lost := by unfold lockTest; split <;> simp
@[simp] theorem lockTest_fs_fifo (b s : State) : (lockTest b s).fs.fifo = s.fs.fifo := by unfold lockTest; split <;> simp
@[simp] theorem lockTest_fs_trap (b s : State) : (lockTest b s).fs.trap = s.fs.trap := by unfold lockTest; split <;> simp
@[simp] theorem lockTest_fs_fifoPeakMark (b s : State) : (lockTest b s).fs.fifoPeakMark = s.fs.fifoPeakMark := by unfold lockTest; split <;> simp
@[simp] theorem lockTest_fs_prefetchMinMark (b s : State) : (lockTest b s).fs.prefetchMinMark = s.fs.prefetchMinMark := by unfold lockTest; split <;> simp
@[simp] theorem lockTest_fs_framePeak (b s : State) : (lockTest b s).fs.framePeak = s.fs.framePeak := by unfold lockTest; split <;> simp
@[simp] theorem lockTest_fs_frameMinimum (b s : State) : (lockTest b s).fs.frameMinimum = s.fs.frameMinimum := by unfold lockTest; split <;> simp
@[simp] theorem lockTest_fs_memory (b s : State) : (lockTest b s).fs.memory = s.fs.memory := by unfold lockTest; split <;> simp
@[simp] theorem lockTest_fs_parity (b s : State) : (lockTest b s).fs.parity = s.fs.parity := by unfold lockTest; split <;> simp
@[simp] theorem lockTest_fs_lineLast (b s : State) : (lockTest b s).fs.lineLast = s.fs.lineLast := by unfold lockTest; split <;> simp
@[simp] theorem lockTest_svp_transaction (b s : State) : (lockTest b s).svp.transaction = s.svp.transaction := by unfold lockTest; split <;> simp
@[simp] theorem lockTest_svp_rise (b s : State) : (lockTest b s).svp.rise = s.svp.rise := by unfold lockTest; split <;> simp
@[simp] theorem lockTest_svp_received (b s : State) : (lockTest b s).svp.received = s.svp.received := by unfold lockTest; split <;> simp
@[simp] theorem lockTest_svp_shiftOut (b s : State) : (lockTest b s).svp.shiftOut = s.svp.shiftOut := by unfold lockTest; split <;> simp
@[simp] theorem lockTest_counters (b s : State) : (lockTest b s).counters = s.counters := by unfold lockTest; split <;> simp

/-! ### A new output frame leaves alone -/
@[simp] theorem beginOutputFrame_pending (s : State) : (beginOutputFrame s).pending = s.pending := by rw [beginOutputFrame_frame]
@[simp] theorem beginOutputFrame_now (s : State) : (beginOutputFrame s).now = s.now := by rw [beginOutputFrame_frame]
@[simp] theorem beginOutputFrame_rstnLow (s : State) : (beginOutputFrame s).rstnLow = s.rstnLow := by rw [beginOutputFrame_frame]
@[simp] theorem beginOutputFrame_sc (s : State) : (beginOutputFrame s).sc = s.sc := by rw [beginOutputFrame_frame]
@[simp] theorem beginOutputFrame_mt (s : State) : (beginOutputFrame s).mt = s.mt := by rw [beginOutputFrame_frame]
@[simp] theorem beginOutputFrame_slc (s : State) : (beginOutputFrame s).slc = s.slc := by rw [beginOutputFrame_frame]
@[simp] theorem beginOutputFrame_pt (s : State) : (beginOutputFrame s).pt = s.pt := by rw [beginOutputFrame_frame]
@[simp] theorem beginOutputFrame_cu (s : State) : (beginOutputFrame s).cu = s.cu := by rw [beginOutputFrame_frame]
@[simp] theorem beginOutputFrame_swu (s : State) : (beginOutputFrame s).swu = s.swu := by rw [beginOutputFrame_frame]
@[simp] theorem beginOutputFrame_we (s : State) : (beginOutputFrame s).we = s.we := by rw [beginOutputFrame_frame]
@[simp] theorem beginOutputFrame_ls (s : State) : (beginOutputFrame s).ls = s.ls := by rw [beginOutputFrame_frame]
@[simp] theorem beginOutputFrame_fs_slots (s : State) : (beginOutputFrame s).fs.slots = s.fs.slots := by rw [beginOutputFrame_frame]
@[simp] theorem beginOutputFrame_fs_port (s : State) : (beginOutputFrame s).fs.port = s.fs.port := by rw [beginOutputFrame_frame]
@[simp] theorem beginOutputFrame_fs_lineCount (s : State) : (beginOutputFrame s).fs.lineCount = s.fs.lineCount := by rw [beginOutputFrame_frame]
@[simp] theorem beginOutputFrame_fs_linePixels (s : State) : (beginOutputFrame s).fs.linePixels = s.fs.linePixels := by rw [beginOutputFrame_frame]
@[simp] theorem beginOutputFrame_fs_damaged (s : State) : (beginOutputFrame s).fs.damaged = s.fs.damaged := by rw [beginOutputFrame_frame]
@[simp] theorem beginOutputFrame_fs_trailer (s : State) : (beginOutputFrame s).fs.trailer = s.fs.trailer := by rw [beginOutputFrame_frame]
@[simp] theorem beginOutputFrame_fs_lossStart (s : State) : (beginOutputFrame s).fs.lossStart = s.fs.lossStart := by rw [beginOutputFrame_frame]
@[simp] theorem beginOutputFrame_fs_lost (s : State) : (beginOutputFrame s).fs.lost = s.fs.lost := by rw [beginOutputFrame_frame]
@[simp] theorem beginOutputFrame_fs_fifo (s : State) : (beginOutputFrame s).fs.fifo = s.fs.fifo := by rw [beginOutputFrame_frame]
@[simp] theorem beginOutputFrame_fs_trap (s : State) : (beginOutputFrame s).fs.trap = s.fs.trap := by rw [beginOutputFrame_frame]
@[simp] theorem beginOutputFrame_fs_fifoPeakMark (s : State) : (beginOutputFrame s).fs.fifoPeakMark = s.fs.fifoPeakMark := by rw [beginOutputFrame_frame]
@[simp] theorem beginOutputFrame_fs_prefetchMinMark (s : State) : (beginOutputFrame s).fs.prefetchMinMark = s.fs.prefetchMinMark := by rw [beginOutputFrame_frame]
@[simp] theorem beginOutputFrame_fs_framePeak (s : State) : (beginOutputFrame s).fs.framePeak = s.fs.framePeak := by rw [beginOutputFrame_frame]
@[simp] theorem beginOutputFrame_fs_frameMinimum (s : State) : (beginOutputFrame s).fs.frameMinimum = s.fs.frameMinimum := by rw [beginOutputFrame_frame]
@[simp] theorem beginOutputFrame_fs_memory (s : State) : (beginOutputFrame s).fs.memory = s.fs.memory := by rw [beginOutputFrame_frame]
@[simp] theorem beginOutputFrame_fs_parity (s : State) : (beginOutputFrame s).fs.parity = s.fs.parity := by rw [beginOutputFrame_frame]
@[simp] theorem beginOutputFrame_fs_lineLast (s : State) : (beginOutputFrame s).fs.lineLast = s.fs.lineLast := by rw [beginOutputFrame_frame]
@[simp] theorem beginOutputFrame_svp (s : State) : (beginOutputFrame s).svp = s.svp := by rw [beginOutputFrame_frame]
@[simp] theorem beginOutputFrame_counters (s : State) : (beginOutputFrame s).counters = s.counters := by rw [beginOutputFrame_frame]

/-! ### A promotion leaves alone -/
@[simp] theorem promote_pending (s : State) : (promote s).pending = s.pending := by rw [promote_frame]
@[simp] theorem promote_now (s : State) : (promote s).now = s.now := by rw [promote_frame]
@[simp] theorem promote_rstnLow (s : State) : (promote s).rstnLow = s.rstnLow := by rw [promote_frame]
@[simp] theorem promote_sc (s : State) : (promote s).sc = s.sc := by rw [promote_frame]
@[simp] theorem promote_mt (s : State) : (promote s).mt = s.mt := by rw [promote_frame]
@[simp] theorem promote_slc (s : State) : (promote s).slc = s.slc := by rw [promote_frame]
@[simp] theorem promote_pt (s : State) : (promote s).pt = s.pt := by rw [promote_frame]
@[simp] theorem promote_cu (s : State) : (promote s).cu = s.cu := by rw [promote_frame]
@[simp] theorem promote_swu (s : State) : (promote s).swu = s.swu := by rw [promote_frame]
@[simp] theorem promote_wbp (s : State) : (promote s).wbp = s.wbp := by rw [promote_frame]
@[simp] theorem promote_ls (s : State) : (promote s).ls = s.ls := by rw [promote_frame]
@[simp] theorem promote_fs (s : State) : (promote s).fs = s.fs := by rw [promote_frame]
@[simp] theorem promote_svp (s : State) : (promote s).svp = s.svp := by rw [promote_frame]
@[simp] theorem promote_counters (s : State) : (promote s).counters = s.counters := by rw [promote_frame]

/-! ### The silence counts leaves alone -/
@[simp] theorem silenceTick_pending (s : State) : (silenceTick s).pending = s.pending := by rw [silenceTick_frame]
@[simp] theorem silenceTick_now (s : State) : (silenceTick s).now = s.now := by rw [silenceTick_frame]
@[simp] theorem silenceTick_rstnLow (s : State) : (silenceTick s).rstnLow = s.rstnLow := by rw [silenceTick_frame]
@[simp] theorem silenceTick_sc (s : State) : (silenceTick s).sc = s.sc := by rw [silenceTick_frame]
@[simp] theorem silenceTick_mt (s : State) : (silenceTick s).mt = s.mt := by rw [silenceTick_frame]
@[simp] theorem silenceTick_slc (s : State) : (silenceTick s).slc = s.slc := by rw [silenceTick_frame]
@[simp] theorem silenceTick_pt_condition (s : State) : (silenceTick s).pt.condition = s.pt.condition := by rw [silenceTick_frame]
@[simp] theorem silenceTick_pt_view (s : State) : (silenceTick s).pt.view = s.pt.view := by rw [silenceTick_frame]
@[simp] theorem silenceTick_cu (s : State) : (silenceTick s).cu = s.cu := by rw [silenceTick_frame]
@[simp] theorem silenceTick_swu (s : State) : (silenceTick s).swu = s.swu := by rw [silenceTick_frame]
@[simp] theorem silenceTick_we (s : State) : (silenceTick s).we = s.we := by rw [silenceTick_frame]
@[simp] theorem silenceTick_wbp (s : State) : (silenceTick s).wbp = s.wbp := by rw [silenceTick_frame]
@[simp] theorem silenceTick_ls (s : State) : (silenceTick s).ls = s.ls := by rw [silenceTick_frame]
@[simp] theorem silenceTick_fs (s : State) : (silenceTick s).fs = s.fs := by rw [silenceTick_frame]
@[simp] theorem silenceTick_svp (s : State) : (silenceTick s).svp = s.svp := by rw [silenceTick_frame]
@[simp] theorem silenceTick_counters (s : State) : (silenceTick s).counters = s.counters := by rw [silenceTick_frame]

/-! ### The enactment leaves alone -/
@[simp] theorem enactDecision_pending (s : State) : (enactDecision s).pending = s.pending := by rw [enactDecision_frame]
@[simp] theorem enactDecision_now (s : State) : (enactDecision s).now = s.now := by rw [enactDecision_frame]
@[simp] theorem enactDecision_rstnLow (s : State) : (enactDecision s).rstnLow = s.rstnLow := by rw [enactDecision_frame]
@[simp] theorem enactDecision_sc (s : State) : (enactDecision s).sc = s.sc := by rw [enactDecision_frame]
@[simp] theorem enactDecision_mt (s : State) : (enactDecision s).mt = s.mt := by rw [enactDecision_frame]
@[simp] theorem enactDecision_slc (s : State) : (enactDecision s).slc = s.slc := by rw [enactDecision_frame]
@[simp] theorem enactDecision_pt (s : State) : (enactDecision s).pt = s.pt := by rw [enactDecision_frame]
@[simp] theorem enactDecision_cu (s : State) : (enactDecision s).cu = s.cu := by rw [enactDecision_frame]
@[simp] theorem enactDecision_we (s : State) : (enactDecision s).we = s.we := by rw [enactDecision_frame]
@[simp] theorem enactDecision_wbp (s : State) : (enactDecision s).wbp = s.wbp := by rw [enactDecision_frame]
@[simp] theorem enactDecision_ls (s : State) : (enactDecision s).ls = s.ls := by rw [enactDecision_frame]
@[simp] theorem enactDecision_fs_port (s : State) : (enactDecision s).fs.port = s.fs.port := by rw [enactDecision_frame]
@[simp] theorem enactDecision_fs_lineCount (s : State) : (enactDecision s).fs.lineCount = s.fs.lineCount := by rw [enactDecision_frame]
@[simp] theorem enactDecision_fs_linePixels (s : State) : (enactDecision s).fs.linePixels = s.fs.linePixels := by rw [enactDecision_frame]
@[simp] theorem enactDecision_fs_damaged (s : State) : (enactDecision s).fs.damaged = s.fs.damaged := by rw [enactDecision_frame]
@[simp] theorem enactDecision_fs_trailer (s : State) : (enactDecision s).fs.trailer = s.fs.trailer := by rw [enactDecision_frame]
@[simp] theorem enactDecision_fs_lossStart (s : State) : (enactDecision s).fs.lossStart = s.fs.lossStart := by rw [enactDecision_frame]
@[simp] theorem enactDecision_fs_lost (s : State) : (enactDecision s).fs.lost = s.fs.lost := by rw [enactDecision_frame]
@[simp] theorem enactDecision_fs_sequence (s : State) : (enactDecision s).fs.sequence = s.fs.sequence := by rw [enactDecision_frame]
@[simp] theorem enactDecision_fs_prefetch (s : State) : (enactDecision s).fs.prefetch = s.fs.prefetch := by rw [enactDecision_frame]
@[simp] theorem enactDecision_fs_trap (s : State) : (enactDecision s).fs.trap = s.fs.trap := by rw [enactDecision_frame]
@[simp] theorem enactDecision_fs_fifoPeakMark (s : State) : (enactDecision s).fs.fifoPeakMark = s.fs.fifoPeakMark := by rw [enactDecision_frame]
@[simp] theorem enactDecision_fs_prefetchMinMark (s : State) : (enactDecision s).fs.prefetchMinMark = s.fs.prefetchMinMark := by rw [enactDecision_frame]
@[simp] theorem enactDecision_fs_framePeak (s : State) : (enactDecision s).fs.framePeak = s.fs.framePeak := by rw [enactDecision_frame]
@[simp] theorem enactDecision_fs_frameMinimum (s : State) : (enactDecision s).fs.frameMinimum = s.fs.frameMinimum := by rw [enactDecision_frame]
@[simp] theorem enactDecision_fs_memory (s : State) : (enactDecision s).fs.memory = s.fs.memory := by rw [enactDecision_frame]
@[simp] theorem enactDecision_fs_parity (s : State) : (enactDecision s).fs.parity = s.fs.parity := by rw [enactDecision_frame]
@[simp] theorem enactDecision_fs_lineLast (s : State) : (enactDecision s).fs.lineLast = s.fs.lineLast := by rw [enactDecision_frame]
@[simp] theorem enactDecision_svp (s : State) : (enactDecision s).svp = s.svp := by rw [enactDecision_frame]

/-! ### A view change leaves alone -/
@[simp] theorem engineViewChange_pending (s : State) : (engineViewChange s).pending = s.pending := by rw [engineViewChange_frame]
@[simp] theorem engineViewChange_now (s : State) : (engineViewChange s).now = s.now := by rw [engineViewChange_frame]
@[simp] theorem engineViewChange_rstnLow (s : State) : (engineViewChange s).rstnLow = s.rstnLow := by rw [engineViewChange_frame]
@[simp] theorem engineViewChange_sc (s : State) : (engineViewChange s).sc = s.sc := by rw [engineViewChange_frame]
@[simp] theorem engineViewChange_mt (s : State) : (engineViewChange s).mt = s.mt := by rw [engineViewChange_frame]
@[simp] theorem engineViewChange_slc (s : State) : (engineViewChange s).slc = s.slc := by rw [engineViewChange_frame]
@[simp] theorem engineViewChange_pt (s : State) : (engineViewChange s).pt = s.pt := by rw [engineViewChange_frame]
@[simp] theorem engineViewChange_cu (s : State) : (engineViewChange s).cu = s.cu := by rw [engineViewChange_frame]
@[simp] theorem engineViewChange_swu (s : State) : (engineViewChange s).swu = s.swu := by rw [engineViewChange_frame]
@[simp] theorem engineViewChange_wbp (s : State) : (engineViewChange s).wbp = s.wbp := by rw [engineViewChange_frame]
@[simp] theorem engineViewChange_ls (s : State) : (engineViewChange s).ls = s.ls := by rw [engineViewChange_frame]
@[simp] theorem engineViewChange_fs (s : State) : (engineViewChange s).fs = s.fs := by rw [engineViewChange_frame]
@[simp] theorem engineViewChange_svp (s : State) : (engineViewChange s).svp = s.svp := by rw [engineViewChange_frame]
@[simp] theorem engineViewChange_counters (s : State) : (engineViewChange s).counters = s.counters := by rw [engineViewChange_frame]

/-! ### A recomputation leaves alone -/
@[simp] theorem recomputeView_pending (s : State) : (recomputeView s).pending = s.pending := by rw [recomputeView_frame]
@[simp] theorem recomputeView_now (s : State) : (recomputeView s).now = s.now := by rw [recomputeView_frame]
@[simp] theorem recomputeView_rstnLow (s : State) : (recomputeView s).rstnLow = s.rstnLow := by rw [recomputeView_frame]
@[simp] theorem recomputeView_sc (s : State) : (recomputeView s).sc = s.sc := by rw [recomputeView_frame]
@[simp] theorem recomputeView_mt (s : State) : (recomputeView s).mt = s.mt := by rw [recomputeView_frame]
@[simp] theorem recomputeView_slc (s : State) : (recomputeView s).slc = s.slc := by rw [recomputeView_frame]
@[simp] theorem recomputeView_pt_entries (s : State) : (recomputeView s).pt.entries = s.pt.entries := by rw [recomputeView_frame]
@[simp] theorem recomputeView_pt_condition (s : State) : (recomputeView s).pt.condition = s.pt.condition := by rw [recomputeView_frame]
@[simp] theorem recomputeView_pt_unheard (s : State) : (recomputeView s).pt.unheard = s.pt.unheard := by rw [recomputeView_frame]
@[simp] theorem recomputeView_cu (s : State) : (recomputeView s).cu = s.cu := by rw [recomputeView_frame]
@[simp] theorem recomputeView_swu (s : State) : (recomputeView s).swu = s.swu := by rw [recomputeView_frame]
@[simp] theorem recomputeView_wbp (s : State) : (recomputeView s).wbp = s.wbp := by rw [recomputeView_frame]
@[simp] theorem recomputeView_ls (s : State) : (recomputeView s).ls = s.ls := by rw [recomputeView_frame]
@[simp] theorem recomputeView_fs (s : State) : (recomputeView s).fs = s.fs := by rw [recomputeView_frame]
@[simp] theorem recomputeView_svp (s : State) : (recomputeView s).svp = s.svp := by rw [recomputeView_frame]
@[simp] theorem recomputeView_counters (s : State) : (recomputeView s).counters = s.counters := by rw [recomputeView_frame]

/-! ### An entry written leaves alone -/
@[simp] theorem changeEntry_pending (n : StationNo) (e : PeerEntry) (s : State) : (changeEntry n e s).pending = s.pending := by rw [changeEntry_frame]
@[simp] theorem changeEntry_now (n : StationNo) (e : PeerEntry) (s : State) : (changeEntry n e s).now = s.now := by rw [changeEntry_frame]
@[simp] theorem changeEntry_rstnLow (n : StationNo) (e : PeerEntry) (s : State) : (changeEntry n e s).rstnLow = s.rstnLow := by rw [changeEntry_frame]
@[simp] theorem changeEntry_sc (n : StationNo) (e : PeerEntry) (s : State) : (changeEntry n e s).sc = s.sc := by rw [changeEntry_frame]
@[simp] theorem changeEntry_mt (n : StationNo) (e : PeerEntry) (s : State) : (changeEntry n e s).mt = s.mt := by rw [changeEntry_frame]
@[simp] theorem changeEntry_slc (n : StationNo) (e : PeerEntry) (s : State) : (changeEntry n e s).slc = s.slc := by rw [changeEntry_frame]
@[simp] theorem changeEntry_pt_condition (n : StationNo) (e : PeerEntry) (s : State) : (changeEntry n e s).pt.condition = s.pt.condition := by rw [changeEntry_frame]
@[simp] theorem changeEntry_pt_unheard (n : StationNo) (e : PeerEntry) (s : State) : (changeEntry n e s).pt.unheard = s.pt.unheard := by rw [changeEntry_frame]
@[simp] theorem changeEntry_pt_view (n : StationNo) (e : PeerEntry) (s : State) : (changeEntry n e s).pt.view = s.pt.view := by rw [changeEntry_frame]
@[simp] theorem changeEntry_cu (n : StationNo) (e : PeerEntry) (s : State) : (changeEntry n e s).cu = s.cu := by rw [changeEntry_frame]
@[simp] theorem changeEntry_swu (n : StationNo) (e : PeerEntry) (s : State) : (changeEntry n e s).swu = s.swu := by rw [changeEntry_frame]
@[simp] theorem changeEntry_we (n : StationNo) (e : PeerEntry) (s : State) : (changeEntry n e s).we = s.we := by rw [changeEntry_frame]
@[simp] theorem changeEntry_wbp (n : StationNo) (e : PeerEntry) (s : State) : (changeEntry n e s).wbp = s.wbp := by rw [changeEntry_frame]
@[simp] theorem changeEntry_ls (n : StationNo) (e : PeerEntry) (s : State) : (changeEntry n e s).ls = s.ls := by rw [changeEntry_frame]
@[simp] theorem changeEntry_fs (n : StationNo) (e : PeerEntry) (s : State) : (changeEntry n e s).fs = s.fs := by rw [changeEntry_frame]
@[simp] theorem changeEntry_svp_transaction (n : StationNo) (e : PeerEntry) (s : State) : (changeEntry n e s).svp.transaction = s.svp.transaction := by rw [changeEntry_frame]
@[simp] theorem changeEntry_svp_rise (n : StationNo) (e : PeerEntry) (s : State) : (changeEntry n e s).svp.rise = s.svp.rise := by rw [changeEntry_frame]
@[simp] theorem changeEntry_svp_received (n : StationNo) (e : PeerEntry) (s : State) : (changeEntry n e s).svp.received = s.svp.received := by rw [changeEntry_frame]
@[simp] theorem changeEntry_svp_shiftOut (n : StationNo) (e : PeerEntry) (s : State) : (changeEntry n e s).svp.shiftOut = s.svp.shiftOut := by rw [changeEntry_frame]
@[simp] theorem changeEntry_counters (n : StationNo) (e : PeerEntry) (s : State) : (changeEntry n e s).counters = s.counters := by rw [changeEntry_frame]

/-! ### The choice of reference leaves alone -/
@[simp] theorem weighReference_pending (s : State) : (weighReference s).pending = s.pending := rfl
@[simp] theorem weighReference_now (s : State) : (weighReference s).now = s.now := rfl
@[simp] theorem weighReference_rstnLow (s : State) : (weighReference s).rstnLow = s.rstnLow := rfl
@[simp] theorem weighReference_sc (s : State) : (weighReference s).sc = s.sc := rfl
@[simp] theorem weighReference_mt (s : State) : (weighReference s).mt = s.mt := rfl
@[simp] theorem weighReference_slc (s : State) : (weighReference s).slc = s.slc := rfl
@[simp] theorem weighReference_pt (s : State) : (weighReference s).pt = s.pt := rfl
@[simp] theorem weighReference_swu (s : State) : (weighReference s).swu = s.swu := rfl
@[simp] theorem weighReference_we (s : State) : (weighReference s).we = s.we := rfl
@[simp] theorem weighReference_wbp (s : State) : (weighReference s).wbp = s.wbp := rfl
@[simp] theorem weighReference_ls (s : State) : (weighReference s).ls = s.ls := rfl
@[simp] theorem weighReference_fs (s : State) : (weighReference s).fs = s.fs := rfl
@[simp] theorem weighReference_svp (s : State) : (weighReference s).svp = s.svp := rfl
@[simp] theorem weighReference_counters (s : State) : (weighReference s).counters = s.counters := rfl

/-! ### The choice of reference, where it is weighed, leaves alone -/
@[simp] theorem weighIfChanged_pending (b s : State) : (weighIfChanged b s).pending = s.pending := by rw [weighIfChanged_frame]
@[simp] theorem weighIfChanged_now (b s : State) : (weighIfChanged b s).now = s.now := by rw [weighIfChanged_frame]
@[simp] theorem weighIfChanged_rstnLow (b s : State) : (weighIfChanged b s).rstnLow = s.rstnLow := by rw [weighIfChanged_frame]
@[simp] theorem weighIfChanged_sc (b s : State) : (weighIfChanged b s).sc = s.sc := by rw [weighIfChanged_frame]
@[simp] theorem weighIfChanged_mt (b s : State) : (weighIfChanged b s).mt = s.mt := by rw [weighIfChanged_frame]
@[simp] theorem weighIfChanged_slc (b s : State) : (weighIfChanged b s).slc = s.slc := by rw [weighIfChanged_frame]
@[simp] theorem weighIfChanged_pt (b s : State) : (weighIfChanged b s).pt = s.pt := by rw [weighIfChanged_frame]
@[simp] theorem weighIfChanged_swu (b s : State) : (weighIfChanged b s).swu = s.swu := by rw [weighIfChanged_frame]
@[simp] theorem weighIfChanged_we (b s : State) : (weighIfChanged b s).we = s.we := by rw [weighIfChanged_frame]
@[simp] theorem weighIfChanged_wbp (b s : State) : (weighIfChanged b s).wbp = s.wbp := by rw [weighIfChanged_frame]
@[simp] theorem weighIfChanged_ls (b s : State) : (weighIfChanged b s).ls = s.ls := by rw [weighIfChanged_frame]
@[simp] theorem weighIfChanged_fs (b s : State) : (weighIfChanged b s).fs = s.fs := by rw [weighIfChanged_frame]
@[simp] theorem weighIfChanged_svp (b s : State) : (weighIfChanged b s).svp = s.svp := by rw [weighIfChanged_frame]
@[simp] theorem weighIfChanged_counters (b s : State) : (weighIfChanged b s).counters = s.counters := by rw [weighIfChanged_frame]

/-! ### Hearing a peer leaves alone -/
@[simp] theorem hearPeer_pending (s : State) : (hearPeer s).pending = s.pending := by rw [hearPeer_frame]
@[simp] theorem hearPeer_now (s : State) : (hearPeer s).now = s.now := by rw [hearPeer_frame]
@[simp] theorem hearPeer_rstnLow (s : State) : (hearPeer s).rstnLow = s.rstnLow := by rw [hearPeer_frame]
@[simp] theorem hearPeer_sc (s : State) : (hearPeer s).sc = s.sc := by rw [hearPeer_frame]
@[simp] theorem hearPeer_mt (s : State) : (hearPeer s).mt = s.mt := by rw [hearPeer_frame]
@[simp] theorem hearPeer_slc (s : State) : (hearPeer s).slc = s.slc := by rw [hearPeer_frame]
@[simp] theorem hearPeer_pt_entries (s : State) : (hearPeer s).pt.entries = s.pt.entries := by rw [hearPeer_frame]
@[simp] theorem hearPeer_pt_view (s : State) : (hearPeer s).pt.view = s.pt.view := by rw [hearPeer_frame]
@[simp] theorem hearPeer_swu (s : State) : (hearPeer s).swu = s.swu := by rw [hearPeer_frame]
@[simp] theorem hearPeer_we (s : State) : (hearPeer s).we = s.we := by rw [hearPeer_frame]
@[simp] theorem hearPeer_wbp (s : State) : (hearPeer s).wbp = s.wbp := by rw [hearPeer_frame]
@[simp] theorem hearPeer_ls (s : State) : (hearPeer s).ls = s.ls := by rw [hearPeer_frame]
@[simp] theorem hearPeer_fs (s : State) : (hearPeer s).fs = s.fs := by rw [hearPeer_frame]
@[simp] theorem hearPeer_svp (s : State) : (hearPeer s).svp = s.svp := by rw [hearPeer_frame]
@[simp] theorem hearPeer_counters (s : State) : (hearPeer s).counters = s.counters := by rw [hearPeer_frame]

/-! ### A cutoff leaves alone -/
@[simp] theorem takeCutoff_pending (s : State) : (takeCutoff s).pending = s.pending := by rw [takeCutoff_frame]
@[simp] theorem takeCutoff_now (s : State) : (takeCutoff s).now = s.now := by rw [takeCutoff_frame]
@[simp] theorem takeCutoff_rstnLow (s : State) : (takeCutoff s).rstnLow = s.rstnLow := by rw [takeCutoff_frame]
@[simp] theorem takeCutoff_sc (s : State) : (takeCutoff s).sc = s.sc := by rw [takeCutoff_frame]
@[simp] theorem takeCutoff_mt (s : State) : (takeCutoff s).mt = s.mt := by rw [takeCutoff_frame]
@[simp] theorem takeCutoff_slc (s : State) : (takeCutoff s).slc = s.slc := by rw [takeCutoff_frame]
@[simp] theorem takeCutoff_pt (s : State) : (takeCutoff s).pt = s.pt := by rw [takeCutoff_frame]
@[simp] theorem takeCutoff_we (s : State) : (takeCutoff s).we = s.we := by rw [takeCutoff_frame]
@[simp] theorem takeCutoff_wbp (s : State) : (takeCutoff s).wbp = s.wbp := by rw [takeCutoff_frame]
@[simp] theorem takeCutoff_ls (s : State) : (takeCutoff s).ls = s.ls := by rw [takeCutoff_frame]
@[simp] theorem takeCutoff_fs_port (s : State) : (takeCutoff s).fs.port = s.fs.port := by rw [takeCutoff_frame]
@[simp] theorem takeCutoff_fs_lineCount (s : State) : (takeCutoff s).fs.lineCount = s.fs.lineCount := by rw [takeCutoff_frame]
@[simp] theorem takeCutoff_fs_linePixels (s : State) : (takeCutoff s).fs.linePixels = s.fs.linePixels := by rw [takeCutoff_frame]
@[simp] theorem takeCutoff_fs_damaged (s : State) : (takeCutoff s).fs.damaged = s.fs.damaged := by rw [takeCutoff_frame]
@[simp] theorem takeCutoff_fs_trailer (s : State) : (takeCutoff s).fs.trailer = s.fs.trailer := by rw [takeCutoff_frame]
@[simp] theorem takeCutoff_fs_lossStart (s : State) : (takeCutoff s).fs.lossStart = s.fs.lossStart := by rw [takeCutoff_frame]
@[simp] theorem takeCutoff_fs_lost (s : State) : (takeCutoff s).fs.lost = s.fs.lost := by rw [takeCutoff_frame]
@[simp] theorem takeCutoff_fs_fifo (s : State) : (takeCutoff s).fs.fifo = s.fs.fifo := by rw [takeCutoff_frame]
@[simp] theorem takeCutoff_fs_sequence (s : State) : (takeCutoff s).fs.sequence = s.fs.sequence := by rw [takeCutoff_frame]
@[simp] theorem takeCutoff_fs_prefetch (s : State) : (takeCutoff s).fs.prefetch = s.fs.prefetch := by rw [takeCutoff_frame]
@[simp] theorem takeCutoff_fs_arb (s : State) : (takeCutoff s).fs.arb = s.fs.arb := by rw [takeCutoff_frame]
@[simp] theorem takeCutoff_fs_trap (s : State) : (takeCutoff s).fs.trap = s.fs.trap := by rw [takeCutoff_frame]
@[simp] theorem takeCutoff_fs_fifoPeakMark (s : State) : (takeCutoff s).fs.fifoPeakMark = s.fs.fifoPeakMark := by rw [takeCutoff_frame]
@[simp] theorem takeCutoff_fs_prefetchMinMark (s : State) : (takeCutoff s).fs.prefetchMinMark = s.fs.prefetchMinMark := by rw [takeCutoff_frame]
@[simp] theorem takeCutoff_fs_framePeak (s : State) : (takeCutoff s).fs.framePeak = s.fs.framePeak := by rw [takeCutoff_frame]
@[simp] theorem takeCutoff_fs_frameMinimum (s : State) : (takeCutoff s).fs.frameMinimum = s.fs.frameMinimum := by rw [takeCutoff_frame]
@[simp] theorem takeCutoff_fs_memory (s : State) : (takeCutoff s).fs.memory = s.fs.memory := by rw [takeCutoff_frame]
@[simp] theorem takeCutoff_fs_parity (s : State) : (takeCutoff s).fs.parity = s.fs.parity := by rw [takeCutoff_frame]
@[simp] theorem takeCutoff_fs_lineLast (s : State) : (takeCutoff s).fs.lineLast = s.fs.lineLast := by rw [takeCutoff_frame]
@[simp] theorem takeCutoff_svp (s : State) : (takeCutoff s).svp = s.svp := by rw [takeCutoff_frame]

/-! ### A reference PULSE leaves alone -/
@[simp] theorem takeReferencePulse_pending (i : Int) (b : BitVec 8) (s : State) : (takeReferencePulse i b s).pending = s.pending := by rw [takeReferencePulse_frame]
@[simp] theorem takeReferencePulse_now (i : Int) (b : BitVec 8) (s : State) : (takeReferencePulse i b s).now = s.now := by rw [takeReferencePulse_frame]
@[simp] theorem takeReferencePulse_rstnLow (i : Int) (b : BitVec 8) (s : State) : (takeReferencePulse i b s).rstnLow = s.rstnLow := by rw [takeReferencePulse_frame]
@[simp] theorem takeReferencePulse_sc (i : Int) (b : BitVec 8) (s : State) : (takeReferencePulse i b s).sc = s.sc := by rw [takeReferencePulse_frame]
@[simp] theorem takeReferencePulse_mt (i : Int) (b : BitVec 8) (s : State) : (takeReferencePulse i b s).mt = s.mt := by rw [takeReferencePulse_frame]
@[simp] theorem takeReferencePulse_slc (i : Int) (b : BitVec 8) (s : State) : (takeReferencePulse i b s).slc = s.slc := by rw [takeReferencePulse_frame]
@[simp] theorem takeReferencePulse_pt (i : Int) (b : BitVec 8) (s : State) : (takeReferencePulse i b s).pt = s.pt := by rw [takeReferencePulse_frame]
@[simp] theorem takeReferencePulse_we (i : Int) (b : BitVec 8) (s : State) : (takeReferencePulse i b s).we = s.we := by rw [takeReferencePulse_frame]
@[simp] theorem takeReferencePulse_wbp (i : Int) (b : BitVec 8) (s : State) : (takeReferencePulse i b s).wbp = s.wbp := by rw [takeReferencePulse_frame]
@[simp] theorem takeReferencePulse_ls (i : Int) (b : BitVec 8) (s : State) : (takeReferencePulse i b s).ls = s.ls := by rw [takeReferencePulse_frame]
@[simp] theorem takeReferencePulse_fs_port (i : Int) (b : BitVec 8) (s : State) : (takeReferencePulse i b s).fs.port = s.fs.port := by rw [takeReferencePulse_frame]
@[simp] theorem takeReferencePulse_fs_lineCount (i : Int) (b : BitVec 8) (s : State) : (takeReferencePulse i b s).fs.lineCount = s.fs.lineCount := by rw [takeReferencePulse_frame]
@[simp] theorem takeReferencePulse_fs_linePixels (i : Int) (b : BitVec 8) (s : State) : (takeReferencePulse i b s).fs.linePixels = s.fs.linePixels := by rw [takeReferencePulse_frame]
@[simp] theorem takeReferencePulse_fs_damaged (i : Int) (b : BitVec 8) (s : State) : (takeReferencePulse i b s).fs.damaged = s.fs.damaged := by rw [takeReferencePulse_frame]
@[simp] theorem takeReferencePulse_fs_trailer (i : Int) (b : BitVec 8) (s : State) : (takeReferencePulse i b s).fs.trailer = s.fs.trailer := by rw [takeReferencePulse_frame]
@[simp] theorem takeReferencePulse_fs_lossStart (i : Int) (b : BitVec 8) (s : State) : (takeReferencePulse i b s).fs.lossStart = s.fs.lossStart := by rw [takeReferencePulse_frame]
@[simp] theorem takeReferencePulse_fs_lost (i : Int) (b : BitVec 8) (s : State) : (takeReferencePulse i b s).fs.lost = s.fs.lost := by rw [takeReferencePulse_frame]
@[simp] theorem takeReferencePulse_fs_fifo (i : Int) (b : BitVec 8) (s : State) : (takeReferencePulse i b s).fs.fifo = s.fs.fifo := by rw [takeReferencePulse_frame]
@[simp] theorem takeReferencePulse_fs_sequence (i : Int) (b : BitVec 8) (s : State) : (takeReferencePulse i b s).fs.sequence = s.fs.sequence := by rw [takeReferencePulse_frame]
@[simp] theorem takeReferencePulse_fs_prefetch (i : Int) (b : BitVec 8) (s : State) : (takeReferencePulse i b s).fs.prefetch = s.fs.prefetch := by rw [takeReferencePulse_frame]
@[simp] theorem takeReferencePulse_fs_arb (i : Int) (b : BitVec 8) (s : State) : (takeReferencePulse i b s).fs.arb = s.fs.arb := by rw [takeReferencePulse_frame]
@[simp] theorem takeReferencePulse_fs_trap (i : Int) (b : BitVec 8) (s : State) : (takeReferencePulse i b s).fs.trap = s.fs.trap := by rw [takeReferencePulse_frame]
@[simp] theorem takeReferencePulse_fs_fifoPeakMark (i : Int) (b : BitVec 8) (s : State) : (takeReferencePulse i b s).fs.fifoPeakMark = s.fs.fifoPeakMark := by rw [takeReferencePulse_frame]
@[simp] theorem takeReferencePulse_fs_prefetchMinMark (i : Int) (b : BitVec 8) (s : State) : (takeReferencePulse i b s).fs.prefetchMinMark = s.fs.prefetchMinMark := by rw [takeReferencePulse_frame]
@[simp] theorem takeReferencePulse_fs_framePeak (i : Int) (b : BitVec 8) (s : State) : (takeReferencePulse i b s).fs.framePeak = s.fs.framePeak := by rw [takeReferencePulse_frame]
@[simp] theorem takeReferencePulse_fs_frameMinimum (i : Int) (b : BitVec 8) (s : State) : (takeReferencePulse i b s).fs.frameMinimum = s.fs.frameMinimum := by rw [takeReferencePulse_frame]
@[simp] theorem takeReferencePulse_fs_memory (i : Int) (b : BitVec 8) (s : State) : (takeReferencePulse i b s).fs.memory = s.fs.memory := by rw [takeReferencePulse_frame]
@[simp] theorem takeReferencePulse_fs_parity (i : Int) (b : BitVec 8) (s : State) : (takeReferencePulse i b s).fs.parity = s.fs.parity := by rw [takeReferencePulse_frame]
@[simp] theorem takeReferencePulse_fs_lineLast (i : Int) (b : BitVec 8) (s : State) : (takeReferencePulse i b s).fs.lineLast = s.fs.lineLast := by rw [takeReferencePulse_frame]
@[simp] theorem takeReferencePulse_svp (i : Int) (b : BitVec 8) (s : State) : (takeReferencePulse i b s).svp = s.svp := by rw [takeReferencePulse_frame]

/-! ### The search for divergence leaves alone -/
@[simp] theorem examinePulse_pending (ts : Int) (l : LockState) (f : FrameNo) (s : State) : (examinePulse ts l f s).pending = s.pending := by rw [examinePulse_frame]
@[simp] theorem examinePulse_now (ts : Int) (l : LockState) (f : FrameNo) (s : State) : (examinePulse ts l f s).now = s.now := by rw [examinePulse_frame]
@[simp] theorem examinePulse_rstnLow (ts : Int) (l : LockState) (f : FrameNo) (s : State) : (examinePulse ts l f s).rstnLow = s.rstnLow := by rw [examinePulse_frame]
@[simp] theorem examinePulse_sc (ts : Int) (l : LockState) (f : FrameNo) (s : State) : (examinePulse ts l f s).sc = s.sc := by rw [examinePulse_frame]
@[simp] theorem examinePulse_mt (ts : Int) (l : LockState) (f : FrameNo) (s : State) : (examinePulse ts l f s).mt = s.mt := by rw [examinePulse_frame]
@[simp] theorem examinePulse_slc (ts : Int) (l : LockState) (f : FrameNo) (s : State) : (examinePulse ts l f s).slc = s.slc := by rw [examinePulse_frame]
@[simp] theorem examinePulse_pt (ts : Int) (l : LockState) (f : FrameNo) (s : State) : (examinePulse ts l f s).pt = s.pt := by rw [examinePulse_frame]
@[simp] theorem examinePulse_cu (ts : Int) (l : LockState) (f : FrameNo) (s : State) : (examinePulse ts l f s).cu = s.cu := by rw [examinePulse_frame]
@[simp] theorem examinePulse_swu (ts : Int) (l : LockState) (f : FrameNo) (s : State) : (examinePulse ts l f s).swu = s.swu := by rw [examinePulse_frame]
@[simp] theorem examinePulse_we (ts : Int) (l : LockState) (f : FrameNo) (s : State) : (examinePulse ts l f s).we = s.we := by rw [examinePulse_frame]
@[simp] theorem examinePulse_wbp (ts : Int) (l : LockState) (f : FrameNo) (s : State) : (examinePulse ts l f s).wbp = s.wbp := by rw [examinePulse_frame]
@[simp] theorem examinePulse_ls (ts : Int) (l : LockState) (f : FrameNo) (s : State) : (examinePulse ts l f s).ls = s.ls := by rw [examinePulse_frame]
@[simp] theorem examinePulse_fs (ts : Int) (l : LockState) (f : FrameNo) (s : State) : (examinePulse ts l f s).fs = s.fs := by rw [examinePulse_frame]
@[simp] theorem examinePulse_svp (ts : Int) (l : LockState) (f : FrameNo) (s : State) : (examinePulse ts l f s).svp = s.svp := by rw [examinePulse_frame]

/-! ### A returned message leaves alone -/
@[simp] theorem returnToQueue_pending (m : OnLine) (n : Nat) (b : Bool) (s : State) : (returnToQueue m n b s).pending = s.pending := by rw [returnToQueue_frame]
@[simp] theorem returnToQueue_now (m : OnLine) (n : Nat) (b : Bool) (s : State) : (returnToQueue m n b s).now = s.now := by rw [returnToQueue_frame]
@[simp] theorem returnToQueue_rstnLow (m : OnLine) (n : Nat) (b : Bool) (s : State) : (returnToQueue m n b s).rstnLow = s.rstnLow := by rw [returnToQueue_frame]
@[simp] theorem returnToQueue_sc (m : OnLine) (n : Nat) (b : Bool) (s : State) : (returnToQueue m n b s).sc = s.sc := by rw [returnToQueue_frame]
@[simp] theorem returnToQueue_mt (m : OnLine) (n : Nat) (b : Bool) (s : State) : (returnToQueue m n b s).mt = s.mt := by rw [returnToQueue_frame]
@[simp] theorem returnToQueue_slc_onLine (m : OnLine) (n : Nat) (b : Bool) (s : State) : (returnToQueue m n b s).slc.onLine = s.slc.onLine := by rw [returnToQueue_frame]
@[simp] theorem returnToQueue_slc_lastWon (m : OnLine) (n : Nat) (b : Bool) (s : State) : (returnToQueue m n b s).slc.lastWon = s.slc.lastWon := by rw [returnToQueue_frame]
@[simp] theorem returnToQueue_slc_condition (m : OnLine) (n : Nat) (b : Bool) (s : State) : (returnToQueue m n b s).slc.condition = s.slc.condition := by rw [returnToQueue_frame]
@[simp] theorem returnToQueue_slc_receiver (m : OnLine) (n : Nat) (b : Bool) (s : State) : (returnToQueue m n b s).slc.receiver = s.slc.receiver := by rw [returnToQueue_frame]
@[simp] theorem returnToQueue_slc_dominant (m : OnLine) (n : Nat) (b : Bool) (s : State) : (returnToQueue m n b s).slc.dominant = s.slc.dominant := by rw [returnToQueue_frame]
@[simp] theorem returnToQueue_slc_since (m : OnLine) (n : Nat) (b : Bool) (s : State) : (returnToQueue m n b s).slc.since = s.slc.since := by rw [returnToQueue_frame]
@[simp] theorem returnToQueue_slc_listenFrom (m : OnLine) (n : Nat) (b : Bool) (s : State) : (returnToQueue m n b s).slc.listenFrom = s.slc.listenFrom := by rw [returnToQueue_frame]
@[simp] theorem returnToQueue_pt (m : OnLine) (n : Nat) (b : Bool) (s : State) : (returnToQueue m n b s).pt = s.pt := by rw [returnToQueue_frame]
@[simp] theorem returnToQueue_cu (m : OnLine) (n : Nat) (b : Bool) (s : State) : (returnToQueue m n b s).cu = s.cu := by rw [returnToQueue_frame]
@[simp] theorem returnToQueue_swu (m : OnLine) (n : Nat) (b : Bool) (s : State) : (returnToQueue m n b s).swu = s.swu := by rw [returnToQueue_frame]
@[simp] theorem returnToQueue_we (m : OnLine) (n : Nat) (b : Bool) (s : State) : (returnToQueue m n b s).we = s.we := by rw [returnToQueue_frame]
@[simp] theorem returnToQueue_wbp (m : OnLine) (n : Nat) (b : Bool) (s : State) : (returnToQueue m n b s).wbp = s.wbp := by rw [returnToQueue_frame]
@[simp] theorem returnToQueue_ls (m : OnLine) (n : Nat) (b : Bool) (s : State) : (returnToQueue m n b s).ls = s.ls := by rw [returnToQueue_frame]
@[simp] theorem returnToQueue_fs (m : OnLine) (n : Nat) (b : Bool) (s : State) : (returnToQueue m n b s).fs = s.fs := by rw [returnToQueue_frame]
@[simp] theorem returnToQueue_svp (m : OnLine) (n : Nat) (b : Bool) (s : State) : (returnToQueue m n b s).svp = s.svp := by rw [returnToQueue_frame]

/-! ### A PULSE brought up to date leaves alone -/
@[simp] theorem refreshPulse_pending (s : State) : (refreshPulse s).pending = s.pending := rfl
@[simp] theorem refreshPulse_now (s : State) : (refreshPulse s).now = s.now := rfl
@[simp] theorem refreshPulse_rstnLow (s : State) : (refreshPulse s).rstnLow = s.rstnLow := rfl
@[simp] theorem refreshPulse_sc (s : State) : (refreshPulse s).sc = s.sc := rfl
@[simp] theorem refreshPulse_mt (s : State) : (refreshPulse s).mt = s.mt := rfl
@[simp] theorem refreshPulse_slc_onLine (s : State) : (refreshPulse s).slc.onLine = s.slc.onLine := rfl
@[simp] theorem refreshPulse_slc_lastWon (s : State) : (refreshPulse s).slc.lastWon = s.slc.lastWon := rfl
@[simp] theorem refreshPulse_slc_condition (s : State) : (refreshPulse s).slc.condition = s.slc.condition := rfl
@[simp] theorem refreshPulse_slc_receiver (s : State) : (refreshPulse s).slc.receiver = s.slc.receiver := rfl
@[simp] theorem refreshPulse_slc_dominant (s : State) : (refreshPulse s).slc.dominant = s.slc.dominant := rfl
@[simp] theorem refreshPulse_slc_since (s : State) : (refreshPulse s).slc.since = s.slc.since := rfl
@[simp] theorem refreshPulse_slc_listenFrom (s : State) : (refreshPulse s).slc.listenFrom = s.slc.listenFrom := rfl
@[simp] theorem refreshPulse_pt (s : State) : (refreshPulse s).pt = s.pt := rfl
@[simp] theorem refreshPulse_cu (s : State) : (refreshPulse s).cu = s.cu := rfl
@[simp] theorem refreshPulse_swu (s : State) : (refreshPulse s).swu = s.swu := rfl
@[simp] theorem refreshPulse_we (s : State) : (refreshPulse s).we = s.we := rfl
@[simp] theorem refreshPulse_wbp (s : State) : (refreshPulse s).wbp = s.wbp := rfl
@[simp] theorem refreshPulse_ls (s : State) : (refreshPulse s).ls = s.ls := rfl
@[simp] theorem refreshPulse_fs (s : State) : (refreshPulse s).fs = s.fs := rfl
@[simp] theorem refreshPulse_svp (s : State) : (refreshPulse s).svp = s.svp := rfl
@[simp] theorem refreshPulse_counters (s : State) : (refreshPulse s).counters = s.counters := rfl

/-! ### The order of a frame start leaves alone -/
@[simp] theorem applyOrder_pending (o : SameInstant) (b s : State) : (applyOrder o b s).pending = s.pending := by unfold applyOrder; dsimp only; (repeat' split) <;> simp
@[simp] theorem applyOrder_now (o : SameInstant) (b s : State) : (applyOrder o b s).now = s.now := by unfold applyOrder; dsimp only; (repeat' split) <;> simp
@[simp] theorem applyOrder_rstnLow (o : SameInstant) (b s : State) : (applyOrder o b s).rstnLow = s.rstnLow := by unfold applyOrder; dsimp only; (repeat' split) <;> simp
@[simp] theorem applyOrder_sc (o : SameInstant) (b s : State) : (applyOrder o b s).sc = s.sc := by unfold applyOrder; dsimp only; (repeat' split) <;> simp
@[simp] theorem applyOrder_mt (o : SameInstant) (b s : State) : (applyOrder o b s).mt = s.mt := by unfold applyOrder; dsimp only; (repeat' split) <;> simp
@[simp] theorem applyOrder_slc_onLine (o : SameInstant) (b s : State) : (applyOrder o b s).slc.onLine = s.slc.onLine := by unfold applyOrder; dsimp only; (repeat' split) <;> simp
@[simp] theorem applyOrder_slc_lastWon (o : SameInstant) (b s : State) : (applyOrder o b s).slc.lastWon = s.slc.lastWon := by unfold applyOrder; dsimp only; (repeat' split) <;> simp
@[simp] theorem applyOrder_slc_condition (o : SameInstant) (b s : State) : (applyOrder o b s).slc.condition = s.slc.condition := by unfold applyOrder; dsimp only; (repeat' split) <;> simp
@[simp] theorem applyOrder_slc_receiver (o : SameInstant) (b s : State) : (applyOrder o b s).slc.receiver = s.slc.receiver := by unfold applyOrder; dsimp only; (repeat' split) <;> simp
@[simp] theorem applyOrder_slc_dominant (o : SameInstant) (b s : State) : (applyOrder o b s).slc.dominant = s.slc.dominant := by unfold applyOrder; dsimp only; (repeat' split) <;> simp
@[simp] theorem applyOrder_slc_since (o : SameInstant) (b s : State) : (applyOrder o b s).slc.since = s.slc.since := by unfold applyOrder; dsimp only; (repeat' split) <;> simp
@[simp] theorem applyOrder_slc_listenFrom (o : SameInstant) (b s : State) : (applyOrder o b s).slc.listenFrom = s.slc.listenFrom := by unfold applyOrder; dsimp only; (repeat' split) <;> simp
@[simp] theorem applyOrder_pt (o : SameInstant) (b s : State) : (applyOrder o b s).pt = s.pt := by unfold applyOrder; dsimp only; (repeat' split) <;> simp
@[simp] theorem applyOrder_cu (o : SameInstant) (b s : State) : (applyOrder o b s).cu = s.cu := by unfold applyOrder; dsimp only; (repeat' split) <;> simp
@[simp] theorem applyOrder_swu (o : SameInstant) (b s : State) : (applyOrder o b s).swu = s.swu := by unfold applyOrder; dsimp only; (repeat' split) <;> simp
@[simp] theorem applyOrder_we (o : SameInstant) (b s : State) : (applyOrder o b s).we = s.we := by unfold applyOrder; dsimp only; (repeat' split) <;> simp
@[simp] theorem applyOrder_ls (o : SameInstant) (b s : State) : (applyOrder o b s).ls = s.ls := by unfold applyOrder; dsimp only; (repeat' split) <;> simp
@[simp] theorem applyOrder_fs_slots (o : SameInstant) (b s : State) : (applyOrder o b s).fs.slots = s.fs.slots := by unfold applyOrder; dsimp only; (repeat' split) <;> simp
@[simp] theorem applyOrder_fs_port (o : SameInstant) (b s : State) : (applyOrder o b s).fs.port = s.fs.port := by unfold applyOrder; dsimp only; (repeat' split) <;> simp
@[simp] theorem applyOrder_fs_lineCount (o : SameInstant) (b s : State) : (applyOrder o b s).fs.lineCount = s.fs.lineCount := by unfold applyOrder; dsimp only; (repeat' split) <;> simp
@[simp] theorem applyOrder_fs_linePixels (o : SameInstant) (b s : State) : (applyOrder o b s).fs.linePixels = s.fs.linePixels := by unfold applyOrder; dsimp only; (repeat' split) <;> simp
@[simp] theorem applyOrder_fs_damaged (o : SameInstant) (b s : State) : (applyOrder o b s).fs.damaged = s.fs.damaged := by unfold applyOrder; dsimp only; (repeat' split) <;> simp
@[simp] theorem applyOrder_fs_trailer (o : SameInstant) (b s : State) : (applyOrder o b s).fs.trailer = s.fs.trailer := by unfold applyOrder; dsimp only; (repeat' split) <;> simp
@[simp] theorem applyOrder_fs_lossStart (o : SameInstant) (b s : State) : (applyOrder o b s).fs.lossStart = s.fs.lossStart := by unfold applyOrder; dsimp only; (repeat' split) <;> simp
@[simp] theorem applyOrder_fs_lost (o : SameInstant) (b s : State) : (applyOrder o b s).fs.lost = s.fs.lost := by unfold applyOrder; dsimp only; (repeat' split) <;> simp
@[simp] theorem applyOrder_fs_fifo (o : SameInstant) (b s : State) : (applyOrder o b s).fs.fifo = s.fs.fifo := by unfold applyOrder; dsimp only; (repeat' split) <;> simp
@[simp] theorem applyOrder_fs_trap (o : SameInstant) (b s : State) : (applyOrder o b s).fs.trap = s.fs.trap := by unfold applyOrder; dsimp only; (repeat' split) <;> simp
@[simp] theorem applyOrder_fs_fifoPeakMark (o : SameInstant) (b s : State) : (applyOrder o b s).fs.fifoPeakMark = s.fs.fifoPeakMark := by unfold applyOrder; dsimp only; (repeat' split) <;> simp
@[simp] theorem applyOrder_fs_prefetchMinMark (o : SameInstant) (b s : State) : (applyOrder o b s).fs.prefetchMinMark = s.fs.prefetchMinMark := by unfold applyOrder; dsimp only; (repeat' split) <;> simp
@[simp] theorem applyOrder_fs_framePeak (o : SameInstant) (b s : State) : (applyOrder o b s).fs.framePeak = s.fs.framePeak := by unfold applyOrder; dsimp only; (repeat' split) <;> simp
@[simp] theorem applyOrder_fs_frameMinimum (o : SameInstant) (b s : State) : (applyOrder o b s).fs.frameMinimum = s.fs.frameMinimum := by unfold applyOrder; dsimp only; (repeat' split) <;> simp
@[simp] theorem applyOrder_fs_memory (o : SameInstant) (b s : State) : (applyOrder o b s).fs.memory = s.fs.memory := by unfold applyOrder; dsimp only; (repeat' split) <;> simp
@[simp] theorem applyOrder_fs_parity (o : SameInstant) (b s : State) : (applyOrder o b s).fs.parity = s.fs.parity := by unfold applyOrder; dsimp only; (repeat' split) <;> simp
@[simp] theorem applyOrder_fs_lineLast (o : SameInstant) (b s : State) : (applyOrder o b s).fs.lineLast = s.fs.lineLast := by unfold applyOrder; dsimp only; (repeat' split) <;> simp
@[simp] theorem applyOrder_svp (o : SameInstant) (b s : State) : (applyOrder o b s).svp = s.svp := by unfold applyOrder; dsimp only; (repeat' split) <;> simp
@[simp] theorem applyOrder_counters (o : SameInstant) (b s : State) : (applyOrder o b s).counters = s.counters := by unfold applyOrder; dsimp only; (repeat' split) <;> simp

end Sys2Proof.Machine
end

