-- ==== Sys2Proof/Laws/Memory.lean ====
section
/-! SUPPORT. The laws of the frame store's memory (R150, R163): a write keeps the canonical form, reads back, and leaves
every other byte; the same for runs of bytes; a reader's run has the length asked for. -/

namespace Sys2Proof.Machine

/-- The canonical form, cell by cell. -/
theorem Memory.wf_cons (c : Host.Cell) (m : Memory) :
    Memory.wf (c :: m) = true ↔ c.2 ≠ Memory.unlisted ∧ (∀ d ∈ m, c.1 < d.1) ∧ Memory.wf m = true := by
  induction m generalizing c with
  | nil => simp [Memory.wf]
  | cons d m ih =>
    simp only [Memory.wf, Bool.and_eq_true, bne_iff_ne, ne_eq, decide_eq_true_eq, List.mem_cons, forall_eq_or_imp]
    constructor
    · rintro ⟨⟨h, hd⟩, hm⟩
      exact ⟨h, ⟨hd, fun e he => lt_trans hd (((ih d).1 hm).2.1 e he)⟩, hm⟩
    · rintro ⟨h, ⟨hd, -⟩, hm⟩
      exact ⟨⟨h, hd⟩, hm⟩

/-- An address below every cell reads as unlisted. -/
theorem Memory.read_below {m : Memory} {a : Nat} (h : ∀ d ∈ m, a < d.1) : Memory.read m a = Memory.unlisted := by
  induction m with
  | nil => rfl
  | cons c m ih =>
    have hc := h c (by simp)
    simp only [Memory.read]
    rw [if_neg (by omega)]
    exact ih fun d hd => h d (by simp [hd])

/-- A cell put before the others is the one read at its address, and no other read changes. -/
theorem Memory.read_consCell {m : Memory} {a : Nat} (b : Byte) (h : ∀ d ∈ m, a < d.1) (x : Nat) :
    Memory.read (Memory.consCell a b m) x = if x = a then b else Memory.read m x := by
  unfold Memory.consCell
  split
  · next hb =>
    split
    · next hx => rw [hx, Memory.read_below h, hb]
    · rfl
  · simp only [Memory.read, eq_comm (a := x)]

theorem Memory.wf_consCell {m : Memory} {a : Nat} (b : Byte) (h : ∀ d ∈ m, a < d.1) (hm : Memory.wf m = true) :
    Memory.wf (Memory.consCell a b m) = true := by
  unfold Memory.consCell
  split
  · exact hm
  · next hb => exact (Memory.wf_cons _ _).2 ⟨hb, h, hm⟩

theorem Memory.mem_consCell {m : Memory} {a : Nat} {b : Byte} {d : Host.Cell} (h : d ∈ Memory.consCell a b m) :
    d = (a, b) ∨ d ∈ m := by
  unfold Memory.consCell at h
  split at h
  · exact .inr h
  · simpa using h

/-- A write adds no address but its own. -/
theorem Memory.mem_write {m : Memory} {a : Nat} {b : Byte} {d : Host.Cell} (h : d ∈ Memory.write m a b) :
    d = (a, b) ∨ d ∈ m := by
  induction m with
  | nil => exact Memory.mem_consCell h
  | cons c m ih =>
    simp only [Memory.write] at h
    split at h
    · exact Memory.mem_consCell h
    · split at h
      · exact (Memory.mem_consCell h).imp_right fun h => by simp [h]
      · rcases List.mem_cons.1 h with rfl | h
        · simp
        · exact (ih h).imp_right fun h => by simp [h]

/-- A write keeps the canonical form. -/
theorem Memory.wf_write {m : Memory} (hm : Memory.wf m = true) (a : Nat) (b : Byte) :
    Memory.wf (Memory.write m a b) = true := by
  induction m with
  | nil => exact Memory.wf_consCell b (by simp) rfl
  | cons c m ih =>
    obtain ⟨hc, hlt, hw⟩ := (Memory.wf_cons c m).1 hm
    simp only [Memory.write]
    split
    · next ha =>
      refine Memory.wf_consCell b (fun d hd => ?_) hm
      rcases List.mem_cons.1 hd with rfl | hd
      · exact ha
      · exact lt_trans ha (hlt d hd)
    · split
      · next ha => exact Memory.wf_consCell b (fun d hd => ha ▸ hlt d hd) hw
      · refine (Memory.wf_cons _ _).2 ⟨hc, fun d hd => ?_, ih hw⟩
        rcases Memory.mem_write hd with rfl | hd
        · show c.1 < a
          omega
        · exact hlt d hd

/-- A read after a write: the byte written at its own address, and what stood there everywhere else. -/
theorem Memory.read_write {m : Memory} (hm : Memory.wf m = true) (a : Nat) (b : Byte) (x : Nat) :
    Memory.read (Memory.write m a b) x = if x = a then b else Memory.read m x := by
  induction m with
  | nil => exact Memory.read_consCell b (by simp) x
  | cons c m ih =>
    obtain ⟨hc, hlt, hw⟩ := (Memory.wf_cons c m).1 hm
    simp only [Memory.write]
    split
    · next ha =>
      refine Memory.read_consCell b (fun d hd => ?_) x
      rcases List.mem_cons.1 hd with rfl | hd
      · exact ha
      · exact lt_trans ha (hlt d hd)
    · split
      · next ha =>
        rw [Memory.read_consCell b fun d hd => ha ▸ hlt d hd]
        simp only [Memory.read, ha]
        split
        · rfl
        · next hx => rw [if_neg fun h => hx h.symm]
      · next ha =>
        simp only [Memory.read, ih hw]
        split
        · next hx => rw [if_neg (by omega)]
        · rfl

theorem Memory.read_write_self {m : Memory} (hm : Memory.wf m = true) (a : Nat) (b : Byte) :
    Memory.read (Memory.write m a b) a = b := by simp [Memory.read_write hm]

theorem Memory.read_write_other {m : Memory} (hm : Memory.wf m = true) {a x : Nat} (b : Byte) (h : x ≠ a) :
    Memory.read (Memory.write m a b) x = Memory.read m x := by simp [Memory.read_write hm, h]

/-- A run of writes keeps the canonical form. -/
theorem Memory.wf_writeBytes {m : Memory} (hm : Memory.wf m = true) (a : Nat) (l : List Byte) :
    Memory.wf (Memory.writeBytes m a l) = true := by
  induction l generalizing m a with
  | nil => exact hm
  | cons b l ih => exact ih (Memory.wf_write hm a b) (a + 1)

/-- A run of writes leaves every byte outside it. -/
theorem Memory.read_writeBytes_outside {m : Memory} (hm : Memory.wf m = true) {a x : Nat} {l : List Byte}
    (h : x < a ∨ a + l.length ≤ x) : Memory.read (Memory.writeBytes m a l) x = Memory.read m x := by
  induction l generalizing m a with
  | nil => rfl
  | cons b l ih =>
    simp only [List.length_cons] at h
    simp only [Memory.writeBytes]
    rw [ih (Memory.wf_write hm a b) (by omega), Memory.read_write_other hm b (by omega)]

/-- A run of writes reads back byte by byte. -/
theorem Memory.read_writeBytes_inside {m : Memory} (hm : Memory.wf m = true) (a : Nat) (l : List Byte) {k : Nat}
    (h : k < l.length) : Memory.read (Memory.writeBytes m a l) (a + k) = l.getD k 0 := by
  induction l generalizing m a k with
  | nil => simp at h
  | cons b l ih =>
    simp only [Memory.writeBytes]
    cases k with
    | zero =>
      rw [Memory.read_writeBytes_outside (Memory.wf_write hm a b) (by omega)]
      simp [Memory.read_write_self hm]
    | succ k =>
      have := ih (Memory.wf_write hm a b) (a + 1) (k := k) (by simpa using h)
      simpa [Nat.add_assoc, Nat.add_comm 1 k] using this

@[simp] theorem Memory.length_readBytes (m : Memory) (a n : Nat) : (Memory.readBytes m a n).length = n := by
  induction n generalizing a with
  | zero => rfl
  | succ n ih => simp [Memory.readBytes, ih]

/-- A run of reads, byte by byte. -/
theorem Memory.getD_readBytes (m : Memory) (a : Nat) {n k : Nat} (h : k < n) :
    (Memory.readBytes m a n).getD k 0 = Memory.read m (a + k) := by
  induction n generalizing a k with
  | zero => omega
  | succ n ih =>
    cases k with
    | zero => simp [Memory.readBytes]
    | succ k =>
      have := ih (a + 1) (k := k) (by omega)
      simpa [Memory.readBytes, Nat.add_assoc, Nat.add_comm 1 k] using this

/-- The memory after reset has the canonical form. -/
theorem reset_memory_wf : State.reset.fs.memory.wf = true ∧ State.reset.fs.parity.wf = true := by decide

end Sys2Proof.Machine
end

