-- ==== Sys2Proof/WellFormed.lean ====
section
/-! DEFINITION. What an operand of a command must be for the command to be the event its row names. `exec` is total
on ill-formed commands as well; each check here says only which of them the part's surroundings can produce. -/

namespace Sys2Proof

/-- A mode byte that a SAMPLE row may carry: its own code, or a byte that names no mode (R144, R185). -/
def sampleModeByte (own : Nat) (mode : Byte) : Bool :=
  mode.toNat == own || decide (2 < mode.toNat)

/-- The operands of a command are in their ranges. -/
def Instr.wellFormed : Instr → Bool
  | .profile _ payload => decide (Config.profileBytes ≤ payload.length)
  | .mesh _ payload =>
    decide (3 ≤ payload.length) && decide (3 + Config.vertexBytes * meshCount payload ≤ payload.length)
  | .sampleSingle _ _ mode => sampleModeByte 0 mode
  | .sampleContinuous _ _ mode => sampleModeByte 1 mode
  | .sampleStop _ _ mode => sampleModeByte 2 mode
  | .unknown _ code => (decodeCommand code).isNone
  | .length _ code payload => shortTransaction code payload
  | .transactionBegin select => decide (0 < select.low)
  | .startMarkBegin _ joined => decide (joined ≤ Config.joinWindow)
  | .startMarkRecognised _ _ _ _ run => decide (0 < run)
  | .messageEndedShort _ _ run => decide (0 < run)
  | .strayPulse _ width => decide (0 < width)
  | .start _ => true
  | .stop _ => true
  | .reset _ => true
  | .status _ => true
  | .peers _ => true
  | .counters _ => true
  | .trap _ => true
  | .readSample _ => true
  | .hardwareReset _ => true
  | .rstnRelease _ => true
  | .frameStart _ _ => true
  | .cutoff _ => true
  | .arbitrationLost _ => true
  | .bitFault _ _ => true
  | .messageComplete _ => true
  | .pulseExpired _ => true
  | .stuck _ => true
  | .linkNormal _ => true
  | .pulse _ _ _ _ => true
  | .ready _ _ _ _ => true
  | .leave _ _ _ _ => true
  | .silent _ _ _ => true
  | .isolated _ _ => true
  | .coldStartTest _ _ => true
  | .orphanTest _ _ => true
  | .lockTimeout _ _ => true
  | .passComplete _ => true
  | .conversionComplete _ _ => true
  | .manualConversionComplete _ _ => true
  | .inputFrameStart _ => true
  | .inputPixel _ _ => true
  | .lineEnd _ => true
  | .trailerLineEnd _ => true
  | .inputLost _ => true
  | .writeBurst _ => true
  | .readBurst _ _ => true
  | .pixelDue _ => true
  | .arbitrationFieldEnd _ => true

end Sys2Proof
end

