-- ==== Sys2Proof/Tests/Slice0.lean ====
section
/-! SUPPORT. Named tests: the refusals of WellFormed, the command codes, the manual's worked examples, and for every
statement with hypotheses one theorem showing a state and operands that meet them. Each expected figure is the manual's
own; the chapter is named beside it. -/

namespace Sys2Proof.Tests

open Sys2Proof Sys2Proof.Machine

/-! ### Ill-formed commands are refused, one for each check of WellFormed -/

theorem test_refuses_short_profile : (Instr.profile 0 (List.replicate 44 0)).wellFormed = false := by decide

theorem test_refuses_mesh_without_count : (Instr.mesh 0 [0, 0]).wellFormed = false := by decide

theorem test_refuses_short_mesh : (Instr.mesh 0 (0 :: 0 :: 2 :: List.replicate 31 0)).wellFormed = false := by decide

theorem test_refuses_other_sample_modes :
    (Instr.sampleSingle 0 0 1).wellFormed = false ∧ (Instr.sampleContinuous 0 0 2).wellFormed = false ∧
    (Instr.sampleStop 0 0 0).wellFormed = false := by decide

theorem test_refuses_unknown_with_known_code : (Instr.unknown 0 0x84).wellFormed = false := by decide

theorem test_refuses_length_of_whole_payload : (Instr.length 0 0x30 [0, 0]).wellFormed = false := by decide

theorem test_refuses_length_of_read : (Instr.length 0 0x80 []).wellFormed = false := by decide

theorem test_refuses_late_join : (Instr.startMarkBegin 0 101).wellFormed = false := by decide

theorem test_refuses_marks_without_run :
    (Instr.startMarkRecognised 0 true true false 0).wellFormed = false ∧
    (Instr.messageEndedShort 0 .kindThree 0).wellFormed = false ∧ (Instr.strayPulse 0 0).wellFormed = false := by decide

theorem test_refuses_selection_without_length : (Instr.transactionBegin ⟨5, 0⟩).wellFormed = false := by decide

theorem test_accepts :
    (Instr.profile 0 (List.replicate 45 0)).wellFormed = true ∧
    (Instr.mesh 0 (0 :: 0 :: 2 :: List.replicate 32 0)).wellFormed = true ∧
    (Instr.sampleStop 0 7 2).wellFormed = true ∧ (Instr.unknown 0 0x22).wellFormed = true ∧
    (Instr.length 0 0x30 [0]).wellFormed = true ∧ (Instr.transactionBegin ⟨5, 1⟩).wellFormed = true ∧
    (Instr.startMarkBegin 0 100).wellFormed = true := by decide

/-! ### The command codes of R185 -/

theorem test_command_codes :
    ([0x10, 0x11, 0x20, 0x21, 0x2F, 0x30, 0x80, 0x81, 0x82, 0x83, 0x84] : List Byte).map decodeCommand =
      [some .profile, some .mesh, some .start, some .stop, some .reset, some .sample, some .status, some .peers,
       some .counters, some .trap, some .readSample] := by decide

theorem test_code_between_commands : decodeCommand 0x12 = none ∧ decodeCommand 0x85 = none := by decide

/-- R185: what a transaction's bytes make, of each kind of command. -/
theorem test_transaction_rows :
    let line : LineLevel := ⟨false, 0⟩
    let row (code : Byte) (payload : List Byte) : Instr := transactionInstr 5 line code payload
    row 0x20 [] = .start 5 ∧ row 0x21 [] = .stop 5 ∧ row 0x2F [] = .reset ⟨5, line⟩ ∧ row 0x80 [] = .status 5 ∧
    row 0x83 [] = .trap 5 ∧ row 0x30 [1, 0] = .sampleSingle 5 1 0 ∧ row 0x30 [1, 1] = .sampleContinuous 5 1 1 ∧
    row 0x30 [1, 2] = .sampleStop 5 1 2 ∧ row 0x30 [1] = .length 5 0x30 [1] ∧
    row 0x11 [0, 0, 0] = .mesh 5 [0, 0, 0] ∧ row 0x11 [0, 0, 1] = .length 5 0x11 [0, 0, 1] ∧
    row 0x10 [0] = .length 5 0x10 [0] ∧ row 0x22 [7] = .unknown 5 0x22 := by decide

/-- R169: most significant bit first, eight at a time; a final partial byte is discarded, and an incomplete command byte
makes no row. The bits are those of SAMPLE with the channel byte 01 and the mode byte 02. -/
theorem test_bits_form_bytes :
    let sample : List Bool := [false, false, true, true, false, false, false, false]
    let channel : List Bool := [false, false, false, false, false, false, false, true]
    let mode : List Bool := [false, false, false, false, false, false, true, false]
    let row (bits : List Bool) : Option Instr := bitsInstr 5 ⟨false, 0⟩ bits
    bytesOfBits (sample ++ channel ++ mode ++ [true, true, true]) = [0x30, 0x01, 0x02] ∧
    row (sample ++ channel ++ mode ++ [true, true, true]) = some (.sampleStop 5 1 2) ∧
    row (sample ++ channel ++ mode.take 7) = some (.length 5 0x30 [1]) ∧ row (sample.take 7) = none := by decide

/-! ### Worked examples: stations and profiles -/

/-- The PROFILE payload of the worked clamp; the structural fields it does not name are the worked pixel's and the worked
lamp's (01_stations_profiles_and_show_states.md, Worked clamp). -/
def clampPayload : List Byte :=
  [6] ++ be16 8333 ++ be16 1920 ++ be16 1088 ++ be16 1920 ++ be16 1080 ++ [1, 0] ++ be16 200 ++ be16 3800 ++ be16 0
    ++ be16 0 ++ be16 655 ++ be16 6000 ++ be16 7000 ++ be16 400 ++ [3] ++ be16 3 ++ be16 4 ++ be16 400 ++ be16 50
    ++ [50] ++ be16 2500 ++ be16 120 ++ [3, 4]

/-- The profile that the worked clamp leaves. -/
def clamped : Profile := clampProfile (readProfile clampPayload)

theorem test_worked_clamp :
    clamped.tMin = 8192 ∧ clamped.tReturn = 8192 ∧ clamped.lockTolerance = 5 ∧ clamped.unlockThreshold = 6 ∧
    clamped.cutoffLead = 2083 ∧ firstClamped (readProfile clampPayload) = some 13 ∧
    structuralFault (readProfile clampPayload) = none := by decide

/-- 12_formats_and_layouts.md, Worked dome tag. -/
theorem test_worked_dome_tag :
    crc8 (([0x20, 0x8D, 0x01, 0x02, 0x8F, 0x20, 0x00] : List Byte).flatMap bitsOf) = 0x23 ∧ domeTagOf clamped = 3 := by
  decide +kernel

/-- 02_the_blend_mesh.md, Worked writes. -/
theorem test_worked_grid : clamped.columns = 61 ∧ clamped.rows = 35 ∧ clamped.columns * clamped.rows = 2135 := by decide

/-- 12_formats_and_layouts.md, the record of vertex 641. -/
theorem test_worked_vertex_record :
    (readVertex [0, 0, 0, 0, 0x82, 0x40, 0x00, 0x05, 0x40, 0x00, 0x07, 0x10, 0x00, 0, 0, 0] 0).stored =
      { u := 0, v := 0, inside := true, rSelf := 16384, coverers := [⟨5, 16384⟩, ⟨7, 4096⟩] } := by decide

/-- 02_the_blend_mesh.md, Worked writes: the third record of the first run lists station 7 twice. -/
theorem test_worked_writes :
    (takeRecords 6 2135
      [⟨0, 0, true, 1, 24576, [(5, 8192)]⟩, ⟨0, 0, true, 2, 16384, [(5, 16384), (7, 4096)]⟩,
       ⟨0, 0, true, 2, 20000, [(7, 9000), (7, 3000)]⟩, ⟨0, 0, true, 0, 32768, []⟩] 640 Mesh.blank).2 = some 642 ∧
    (takeRecords 6 2135 [⟨0, 0, true, 0, 32768, []⟩, ⟨0, 0, true, 0, 32768, []⟩] 2134 Mesh.blank).2 = some 2134 := by
  decide

/-! ### Worked examples: the seam link -/

/-- 12_formats_and_layouts.md, Worked CRC: a LEAVE from station 6. -/
theorem test_worked_crc :
    messageBits 6 (.leave { reason := 2, forStop := true }) =
      [false, false, false, true, true, false, false, false, true, false, false, false, false, false,
       true, false, false, true, true, true, true, false] ∧
    (Body.leave { reason := 2, forStop := true }).length = 26 := by
  decide +kernel

/-- 03_seam_link_signalling.md, Worked contention: the delays filled at 42.75 µs and at 133.5 µs. -/
theorem test_worked_delays :
    let delay (f t0 : Nat) : BitVec 12 :=
      pulseDelay { beat := 0, shown := 0, level := 0, depth := 0, state := 0, lock := 0, tag := 0, frameStart := f } t0
    [delay 10 42750, delay 12 42750, delay 15 42750, delay 12 133500, delay 15 133500, delay 15 223750] =
      [32, 30, 27, 121, 118, 208] := by decide

/-- 03_seam_link_signalling.md, Worked contention: the required quiet of a PULSE, at the flag's holder and elsewhere. -/
theorem test_worked_quiet :
    let pulse : Offer := .pulse
      { msg := { beat := 0, shown := 0, level := 0, depth := 0, state := 0, lock := 0, tag := 0, frameStart := 0 },
        retries := 0, retried := false }
    requiredQuiet false pulse = 9 ∧ requiredQuiet true pulse = 13 ∧
    requiredQuiet true (.leave { msg := { reason := 2, forStop := true }, retries := 0, retried := false }) = 5 := by
  decide

/-- 12_formats_and_layouts.md: a PULSE payload's fields stand at their cells. -/
theorem test_pulse_fields :
    readPulse (0x2A#8 ++ 0x0412#16 ++ 0x020#12 ++ 0x7333#16 ++ 1#2 ++ 1#2 ++ 3#3 ++ 3#5) =
      { beat := 0x2A, shown := 1042, delay := 32, level := 29491, depth := 2, state := 1, lock := .reference, tag := 3 } := by
  decide

/-! ### Worked examples: cadence -/

/-- The corrected lengths of 05_cadence.md, Worked tracking: e of 48, 36, 27, 21, 16, 12, 9 and 7 µs, and the clamp at
2000 µs. -/
theorem test_worked_tracking :
    ([48, 36, 27, 21, 16, 12, 9, 7, 2000] : List Int).map (fun e => correctedLength 8333 (correction 50 e)) =
      [8321, 8324, 8327, 8328, 8329, 8330, 8331, 8332, 8283] := by decide

/-- 05_cadence.md: the folded error of −8300 µs is 33, and its correction 8. -/
theorem test_worked_fold : foldError 8333 (100100 - 108400) = 33 ∧ correction 50 33 = 8 := by decide

/-! ### Worked examples: weights -/

/-- The vertex of 07_the_weight_engine.md, Worked arithmetic. -/
def workedVertex : Vertex := { u := 0, v := 0, inside := true, rSelf := 24576, coverers := [⟨5, 8192⟩] }

theorem test_worked_weights_both_lit :
    computeVertex clamped { alive := [5, 12], lSelf := 29491, ceiling := 26214, kDome := 2, serial := 0 } workedVertex =
      { weight := ⟨21299, 0⟩, k := 2, saturated := false } := by decide +kernel

theorem test_worked_weights_peer_dark :
    computeVertex clamped { alive := [12], lSelf := 29491, ceiling := 26214, kDome := 2, serial := 1 } workedVertex =
      { weight := ⟨28399, 728⟩, k := 1, saturated := false } := by decide +kernel

/-! ### Worked examples: one output pixel -/

/-- 08_warp_and_blend_pipeline.md, Worked pixel: the four interpolated figures. -/
theorem test_worked_interpolation :
    [interpolate 8 24 28000 28800 28400 28660, interpolate 8 24 700 760 735 722,
     interpolate 8 24 16000 16520 16010 16530, interpolate 8 24 9600 9604 10112 10116] = [28399, 728, 16138, 9985] := by
  decide

/-- The same pixel's cell, and the source pixels it needs with their weights. -/
theorem test_worked_sources :
    cellVertex clamped 968 344 = 640 ∧
    sourcesOf clamped
        { Mesh.blank with records :=
          [(640, ⟨16000, 9600, true, 1, []⟩), (641, ⟨16520, 9604, true, 1, []⟩), (701, ⟨16010, 10112, true, 1, []⟩),
           (702, ⟨16530, 10116, true, 1, []⟩)] } 968 344 =
      [⟨1008, 624, 90⟩, ⟨1009, 624, 150⟩, ⟨1008, 625, 6⟩, ⟨1009, 625, 10⟩] := by decide +kernel

/-- The same pixel's sampled codes and output codes, and the codes of the pixel at the limit. -/
theorem test_worked_blend :
    let l : List (Nat × Pixel) :=
      [(90, pixelOf 1023 600 0), (150, pixelOf 1023 460 0), (6, pixelOf 1020 500 3), (10, pixelOf 1021 500 2)]
    [sampleCode red l, sampleCode green l, sampleCode blue l] = [1023, 512, 0] ∧
    blendPixel .power22 28399 728 l = pixelOf 970 505 181 ∧ floorPixel .power22 728 = pixelOf 181 181 181 ∧
    channelCode .linear 32040 728 32768 = 1023 ∧ clips 32040 728 32768 = false ∧ clips 32041 728 32768 = true := by
  decide +kernel

/-- 08_warp_and_blend_pipeline.md, entries of the linearizing tables. -/
theorem test_transfer_entries :
    [linearize .linear 256, linearize .linear 512, linearize .power22 256, linearize .power22 512,
     linearize .power24 256, linearize .power24 512] = [8200, 16400, 1555, 7147, 1179, 6223] := by decide +kernel

/-! ### Worked examples: lamp and frames -/

/-- 09_lamp_sensing.md, Worked hysteresis: which averages move L_ann. -/
theorem test_worked_hysteresis :
    let p := { clamped with tReturn := 9000 }
    [announces p 8420 8700, announces p 8290 8700, announces p 8150 8290, announces p 8700 8150, announces p 8950 8700,
     announces p 9020 8700] = [false, true, true, true, false, true] := by decide

/-- 09_lamp_sensing.md, one lamp of two: the channel values of 3320 and 3232, and L_meas. -/
theorem test_worked_channel_values :
    channelValue 200 3800 ⟨13280, 4⟩ = 28399 ∧ channelValue 200 3800 ⟨12928, 4⟩ = 27598 ∧
    measured .dual 28399 27598 = 27998 := by decide

/-- The trailer of frame 1042: codes 16 and 288 in the first pixel, their complements in the second (R156, R181). -/
theorem test_trailer :
    trailerFrame [pixelOf 16 288 707, pixelOf 1007 735 707] = some 1042 ∧
    trailerFrame [pixelOf 16 289 707, pixelOf 1007 734 707] = none := by decide

/-- Frame numbers wrap: 3 is newer than 65530, and 32768 ahead is neither newer nor older (00_scope.md, Conventions). -/
theorem test_newer_wraps : newer 3 65530 = true ∧ newer 0x8000 0 = false ∧ older 0x8000 0 = false := by decide

/-! ### States for the witnesses -/

/-- A profile in every range of R4 and R5, of station 6, with a grid of 9 × 5 vertices. -/
def profile6 : Profile :=
  { Profile.zero with
    station := 6, period := 8333, outWidth := 256, outHeight := 128, inWidth := 256, inHeight := 128,
    curve := .power22, dark0 := 200, rated0 := 3800, blackStep := 655, tMin := 8192, tReturn := 9000, lStep := 400,
    silenceLimit := 3, lockTolerance := 20, unlockThreshold := 100, freeEnter := 400, freeExit := 50, slew := 50,
    cutoffLead := 2083, lockTimeout := 120, retryLimit := 3, glitchWidth := 4 }

/-- The part in CONFIG with that profile and a complete mesh, 10 ms after its last frame start. -/
def loaded : State :=
  { State.reset with
    now := 10010000,
    sc := { Station.reset with profile := profile6, profileValid := true, domeTag := 3 },
    mt := { records := (List.range 45).map fun i => (i, workedVertex), marked := 45, neighbours := [5] },
    slc := { Link.reset 0 with receiver := .stopped },
    cu := { Cadence.reset with
      running := true, latestFrameStart := some 10000, periodEnd := some 18333, baseLength := 8333,
      lastPeriod := some 8333 },
    we := { WeightEngine.reset with shown := List.replicate 45 ⟨0, 0⟩, work := List.replicate 45 ⟨0, 0⟩ },
    wbp := { Pipeline.reset with mode := .black, position := some (0, 0), frameAt := 10000000 } }

/-- A LIVE neighbour in step, a JOINING peer and a silent one. -/
def peers6 : List PeerEntry :=
  [ PeerEntry.absent, PeerEntry.absent, PeerEntry.absent, PeerEntry.absent, PeerEntry.absent,
    { status := .live, level := some 26214, depth := some 2, state := some .showing, lock := some .locked,
      shown := some 1040, latestReady := some 1041, silence := 0, reason := none },
    PeerEntry.absent, PeerEntry.absent, PeerEntry.absent,
    { PeerEntry.absent with
      status := .joining, level := some 0, depth := some 1, state := some .joining, lock := some .seeking },
    PeerEntry.absent, PeerEntry.absent,
    { PeerEntry.absent with status := .silent, level := some 26214, depth := some 2, silence := 3 },
    PeerEntry.absent, PeerEntry.absent, PeerEntry.absent ]

/-- The same station SHOWING and LOCKED to station 5, frame 1040 SHOWN, two frames READY and one FILLING. -/
def onShow : State :=
  { loaded with
    sc := { loaded.sc with state := .showing },
    slc := Link.reset 0,
    pt := { entries := peers6, condition := .normal, unheard := 0,
            view := { alive := [5], lSelf := 29491, ceiling := 26214, kDome := 2, serial := 7 } },
    cu := { loaded.cu with lock := .locked, reference := some 5, lockCount := 4, windowCount := 5, frameCount := 40 },
    we := { loaded.we with
      promoted := true, kLocal := 2, copy := { alive := [5], lSelf := 29491, ceiling := 26214, kDome := 2, serial := 7 } },
    ls := { Lamp.reset with mode := .auto, l0 := 29491, lMeas := 29491, lAnn := 29491 },
    wbp := { loaded.wbp with mode := .picture, frameSlot := some 0 },
    fs := { FrameStore.reset [] [] with
      slots := [.shown 1040, .ready 1041 1 false, .filling, .ready 1042 2 false], port := .picture, lineCount := 3,
      linePixels := 7, lossStart := some 10002, fifo := [⟨2, 3, 6, 5⟩] } }

/-- The same station at its next frame start. -/
def atEnd : State := { onShow with now := 18333000 }

/-- The same station JOINING and SEEKING, its fourth frame start just taken. -/
def joining6 : State :=
  { onShow with
    sc := { onShow.sc with state := .joining, joinCount := 4 },
    now := 10000000,
    cu := { onShow.cu with lock := .seeking, reference := none, lockCount := 0, windowCount := 4 },
    wbp := { loaded.wbp with mode := .black } }

/-- A transaction is open, and SVC_CSN rises 500 ns from now. -/
def asking (s : State) : State := { s with svp := { s.svp with transaction := .opened, rise := s.now + 500 } }

/-- The bits of SVC_SDI that a byte comes with, most significant first. -/
def sdiBits (b : Byte) : List Bool := (List.range 8).map fun k => b.getMsbD k

/-- The rising edges of SVC_SCK that bring these bits, 50 ns apart (20 MHz). -/
def clocked (bits : List Bool) (s : State) : State := bits.foldl (fun s b => s.clockIn 50 b) s

/-- R169, R170, R179: STATUS clocked in is taken at its eighth bit, and its turnaround byte and record follow on SVC_SDO; a
port whose SVC_CSN is high, or whose transaction is ignored, samples nothing. -/
theorem test_status_clocked :
    let low := { asking onShow with svp := { (asking onShow).svp with rise := onShow.now + 5000 } }
    let seen := clocked (sdiBits 0x80) low
    seen.svp.received = [true, false, false, false, false, false, false, false] ∧
    (seen.withReceived 0 ⟨false, 0⟩).pending = [.status 0] ∧
    (clocked [true] (asking { onShow with now := 10010000 })).svp.received = [true] ∧
    (clocked (List.replicate 10 true) (asking onShow)).svp.received.length = 9 ∧
    (clocked (sdiBits 0x80) onShow).svp.received = [] ∧
    ((clocked (List.replicate 15 false)
      { seen with svp := { seen.svp with transaction := .reading, shiftOut := [0, 2, 0xC1] } }).sdo,
     (clocked (List.replicate 14 false)
      { seen with svp := { seen.svp with transaction := .reading, shiftOut := [0, 2, 0xC1] } }).sdo) = (false, true) := by
  decide

/-! ### The read records of R184 -/

/-- The STATUS record of the station on show, byte by byte from R184's table. -/
theorem test_status_record :
    statusRecord onShow =
      [2, 0xC1, 0, 0, 0, 0, 1, 5, 0x04, 0x10, 0x04, 0x12, 3, 0x04, 0x10, 2, 0x04, 0x11, 1, 0, 0, 2, 0x04, 0x12, 1,
       0x73, 0x33, 0x66, 0x66, 2, 7, 0, 2, 0, 0, 0xFF, 0xFF, 0] := by decide

/-- Entry 5 of its PEERS record, and the own entry in CONFIG. -/
theorem test_peers_record :
    ((peersRecord onShow).drop 65).take 13 = [2, 0x3F, 0x66, 0x66, 2, 1, 1, 0x04, 0x10, 0x04, 0x11, 0, 0] ∧
    ((peersRecord loaded).drop 78).take 13 = [0, 0x02, 0, 0, 1, 0, 0, 0, 0, 0, 0, 0, 0] := by decide

theorem test_trap_record :
    trapRecord { onShow with fs := { onShow.fs with trap := some ⟨1, 2, 3, true⟩ } } = [3, 1, 0, 2, 3] := by decide

/-! ### Witnesses: the queue and the service port -/

theorem witness_StepTakesFront :
    ({ onShow with pending := [.start 5, .stop 7] }).pending = .start 5 :: [.stop 7] ∧ onShow.pending = [] := by decide

/-- A closed port, one whose SVC_CSN rises at this instant, and one whose SVC_CSN is low up to the next; an action at the
rise, before it and after it; a read at the last instant before the rise and at the rise. -/
theorem witness_PortTransactions :
    onShow.rstnLow = false ∧ onShow.svp.transaction = .closed ∧ (asking onShow).rstnLow = false ∧
    (asking onShow).svp.transaction ≠ .closed ∧ (asking onShow).svp.rise ≤ (asking onShow).now + 500 ∧
    (asking onShow).now + 499 < (asking onShow).svp.rise ∧ (asking onShow).takesAction 500 ∧
    ¬(asking onShow).takesAction 499 ∧ ¬(asking onShow).takesAction 501 ∧ (asking onShow).takesRead 499 ∧
    ¬(asking onShow).takesRead 500 ∧ ¬onShow.takesRead 0 ∧
    (clocked ((sdiBits 0x30).take 7) (asking onShow)).svp.received.length < 8 ∧
    (clocked (sdiBits 0x30 ++ [true]) (asking onShow)).svp.received =
      sdiBits 0x30 ++ ([] : List Byte).flatMap sdiBits ++ [true] ∧
    decodeCommand 0x12 = none ∧ shortTransaction 0x30 [0] = true ∧ shortTransaction 0x11 [0, 0, 1] = true ∧
    (0x22 : Byte) ∉ ([0x10, 0x11, 0x20, 0x21, 0x2F, 0x30, 0x80, 0x81, 0x82, 0x83, 0x84] : List Byte) := by decide

theorem witness_ReadsTaken :
    (asking onShow).takesRead 499 ∧ (asking onShow).we.engine ≠ .computing ∧
    (let s := asking { onShow with we := { onShow.we with engine := .computing, passStart := some 10009000 } }
     s.takesRead 0 ∧ s.we.engine = .computing ∧ s.we.passStart = some 10009000) := by decide

theorem witness_CommandsRefused :
    (asking onShow).takesAction 500 ∧ (asking onShow).sc.state ≠ .config ∧
    Config.profileBytes ≤ clampPayload.length ∧
    3 + Config.vertexBytes * meshCount [0, 0, 0] ≤ ([0, 0, 0] : List Byte).length ∧
    (asking State.reset).takesAction 500 ∧ (asking State.reset).sc.state = .config ∧
    (asking State.reset).sc.profileValid = false ∧
    (let s := asking { loaded with mt := Mesh.blank }
     s.takesAction 500 ∧ s.sc.state = .config ∧ s.sc.profileValid = true ∧ s.mt.marked ≠ s.sc.vertexCount) ∧
    (let s := asking { onShow with sc := { onShow.sc with state := .stopping } }
     s.takesAction 500 ∧ s.sc.state = .stopping) := by decide

/-- A profile whose P of 3999 µs and whose curve code 3 both fail, one whose first field fails with them, and one of DUAL
mode whose last field alone fails. -/
theorem witness_BadFieldRefused :
    let payload := [6] ++ be16 3999 ++ clampPayload.drop 3
    (asking loaded).takesAction 500 ∧ (asking loaded).sc.state = .config ∧ Config.profileBytes ≤ payload.length ∧
    structuralFault (readProfile payload) = some 1 ∧
    structuralFault { readProfile payload with station := 16 } = some 0 ∧
    structuralFault { readProfile clampPayload with lampMode := 1, rated1 := 255 } = some 11 ∧
    2 ≤ (2 : Byte).toNat ∧ (1 : Byte).toNat < 2 ∧ 2 < (3 : Byte).toNat := by decide

theorem witness_ProfileAccepted :
    (asking onShow).takesAction 500 ∧ (asking loaded).takesAction 500 ∧ (asking loaded).sc.state = .config ∧
    Config.profileBytes ≤ clampPayload.length ∧ StructuralInRange (readProfile clampPayload) := by decide

/-- A vertex record of R182 with these coverers. -/
def vertexBytes (rSelf : Nat) (coverers : List (Nat × Nat)) : List Byte :=
  be16 0 ++ be16 0 ++ [byteOf (128 + coverers.length)] ++ be16 rSelf
    ++ (coverers ++ List.replicate (3 - coverers.length) (0, 0)).flatMap fun (e : Nat × Nat) => byteOf e.1 :: be16 e.2

/-- The third record lists station 7 twice. -/
def badRun : List Byte :=
  be16 40 ++ [3] ++ vertexBytes 24576 [(5, 8192)] ++ vertexBytes 16384 [(5, 16384), (7, 4096)]
    ++ vertexBytes 20000 [(7, 9000), (7, 3000)]

/-- The second record lies beyond the grid of 45 vertices. -/
def longRun : List Byte := be16 44 ++ [2] ++ vertexBytes 24576 [(5, 8192)] ++ vertexBytes 32768 []

/-- Both records pass. -/
def goodRun : List Byte := be16 43 ++ [2] ++ vertexBytes 24576 [(5, 8192)] ++ vertexBytes 32768 []

/-- The premises of MeshTaken that bear on a payload. -/
abbrev meshPremises (payload : List Byte) (s : State) (n : Nat) : Prop :=
  3 ≤ payload.length ∧ 3 + Config.vertexBytes * meshCount payload ≤ payload.length ∧
  (∀ j < n, ∀ q ∈ (readVertices payload)[j]?,
    wordAt payload 0 + j < s.sc.vertexCount ∧ q.fails s.profile.station = false) ∧
  n ≤ (readVertices payload).length ∧
  ∀ q ∈ (readVertices payload)[n]?, s.sc.vertexCount ≤ wordAt payload 0 + n ∨ q.fails s.profile.station = true

theorem witness_MeshTaken :
    (asking loaded).takesAction 500 ∧ (asking loaded).sc.state = .config ∧ (asking loaded).sc.profileValid = true ∧
    MeshSound (asking loaded) ∧ meshPremises badRun (asking loaded) 2 ∧ meshPremises longRun (asking loaded) 1 ∧
    meshPremises goodRun (asking loaded) 2 := by decide +kernel

theorem witness_StartAccepted :
    (asking loaded).takesAction 500 ∧ (asking loaded).sc.state = .config ∧ (asking loaded).sc.profileValid = true ∧
    (asking loaded).mt.marked = (asking loaded).sc.vertexCount ∧ WeightsSound (asking loaded) ∧
    PictureOnlyShowing (asking loaded) ∧
    (let manual : Conversion := { channel := .lamp0, manual := true, completesAt := 10026500 }
     let s := asking { loaded with ls := { loaded.ls with
       mode := .manualContinuous, conversion := some manual, repeatedAt := some 10010500 } }
     s.takesAction 500 ∧ s.ls.conversion.any Conversion.manual = true ∧ s.ls.repeatedAt = some (s.now + 500)) := by
  decide +kernel

/-- R147: a manual completion in MANUAL-CONTINUOUS and START at one instant leave AUTO and no conversion in either order.
-/
theorem test_start_with_completion :
    let manual : Conversion := { channel := .lamp0, manual := true, completesAt := 10010500 }
    let s := asking { loaded with ls := { loaded.ls with mode := .manualContinuous, conversion := some manual } }
    let mode : Host.Outcome State Fault Refusal → Option (SamplerMode × Option Conversion × Bool)
      | .next t => some (t.ls.mode, t.ls.conversion, t.ls.autoPending)
      | _ => none
    let andThen (r : Host.Outcome State Fault Refusal) (c : Instr) : Host.Outcome State Fault Refusal :=
      match r with
      | .next t => exec c t
      | x => x
    mode (andThen (exec (.manualConversionComplete 500 7) s) (.start 0)) = some (.auto, none, false) ∧
    mode (andThen (exec (.start 500) s) (.manualConversionComplete 0 7)) = some (.auto, none, false) := by
  decide +kernel

theorem witness_StopTaken :
    (asking onShow).takesAction 500 ∧ (asking onShow).sc.state = .showing ∧ (asking onShow).wbp.mode = .picture ∧
    (asking joining6).takesAction 500 ∧ (asking joining6).sc.state = .joining ∧ (asking joining6).wbp.mode ≠ .picture := by
  decide

/-- A quiet link, and one with a message on the line. -/
theorem witness_ResetTaken :
    (asking onShow).takesAction 500 ∧ onShow.slc.busy = false ∧
    (let s := asking { onShow with slc := { onShow.slc with receiver := .receiving 10010000 false } }
     s.takesAction 500 ∧ s.slc.busy = true) := by decide

theorem witness_SampleTaken :
    (asking loaded).takesAction 500 ∧ (asking loaded).sc.state = .config ∧
    ((0 : Byte) = 0 ∧ Channel.lamp0 = .lamp0 ∨ (0 : Byte) = 1 ∧ Channel.lamp0 = .lamp1) ∧
    ((1 : Byte) = 0 ∧ Channel.lamp1 = .lamp0 ∨ (1 : Byte) = 1 ∧ Channel.lamp1 = .lamp1) := by decide

theorem witness_ResetLine :
    (heldInReset onShow).rstnLow = true ∧ (∀ dt, Instr.status 5 ≠ .hardwareReset dt) ∧
    ∀ dt, Instr.status 5 ≠ .rstnRelease dt :=
  ⟨by decide, nofun, nofun⟩

/-! ### Witnesses: own frame starts -/

theorem witness_FrameStartTimer :
    atEnd.rstnLow = false ∧ atEnd.cu.running = true ∧ atEnd.cu.periodEnd = some 18333 ∧
    atEnd.now + 0 = toNs 18333 ∧ atEnd.running = true ∧ atEnd.sc.state ≠ .config ∧
    loaded.cu.periodEnd = some 18333 ∧ loaded.now + 8323000 = toNs 18333 ∧ loaded.running = false := by decide

/-- Each decision record, and a slot of each kind under a SWAP to frame 1042, with the memory free, with a write burst into
a slot that the SWAP frees, and with one granted at this very instant. -/
theorem witness_FrameStartEnacts :
    let swap := { atEnd with
      swu := .swap 1042 3,
      fs := { atEnd.fs with slots := [.shown 1040, .ready 1041 1 false, .filling, .ready 1042 2 true] } }
    swap.rstnLow = false ∧ swap.cu.running = true ∧ swap.cu.periodEnd = some 18333 ∧ swap.now + 0 = toNs 18333 ∧
    swap.swu = .swap 1042 3 ∧ StoreInOrder { swap with cu := { swap.cu with cutoffTaken := true } } ∧
    slotAt swap.fs.slots 0 = .shown 1040 ∧ slotAt swap.fs.slots 1 = .ready 1041 1 false ∧
    slotAt swap.fs.slots 2 = .filling ∧ atEnd.swu = .none ∧ ({ atEnd with swu := .hold }).swu = .hold ∧
    swap.fs.arb.owner = .none ∧
    (let writes (granted : Option Nat) : Arbiter :=
      { owner := .writer, budget := 5, burst := some (.write 1 0 0 true), memoryFree := 18333003, turnEnds := false,
        grantedAt := granted }
     ∀ granted ∈ [none, some 18333000], ArbiterInOrder { swap with fs := { swap.fs with arb := writes granted } }) := by
  decide

/-- The frame start at which the unheard count reaches the limit with a peer heard, one short of it, and the last of the
join window. -/
theorem witness_FrameStartCounts :
    atEnd.rstnLow = false ∧ atEnd.cu.running = true ∧ atEnd.cu.periodEnd = some 18333 ∧ atEnd.now + 0 = toNs 18333 ∧
    atEnd.running = true ∧ atEnd.somePeerHeard = true ∧ atEnd.pt.unheard + 1 < atEnd.profile.silenceLimit ∧
    (let s := { atEnd with pt := { atEnd.pt with unheard := 2 } }
     min s.profile.silenceLimit (s.pt.unheard + 1) = s.profile.silenceLimit ∧ s.somePeerHeard = true) ∧
    loaded.running = false := by decide

theorem witness_FrameStartPromotes :
    atEnd.rstnLow = false ∧ atEnd.cu.running = true ∧ atEnd.cu.periodEnd = some 18333 ∧ atEnd.now + 0 = toNs 18333 ∧
    atEnd.running = true ∧ atEnd.we.engine ≠ .pending ∧
    (let s := { joining6 with
       now := 18333000, sc := { joining6.sc with lockWaived := true },
       we := { joining6.we with engine := .pending, promoted := false } }
     s.we.engine = .pending ∧ s.we.again = false ∧ s.sc.state = .joining ∧ s.lockMet = true ∧
     s.cu.periodEnd = some 18333) := by decide

/-- A station with one output pixel, so that its need list is short. -/
def onePixel : State :=
  { atEnd with
    sc := { atEnd.sc with profile := { profile6 with outWidth := 1, outHeight := 1 } },
    we := { atEnd.we with shown := [⟨21299, 728⟩], work := [⟨0, 0⟩] } }

/-- The memory free, owned by the writer, and owned by the reader with a fetch in progress. -/
theorem witness_FrameStartOutput :
    onePixel.rstnLow = false ∧ onePixel.cu.running = true ∧ onePixel.cu.periodEnd = some 18333 ∧
    onePixel.now + 0 = toNs 18333 ∧ onePixel.sc.state = .showing ∧ shownSlot onePixel.fs.slots = some 0 ∧
    0 < onePixel.profile.outHeight ∧ lineNeeds onePixel.profile onePixel.mt 0 0 ≠ [] ∧
    joining6.sc.state ≠ .showing ∧ onePixel.fs.arb.owner = .none ∧
    (let n : Need := ⟨0, 0, 0, 0, 0⟩
     let reads := { onePixel with fs := { onePixel.fs with
       sequence := [n],
       arb := { owner := .reader, budget := 5, burst := some (.read n true), memoryFree := 18333003, turnEnds := false,
                grantedAt := none } } }
     ArbiterInOrder reads) := by decide

/-- The instant of the cutoff. -/
def atCutoff (s : State) : State := { s with now := 16250000 }

theorem slotAt_ne_ready {l : List Slot} {f : FrameNo} (h : readySlotOf l f = none) :
    ∀ i r c, slotAt l i ≠ .ready f r c := by
  intro i r c e
  have := List.find?_eq_none.1 h i (List.mem_finRange i)
  simp [e] at this

/-- A target that no slot holds. -/
def missing : State :=
  { onShow with fs := { onShow.fs with slots := [.shown 1040, .free, .free, .ready 1042 1 false] } }

theorem witness_CutoffDecides :
    (let s := atCutoff onShow
     s.rstnLow = false ∧ s.cu.running = true ∧ s.cu.cutoffTaken = false ∧ s.cu.periodEnd = some 18333 ∧
     toNs 18333 = s.now + 0 + toNs s.profile.cutoffLead ∧ s.running = true ∧ s.swapTarget = some 1041 ∧
     (∀ g, shownFrame s.fs.slots = some g → newer 1041 g = true) ∧ slotAt s.fs.slots 1 = .ready 1041 1 false) ∧
    (let s := atCutoff missing
     s.swapTarget = some 1041 ∧ (∀ g, shownFrame s.fs.slots = some g → newer 1041 g = true) ∧
     ∀ i r c, slotAt s.fs.slots i ≠ .ready 1041 r c) ∧
    (let s := atCutoff { onShow with fs := { onShow.fs with slots := [.shown 1041, .free, .free, .ready 1042 1 false] } }
     s.swapTarget = some 1041 ∧ ¬∀ g, shownFrame s.fs.slots = some g → newer 1041 g = true) ∧
    (atCutoff joining6).swapTarget = some 1042 ∧
    (atCutoff { onShow with fs := { onShow.fs with slots := [.free, .free, .free, .free] } }).swapTarget = none ∧
    (atCutoff loaded).running = false := by
  refine ⟨⟨by decide, by decide, by decide, by decide, by decide, by decide, by decide, ?_, by decide⟩,
    ⟨by decide, ?_, slotAt_ne_ready (by decide)⟩, ⟨by decide, ?_⟩, by decide, by decide, by decide⟩
  · rintro g (⟨⟩ : some (1040 : FrameNo) = some g); decide
  · rintro g (⟨⟩ : some (1040 : FrameNo) = some g); decide
  · exact fun h => absurd (h 1041 (by decide)) (by decide)

theorem witness_SwapTarget :
    newestReady State.reset.fs.slots = none ∧ joining6.cu.lock ≠ .locked ∧ joining6.cu.lock ≠ .reference ∧
    onShow.cu.lock = .locked ∧ onShow.groupPeers = [5] ∧
    (let base : FrameNo := 1041
     newestReady onShow.fs.slots = some (base + BitVec.ofNat 16 1) ∧
     ∀ n ∈ onShow.groupPeers, 0 ≤ 32767 ∧ (onShow.pt.entry n).latestReady = some (base + BitVec.ofNat 16 0)) ∧
    (let s := { onShow with pt := { onShow.pt with
       entries := peers6.set 5 { onShow.pt.entry 5 with latestReady := none } } }
     ∃ n ∈ s.groupPeers, (s.pt.entry n).latestReady = none) := by decide

/-- The station just after the frame start of its period end, with station 5's and station 9's counts at the limit. -/
def quietPeers : State :=
  { onShow with
    now := 10000000,
    pt := { onShow.pt with entries := peers6.map fun e => if e.status.heard then { e with silence := 3 } else e } }

/-- A LIVE peer and one that is not, the engine IDLE, and a follow-up pass begun by this frame start's promotion. -/
theorem witness_SilentTaken :
    quietPeers.rstnLow = false ∧ quietPeers.running = true ∧ quietPeers.cu.latestFrameStart = some 10000 ∧
    quietPeers.now + 0 = toNs 10000 ∧ quietPeers.pt.condition = .normal ∧ (5 : StationNo) ≠ quietPeers.profile.station ∧
    (quietPeers.pt.entry 5).status.heard = true ∧ (quietPeers.pt.entry 5).silence = quietPeers.profile.silenceLimit ∧
    quietPeers.pt.entries.length = 16 ∧ ViewFollows quietPeers ∧ (quietPeers.pt.entry 5).status = .live ∧
    (quietPeers.pt.entry 5).eligible = true ∧ (quietPeers.pt.entry 9).status.heard = true ∧
    (quietPeers.pt.entry 9).silence = quietPeers.profile.silenceLimit ∧ (quietPeers.pt.entry 9).status ≠ .live ∧
    (quietPeers.pt.entry 9).eligible = false ∧ quietPeers.we.engine = .idle ∧
    (let s := { quietPeers with we := { quietPeers.we with
       engine := .computing, again := false, copy := quietPeers.pt.view, promotedAt := some 10000000 } }
     s.we.engine = .computing ∧ s.we.promotedAt = some (s.now + 0) ∧ ViewFollows s) := by decide

theorem witness_IsolatedTaken :
    let s := { quietPeers with pt := { quietPeers.pt with unheard := 3 } }
    s.rstnLow = false ∧ s.running = true ∧ s.cu.latestFrameStart = some 10000 ∧ s.now + 0 = toNs 10000 ∧
    s.pt.condition = .normal ∧ s.pt.unheard = s.profile.silenceLimit ∧ s.somePeerHeard = true ∧ TransitionsMade s := by
  decide

/-- Only the JOINING station 9 is heard. -/
def leaderless : State :=
  { joining6 with
    pt := { joining6.pt with entries := peers6.set 5 PeerEntry.absent }, cu := { joining6.cu with orphanCount := 4 } }

theorem witness_LeaderlessTests :
    leaderless.rstnLow = false ∧ leaderless.running = true ∧ leaderless.cu.latestFrameStart = some 10000 ∧
    leaderless.now + 0 = toNs 10000 ∧ leaderless.cu.windowCount = 4 ∧ leaderless.cu.orphanCount = 4 ∧
    leaderless.cu.lock = .seeking ∧ leaderless.cu.reference = none ∧ leaderless.eligiblePeers = [] ∧
    (¬∃ n, n ≠ leaderless.profile.station ∧ (leaderless.pt.entry n).status.heard = true ∧
      n < leaderless.profile.station) ∧
    joining6.cu.windowCount = 4 ∧ joining6.eligiblePeers ≠ [] := by decide

theorem witness_LockTimeoutWaives :
    let s := { joining6 with sc := { joining6.sc with lockTimeoutCount := 120 } }
    s.rstnLow = false ∧ s.sc.state = .joining ∧ s.cu.latestFrameStart = some 10000 ∧ s.now + 0 = toNs 10000 ∧
    s.profile.lockTimeout ≤ s.sc.lockTimeoutCount ∧ s.we.promoted = true := by decide

/-- R111: a PENDING engine with the again flag already set, an own frame start and a view change at one instant, the view
change by SILENT: in either order a pass from the changed view has started, and the flag is clear. -/
theorem test_view_change_at_promotion :
    let s := { quietPeers with we := { quietPeers.we with engine := .pending, again := true } }
    let change (s : State) : State := recomputeView (changeEntry 5 { s.pt.entry 5 with status := .silent } s)
    change (promote s) = promote (change s) ∧ (change (promote s)).we.copy = (change s).pt.view ∧
    (change s).pt.view ≠ s.pt.view ∧ (change (promote s)).we.engine = .computing ∧
    (change (promote s)).we.again = false ∧
    (let clear := { s with we := { s.we with again := false } }
     change (promote clear) = promote (change clear)) := by decide +kernel

/-! ### Witnesses: the seam link -/

/-- The fields of a PULSE requested at the frame start of 10000 µs. -/
def pulse6 : PulseRequest :=
  { beat := 40, shown := 1040, level := 29491, depth := 1, state := 1, lock := 1, tag := 3, frameStart := 10000 }

/-- A fresh message in its slot. -/
def queued {α : Type} (m : α) : Queued α := { msg := m, retries := 0, retried := false }

/-- The line has been quiet for `n` bit times, with this queue and last-won flag. -/
def quietLine (n : Nat) (lastWon : Bool) (q : TransmitQueue) : State :=
  { onShow with slc := { onShow.slc with queue := q, lastWon := lastWon, since := 10010000 - n * 1000 } }

/-- The station's own message, aborted at the lead sample of cell 1 of a line quiet for 9 bit times, as that bit fault leaves
it `later` ns after: a retry waits (R37, R39). -/
def aborted (later : Nat) : State :=
  let s := quietLine 9 false
    { leave := none, ready := some { msg := 1042, retries := 1, retried := true }, pulse := none }
  { s with now := s.now + later, slc := { s.slc with receiver := .receiving (s.now - 125) true } }

/-- R32, R37, R39: a READY whose first lead sample finds the line still recessive is a retry that starts at once, and its
start ends the sampling of the aborted message. -/
theorem test_retry_starts_at_once :
    let s := quietLine 9 false { leave := none, ready := some (queued 1042), pulse := none }
    let andThen (r : Host.Outcome State Fault Refusal) (c : Instr) : Host.Outcome State Fault Refusal :=
      match r with
      | .next t => exec c t
      | x => x
    let faulted := andThen (exec (.startMarkBegin 0 0) s) (.bitFault 125 ⟨false, 9125⟩)
    let seen : Host.Outcome State Fault Refusal → Option (Nat × Option OnLine × Receiver × Nat)
      | .next t => some (t.quietCount, t.slc.onLine, t.slc.receiver, t.counters.bitFault)
      | _ => none
    seen faulted = some (9, none, .receiving 10010000 true, 1) ∧
    seen (andThen faulted (.startMarkBegin 0 0)) =
      some (0, some { body := .ready 1042, retries := 1, t0 := 10010125, sending := false }, .waiting, 1) := by decide

/-- Each kind of message at exactly its required quiet, and one bit time short of it; a PULSE at its deadline; a retry while
the own aborted start mark is still sampled, up to the lead sample of cell 5 and after it; a station that is sending, one
in CONFIG, and one whose link is STUCK. -/
theorem witness_StartMarkBegins :
    let stop : LeaveRequest := { reason := 2, forStop := true }
    let leave (n : Nat) := quietLine n false { leave := some (queued stop), ready := some (queued 1042), pulse := none }
    let ready (n : Nat) := quietLine n false
      { leave := none, ready := some (queued 1042), pulse := some (queued pulse6) }
    let again (n : Nat) := quietLine n true
      { leave := none, ready := some { msg := 1042, retries := 1, retried := true }, pulse := none }
    let pulse (n : Nat) := quietLine n true { leave := none, ready := none, pulse := some (queued pulse6) }
    let late := quietLine 40 false
      { leave := none, ready := none, pulse := some (queued { pulse6 with frameStart := 5914 }) }
    let able (s : State) : Prop := s.rstnLow = false ∧ 100 ≤ s.now + 0 ∧ s.running = true ∧ s.slc.condition = .normal ∧
      s.slc.onLine = none
    able (leave 5) ∧ (leave 5).slc.queue.leave = some (queued stop) ∧ (leave 5).quietCount = 5 ∧
    (leave 4).quietCount < 5 ∧
    able (ready 9) ∧ (ready 9).slc.queue.leave = none ∧ (ready 9).slc.queue.ready = some (queued 1042) ∧
    (ready 9).quietCount = 9 ∧ (ready 8).quietCount < 9 ∧
    able (again 7) ∧ (again 7).quietCount = 7 ∧ (again 6).quietCount < 7 ∧
    able (pulse 13) ∧ (pulse 13).slc.queue.ready = none ∧ (pulse 13).slc.queue.pulse = some (queued pulse6) ∧
    (pulse 13).quietCount = 13 ∧ (pulse 12).quietCount < 13 ∧
    able (aborted 0) ∧ (aborted 0).quietCount = 9 ∧ (aborted 0).slc.inCells (10010000 + 4000) = false ∧
    (aborted 4001).quietCount = 0 ∧ (aborted 4001).slc.inCells (10010000 + 4001) = true ∧
    able late ∧ (late.now = (5914 + 4096) * 1000 ∧ 9 ≤ late.quietCount) ∧
    loaded.running = false ∧ (quietLine 9 false TransmitQueue.empty).slc.queue = TransmitQueue.empty ∧
    (let s := pulse 13
     { s with slc := { s.slc with condition := .stuck } }.slc.condition ≠ .normal ∧
     { s with slc := { s.slc with
        onLine := some { body := .ready 1042, retries := 0, t0 := 10009000, sending := true } } }.slc.onLine ≠ none) := by
  decide

/-- This station's PULSE on the line, its start mark begun at 10010000 ns. -/
def onLine (b : Body) (sending : Bool) : OnLine := { body := b, retries := 2, t0 := 10010000, sending := sending }

/-- A message on the line. -/
def sendingState (b : Body) (sending : Bool) : State :=
  { onShow with slc := { onShow.slc with onLine := some (onLine b sending) } }

/-- Cell 5 of a PULSE, and cell 10 of a READY from a station of odd number. -/
theorem witness_ArbitrationLost :
    let b := Body.pulse pulse6 10
    let s := sendingState b false
    let odd := { sendingState (.ready 1042) false with sc := { onShow.sc with profile := { profile6 with station := 7 } } }
    s.rstnLow = false ∧ s.slc.onLine = some (onLine b false) ∧ (onLine b false).sending = false ∧
    s.now + 4500 = (onLine b false).t0 + (5 - 1) * 1000 + 500 ∧ sentBit s.profile.station b 5 = true ∧
    s.slc.queue.pulse = none ∧ s.now + 4500 < (pulse6.frameStart + 4096) * 1000 ∧
    odd.slc.onLine = some (onLine (.ready 1042) false) ∧
    odd.now + 9500 = (onLine (.ready 1042) false).t0 + (10 - 1) * 1000 + 500 ∧
    sentBit odd.profile.station (.ready 1042) 10 = true := by decide +kernel

/-- The first lead sample of a message found recessive: at its third retry, and beyond the limit; its last tail sample
found dominant. -/
theorem witness_BitFaultTaken :
    let stop := Body.leave { reason := 2, forStop := true }
    let s := sendingState stop false
    let full := { s with
      sc := { s.sc with state := .stopping },
      slc := { s.slc with onLine := some { onLine stop true with retries := 3 } } }
    s.rstnLow = false ∧ s.slc.onLine = some (onLine stop false) ∧
    isBitFault s.profile.station (onLine stop false) (s.now + 125) false = true ∧
    (onLine stop false).retries + 1 ≤ s.profile.retryLimit ∧ s.slc.queue.leave = none ∧
    isBitFault full.profile.station { onLine stop true with retries := 3 } (full.now + 25875) true = true ∧
    full.profile.retryLimit < 3 + 1 ∧ stop.isStopLeave = true ∧ full.sc.state = .stopping ∧
    isBitFault s.profile.station (onLine (.pulse pulse6 10) false) (s.now + 500) false = true ∧
    s.now + 500 < (pulse6.frameStart + 4096) * 1000 ∧ (5914 + 4096) * 1000 ≤ s.now + 500 := by decide +kernel

theorem witness_MessageSent :
    let stop := Body.leave { reason := 2, forStop := true }
    let a := sendingState stop false
    let b := { sendingState stop true with sc := { onShow.sc with state := .stopping } }
    a.rstnLow = false ∧ a.slc.onLine = some (onLine stop false) ∧ a.now + 10000 = (onLine stop false).t0 + 10 * 1000 ∧
    b.slc.onLine = some (onLine stop true) ∧ b.now + 26000 = (onLine stop true).t0 + stop.length * 1000 ∧
    stop.isStopLeave = true ∧ b.sc.state = .stopping ∧ (Body.ready 1042).isStopLeave = false := by decide

/-- A PULSE at its deadline, a dominant line of 8 bit times as the monitor has it and as it newly finds it, and a STUCK
link with a quiet line. -/
theorem witness_LinkTimers :
    let s := quietLine 40 false
      { leave := none, ready := none, pulse := some (queued { pulse6 with frameStart := 5914 }) }
    s.rstnLow = false ∧ (5914 + 4096) * 1000 ≤ s.now + 0 ∧ s.slc.busy = false ∧ 8000 ≤ s.now + 0 ∧
    (s.slc.dominant = false ∧ s.slc.since ≤ s.now + 0 - 8000) ∧
    (let d := { s with slc := { s.slc with dominant := true, since := s.now - 8000 } }
     d.slc.dominant = true ∧ d.slc.since = d.now + 0 - 8000) ∧
    (let u := { s with slc := { s.slc with condition := .stuck } }
     u.slc.condition = .stuck ∧ u.quietCount = 40) := by decide

/-- Marks decided at cell 4, at cell 3 with its line risen within the cell, and at cell 4 of a line that stays dominant;
a receiver that takes marks and one that takes none. -/
theorem witness_StartMarkRecognised :
    let s := quietLine 9 false TransmitQueue.empty
    s.rstnLow = false ∧ s.slc.busy = false ∧ 3500 ≤ s.now + 0 ∧ 500 ≤ 3500 ∧
    (s.slc.dominant = false ∧ s.slc.since ≤ s.now + 0 - 3500) ∧ 500 + 1000 ≤ 3500 ∧ 1500 + 1000 ≤ 2500 ∧
    s.running = true ∧ s.slc.condition = .normal ∧ s.slc.receiver = .waiting ∧ s.slc.listenFrom + 3500 ≤ s.now + 0 + 1000 ∧
    ¬(loaded.running = true ∧ loaded.slc.condition = .normal ∧ loaded.slc.receiver = .waiting) := by decide

/-- A message from another station is being received, its mark begun at 10010000 ns. -/
def hearing : State := { onShow with slc := { onShow.slc with receiver := .receiving 10010000 false } }

/-- The station's own message with t0 at 10010000 ns, aborted at the value sample of cell 4: the line has been dominant for
`run` ns (R39). -/
def abortedAtCell4 (run : Nat) : State :=
  { onShow with
    now := 10013500,
    slc := { onShow.slc with
      receiver := .receiving 10010000 true, lastWon := true, dominant := true, since := 10013500 - run } }

/-- R32, R33, R36, R39, R44: the run that ends the own aborted message at the tail sample of cell 5 is a spent mark: its own
one where it stands since t0, a malformed one of another station where it began 100 ns later. -/
theorem test_run_ends_aborted_message :
    let after (run : Nat) := takeShort .tailDominant (run + 1375) ((abortedAtCell4 run).advance 1375)
    ((after 3500).slc.receiver, (after 3500).slc.lastWon, (after 3500).counters.checkFail) =
      (.spent, true, onShow.counters.checkFail) ∧
    ((after 3400).slc.receiver, (after 3400).slc.lastWon, (after 3400).counters.checkFail) =
      (.spent, false, onShow.counters.checkFail + 1) := by decide

/-- R32, R33, R43: that run, released before 8 bit times, ends, and the receiver hears the next mark. -/
theorem test_spent_run_ends :
    let s := (takeShort .tailDominant 4875 ((abortedAtCell4 3500).advance 1375)).advance 1125
    s.strayDue 6000 = true ∧ (takeStray 6000 s).slc.dominant = false ∧
    ((takeStray 6000 s).advance 3600).startMarkSeen true true false 600 = true ∧
    ((takeStray 6000 s).advance 3600).takesMark 3500 = true := by decide

/-- The first lead sample that a receiver judges, a tail sample, the end of cell 6; a tail sample that ends the station's own
message aborted at cell 4, the run standing since its t0 and since 1 ns later, and a run of exactly 3500 ns; and a run at
exactly the glitch width. -/
theorem witness_MessageEndedShort :
    ((abortedAtCell4 3500).running = true ∧ (abortedAtCell4 3500).slc.receiver = .receiving 10010000 true ∧
      (∃ cell, 4 ≤ cell ∧ (abortedAtCell4 3500).now + 1375 = 10010000 + cell * 1000 + 875) ∧
      ¬10010000 + 4875 < (abortedAtCell4 3500).now + 1375 ∧ 10010000 + 4874 < (abortedAtCell4 3499).now + 1375 ∧
      10010000 + 3500 < (abortedAtCell4 2125).now + 1375) ∧
    hearing.rstnLow = false ∧ hearing.running = true ∧ hearing.slc.receiver = .receiving 10010000 false ∧
    100 ≤ hearing.now + 4125 ∧
    (∃ cell, 4 ≤ cell ∧ hearing.now + 4125 = 10010000 + cell * 1000 + 125) ∧
    (∃ cell, 4 ≤ cell ∧ hearing.now + 4875 = 10010000 + cell * 1000 + 875) ∧
    hearing.now + 6000 = 10010000 + 6000 ∧
    onShow.slc.inCells (onShow.now + 0) = false ∧ onShow.slc.dominant = false ∧
    onShow.slc.since + 200 ≤ onShow.now + 0 ∧
    onShow.profile.glitchWidth * 50 = 200 ∧
    (onShow.running = true ∧ onShow.slc.condition = .normal ∧ onShow.slc.receiver = .waiting ∧
      onShow.slc.listenFrom + 1000 ≤ onShow.now + 0 + 1000) ∧
    (let spent := { onShow with slc := { onShow.slc with receiver := .spent, dominant := true, since := 10008000 } }
     spent.slc.inCells (spent.now + 0) = false ∧ spent.slc.receiver ≠ .waiting ∧
     spent.slc.since + 2000 = spent.now + 0) ∧
    ((aborted 0).slc.inCells ((aborted 0).now + 4000) = false ∧ (aborted 0).slc.busy = true ∧
      (aborted 0).slc.since + 50 ≤ (aborted 0).now + 4000) ∧
    (asking hearing).takesAction 500 ∧ (asking hearing).slc.busy = true ∧ (asking onShow).takesAction 500 ∧
    (asking onShow).slc.busy = false :=
  ⟨⟨by decide, by decide, ⟨4, by decide⟩, by decide⟩, by decide, by decide, by decide, by decide, ⟨4, by decide⟩,
    ⟨4, by decide⟩, by decide, by decide, by decide, by decide, by decide, by decide, by decide, by decide, by decide, by decide, by decide⟩

/-! ### Witnesses: messages -/

/-- A PULSE payload: beat 40, shown 1041, delay 10, depth field 1, SHOWING, with this level, lock code and tag. -/
def pulsePayload (level lock tag : Nat) : BitVec 64 :=
  0x28#8 ++ 1041#16 ++ 10#12 ++ BitVec.ofNat 16 level ++ 1#2 ++ 1#2 ++ BitVec.ofNat 3 lock ++ BitVec.ofNat 5 tag

/-- The CRC of a message. -/
def crcOf (kind : BitVec 2) (sender : StationNo) (payload : List Bool) : Byte := crc8 (coveredBits kind sender payload)

/-- One turned bit, state field 3, and an own number; of each kind of message. -/
theorem witness_BadMessages :
    hearing.hearsAt 82000 82 10010000 ∧ hearing.hearsAt 34000 34 10010000 ∧ hearing.hearsAt 26000 26 10010000 ∧
    crcOf 2 5 (bitsOf (pulsePayload 26214 1 3)) ≠ crcOf 2 5 (bitsOf (pulsePayload 26214 1 2)) ∧
    (readPulse (pulsePayload 26214 1 3 ||| 0x300)).state = 3 ∧ (readPulse (pulsePayload 26214 1 3)).state ≠ 3 ∧
    (6 : StationNo) = hearing.profile.station := by decide +kernel

/-- A station that hears a PULSE in this lock state, with this reference and these entries. -/
def hearingIn (lock : LockState) (reference : Option StationNo) (entries : List PeerEntry) : State :=
  { hearing with
    cu := { hearing.cu with lock := lock, reference := reference, lockCount := 3 },
    pt := { hearing.pt with entries := entries } }

/-- A PULSE of a LIVE peer in step, from 5 and from 9, both announced LOCKED: heard by a LOCKED station whose SHOWN frame
is another, by a SEEKING station without a reference, by one in FREE that yields, by a REFERENCE station that stays one
and by one that yields to a lower number. -/
theorem witness_PulseStored :
    let p := pulsePayload 26214 1 3
    let none16 := List.replicate 16 PeerEntry.absent
    let fits (s : State) : Prop := s.hearsAt 82000 82 10010000 ∧ (5 : StationNo) ≠ s.profile.station ∧
      (9 : StationNo) ≠ s.profile.station ∧ s.pt.condition = .normal ∧ s.pt.entries.length = 16 ∧
      (readPulse p).tag = s.sc.domeTag
    AnnouncedState.ofCode (readPulse p).state = some .showing ∧ (readPulse p).lock = .locked ∧
    fits hearing ∧ hearing.cu.lock = .locked ∧ shownFrame hearing.fs.slots ≠ some (p.extractLsb' 40 16) ∧
    fits (hearingIn .seeking none none16) ∧ (hearingIn .seeking none none16).eligiblePeers = [] ∧
    fits (hearingIn .free (some 9) none16) ∧
    fits (hearingIn .reference (some 6) none16) ∧ (6 : StationNo) < 9 ∧ (5 : StationNo) < 6 ∧
    (let peers := hearing.pt.entries.set 9 { hearing.pt.entry 5 with lock := some .locked }
     (hearingIn .reference (some 6) none16).profile.station = 6 ∧ fits (hearingIn .seeking (some 5) peers)) := by
  decide +kernel

/-- The reference's PULSE before and after the cutoff; with a Δ within free enter, beyond it, within free exit of a FREE
station and not within it; and a station that locks to the higher number 9. -/
theorem witness_ReferencePulse :
    let p := pulsePayload 26214 1 3
    let after := { hearing with cu := { hearing.cu with cutoffTaken := true } }
    let delta (d : Nat) : Option Int := some (10000 - (10000 - d : Nat))
    let entry9 := { hearing.pt.entry 5 with lock := some .locked }
    let higher := hearingIn .seeking (some 9) ((List.replicate 16 PeerEntry.absent).set 9 entry9)
    let free := hearingIn .free (some 5) hearing.pt.entries
    hearing.hearsAt 82000 82 10010000 ∧ hearing.pt.condition = .normal ∧ hearing.pt.entries.length = 16 ∧
    hearing.cu.lock = .locked ∧ hearing.cu.reference = some 5 ∧ lowest hearing.eligiblePeers = some 5 ∧
    (5 : StationNo) ≠ hearing.profile.station ∧ 0 < hearing.profile.period ∧
    AnnouncedState.ofCode (readPulse p).state = some .showing ∧ (readPulse p).tag = hearing.sc.domeTag ∧
    (hearing.pt.entry 5).lock = some (readPulse p).lock ∧ after.hearsAt 82000 82 10010000 ∧
    (10010000 / 1000 : Int) - (p.extractLsb' 28 12).toNat = 10000 ∧ p.extractLsb' 56 8 = 39 + 1 ∧
    (¬∃ d ∈ delta 8333, hearing.profile.freeEnter < (d - 8333).natAbs) ∧
    (∃ d ∈ delta 8734, hearing.profile.freeEnter < (d - 8333).natAbs) ∧
    free.hearsAt 82000 82 10010000 ∧ free.cu.reference = some 5 ∧ free.cu.lock = .free ∧
    (∃ d ∈ delta 8382, (d - 8333).natAbs < free.profile.freeExit) ∧
    (¬∃ d ∈ delta 8383, (d - 8333).natAbs < free.profile.freeExit) ∧
    higher.hearsAt 82000 82 10010000 ∧ higher.pt.entries.length = 16 ∧ higher.eligiblePeers = [9] ∧
    higher.cu.reference = some 9 ∧ higher.cu.lock = .seeking ∧ higher.profile.station < 9 := by decide +kernel

theorem witness_PulseMismatched :
    let p := pulsePayload 26214 1 4
    hearing.hearsAt 82000 82 10010000 ∧ (5 : StationNo) ≠ hearing.profile.station ∧
    hearing.pt.condition = .normal ∧ hearing.pt.entries.length = 16 ∧ (readPulse p).state ≠ 3 ∧
    (readPulse p).tag ≠ hearing.sc.domeTag ∧ (hearing.pt.entry 5).eligible = true ∧
    (hearing.pt.entry 9).eligible = false ∧ (hearing.pt.entry 5).status = .live ∧ hearing.we.engine = .idle ∧
    ({ hearing with we := { hearing.we with engine := .pending } }).we.engine ≠ .idle ∧
    hearing.wbp.mode = .picture := by decide

theorem witness_ReadyStored :
    hearing.hearsAt 34000 34 10010000 ∧ (5 : StationNo) ≠ hearing.profile.station ∧ hearing.pt.condition = .normal ∧
    ViewFollows hearing := by decide

theorem witness_LeaveStored :
    hearing.hearsAt 26000 26 10010000 ∧ (5 : StationNo) ≠ hearing.profile.station ∧ hearing.pt.condition = .normal ∧
    hearing.pt.entries.length = 16 ∧ ViewFollows hearing ∧ (hearing.pt.entry 5).status = .live ∧
    (hearing.pt.entry 9).status ≠ .live ∧ hearing.we.engine = .idle := by decide

/-- A station in ISOLATED, with these entries held, that hears a message. -/
def isolatedHearing (entries : List PeerEntry) : State :=
  { hearing with
    pt := { hearing.pt with condition := .isolated, unheard := 3, entries := entries },
    cu := { hearing.cu with lock := .hold } }

/-- The premises of IsolationEnds on the state. -/
abbrev isolationPremises (s : State) : Prop :=
  (s.pt.condition = .isolated ∧ s.cu.lock = .hold ∧ ViewFollows s ∧ TransitionsMade s) ∧
  s.hearsAt 82000 82 10010000 ∧ s.hearsAt 34000 34 10010000 ∧ s.hearsAt 26000 26 10010000

/-- The peers with station 9 in MISMATCH. -/
def mismatched9 : List PeerEntry := hearing.pt.entries.set 9 { hearing.pt.entry 9 with status := .mismatch }

/-- Station 5 is heard again with a PULSE, which is the reference's, a READY and a LEAVE; station 9 with a PULSE of
another dome; and a sender in MISMATCH. -/
theorem witness_IsolationEnds :
    isolationPremises (isolatedHearing hearing.pt.entries) ∧ (5 : StationNo) ≠ hearing.profile.station ∧
    (9 : StationNo) ≠ hearing.profile.station ∧ (readPulse (pulsePayload 26214 1 3)).state ≠ 3 ∧
    (readPulse (pulsePayload 26214 1 3)).tag = hearing.sc.domeTag ∧
    (readPulse (pulsePayload 26214 1 4)).state ≠ 3 ∧ (readPulse (pulsePayload 26214 1 4)).tag ≠ hearing.sc.domeTag ∧
    lowest (isolatedHearing hearing.pt.entries).eligiblePeers = some 5 ∧
    isolationPremises (isolatedHearing mismatched9) ∧
    ((isolatedHearing mismatched9).pt.entry 9).status = .mismatch :=
  ⟨by decide, by decide, by decide, by decide, by decide, by decide, by decide, by decide, by decide, by decide⟩

/-! ### Witnesses: weights and lamp -/

theorem witness_PassCompletes :
    let s := { onShow with we := { onShow.we with engine := .computing, passStart := some 10008200 } }
    s.rstnLow = false ∧ s.running = true ∧ s.we.engine = .computing ∧ s.we.passStart = some 10008200 ∧
    s.now + 0 = 10008200 + s.sc.vertexCount * 40 := by decide

/-- L_self exactly at T_min, one below it, and an outside vertex. -/
theorem witness_WeightNearest :
    let w : View := { alive := [5], lSelf := 8192, ceiling := 8192, kDome := 2, serial := 0 }
    workedVertex.inside = true ∧ profile6.tMin ≤ w.lSelf ∧ 0 < w.lSelf ∧ 0 < workedVertex.rSelf ∧
    ({ w with lSelf := 8191 }).lSelf < profile6.tMin ∧ Vertex.blank.inside = false := by decide

/-- A conversion completes now, on this channel and for this purpose, with this sampler and lamp mode. -/
def converting (channel : Channel) (manual : Bool) (mode : LampMode) (l : Lamp) (s : State) : State :=
  { s with
    sc := { s.sc with profile := { profile6 with lampMode := mode, dark1 := 200, rated1 := 3800 } },
    ls := { l with conversion := some { channel := channel, manual := manual, completesAt := s.now } } }

theorem witness_ConversionsTaken :
    let due (channel : Channel) (manual : Bool) (s : State) : Prop :=
      s.rstnLow = false ∧
      s.ls.conversion = some { channel := channel, manual := manual, completesAt := s.now + 0 }
    let l := { onShow.ls with sequences := 2 }
    let m := { Lamp.reset with mode := .manualContinuous }
    due .lamp0 false (converting .lamp0 false .dual l onShow) ∧ onShow.running = true ∧ l.sequences < 3 ∧
    due .lamp0 false (converting .lamp0 false .single l onShow) ∧
    due .lamp1 false (converting .lamp1 false .dual l onShow) ∧
    due .lamp1 true (converting .lamp1 true .dual { m with autoPending := true } onShow) ∧
    due .lamp0 true (converting .lamp0 true .single { m with mode := .manualSingle } loaded) ∧
    due .lamp0 true (converting .lamp0 true .single m loaded) ∧
    due .lamp0 true (converting .lamp0 true .single { m with stopPending := true } loaded) := by decide

/-- The fourth sequence: of a single lamp that still measures what it did, of one that has gone out under a PICTURE frame
with the engine IDLE, and of a lamp pair. -/
theorem witness_FourSequenceAverage :
    let l (sum : Nat) := { onShow.ls with sequences := 3, acc0 := ⟨sum, 3⟩, acc1 := ⟨9960, 3⟩ }
    let s := converting .lamp0 false .single (l 10320) onShow
    let dual := converting .lamp1 false .dual (l 10320) onShow
    s.rstnLow = false ∧ s.running = true ∧
    s.ls.conversion = some { channel := .lamp0, manual := false, completesAt := s.now + 0 } ∧
    s.profile.lampMode = .single ∧ s.ls.sequences = 3 ∧ 0 < s.profile.lStep ∧
    (let measured := channelValue 200 3800 ⟨10320 + 3440, 4⟩
     measured = 29491 ∧ announces s.profile measured s.ls.lAnn = false) ∧
    announces s.profile (channelValue 200 3800 ⟨600 + 200, 4⟩) s.ls.lAnn = true ∧ s.sc.state = .showing ∧
    s.wbp.mode = .picture ∧ s.we.engine = .idle ∧
    dual.ls.conversion = some { channel := .lamp1, manual := false, completesAt := dual.now + 0 } := by decide

/-- A station that has left JOINING for this state just now, its L_ann between T_min 8192 and T_return 9000 (R10). -/
def justOut (state : ShowState) (lAnn : Nat) : State :=
  { onShow with
    sc := { onShow.sc with state := state, leftJoining := some onShow.now }, ls := { onShow.ls with lAnn := lAnn } }

/-- R10: a change of L_ann at the instant at which JOINING was left decides the exit and requests no LEAVE; at another
instant R12 and R13 decide. -/
theorem test_lamp_decides_joining_exit :
    (lampTest (justOut .dark 8600)).sc.state = .showing ∧ (lampTest (justOut .showing 8000)).sc.state = .dark ∧
    (lampTest (justOut .showing 8000)).slc.queue.leave = none ∧
    (lampTest ((justOut .dark 8600).advance 1)).sc.state = .dark ∧
    (lampTest ((justOut .showing 8000).advance 1)).slc.queue.leave.isSome = true := by decide

/-- R44: a start mark recognised before START is not taken; one recognised at it may be. -/
theorem test_mark_before_start :
    let s := { onShow with slc := linkStart onShow.now onShow.slc }
    (s.advance 2499).takesMark 3500 = false ∧ (s.advance 2500).takesMark 3500 = true := by decide

/-! ### Witnesses: pixels -/

/-- Four taken slots, the oldest READY one chosen. -/
def fullStore : State :=
  { onShow with
    swu := .swap 1041 1, cu := { onShow.cu with cutoffTaken := true },
    fs := { onShow.fs with
      slots := [.shown 1040, .ready 1041 1 true, .ready 1043 3 false, .ready 1042 2 false], port := .done, fifo := [] } }

/-- A frame in progress is ended, which frees its slot; and no slot is FREE. -/
theorem witness_InputFrameStart :
    onShow.rstnLow = false ∧ onShow.running = true ∧ onShow.fs.port ≠ .off ∧ StoreInOrder onShow ∧
    slotAt onShow.fs.slots 2 = .filling ∧ onShow.fs.damaged = false ∧
    fullStore.rstnLow = false ∧ fullStore.running = true ∧ fullStore.fs.port ≠ .off ∧ StoreInOrder fullStore ∧
    (∀ j, slotAt fullStore.fs.slots j ≠ .free) ∧ ¬∃ j, slotAt fullStore.fs.slots j = .filling := by decide

/-- An input raster of one pixel per line, whose FIFO holds two. -/
def narrow (fifo : List FifoPixel) (linePixels : Nat) : State :=
  { onShow with
    sc := { onShow.sc with profile := { profile6 with inWidth := 1 } },
    fs := { onShow.fs with fifo := fifo, linePixels := linePixels } }

/-- The last pixel of a line and the one beyond it, a full FIFO and one with one place left, and each other port state. -/
theorem witness_InputPixels :
    let s := narrow [⟨2, 2, 0, 5⟩] 0
    let f := narrow [⟨2, 1, 0, 5⟩, ⟨2, 2, 0, 5⟩] 0
    s.rstnLow = false ∧ s.running = true ∧ s.fs.port = .picture ∧ s.fs.linePixels < s.profile.inWidth ∧
    fillingSlot s.fs.slots = some 2 ∧ s.fs.damaged = false ∧ s.fs.fifo.length < 2 * s.profile.inWidth ∧
    2 * f.profile.inWidth ≤ f.fs.fifo.length ∧ (narrow [] 1).profile.inWidth ≤ (narrow [] 1).fs.linePixels ∧
    ({ s with fs := { s.fs with damaged := true } }).fs.damaged = true ∧
    (let t := { s with fs := { s.fs with port := .trailer, trailer := [7] } }
     t.fs.port = .trailer ∧ t.fs.trailer.length < 2) := by decide

/-- A whole line, a short line that fits, and one whose copies do not fit. -/
theorem witness_LineEnds :
    onShow.rstnLow = false ∧ onShow.running = true ∧ onShow.fs.port = .picture ∧ 0 < onShow.fs.linePixels ∧
    onShow.fs.linePixels ≤ onShow.profile.inWidth ∧ fillingSlot onShow.fs.slots = some 2 ∧
    onShow.fs.damaged = false ∧
    onShow.fs.fifo.length + (onShow.profile.inWidth - onShow.fs.linePixels) ≤ 2 * onShow.profile.inWidth ∧
    (narrow [] 1).fs.linePixels ≤ (narrow [] 1).profile.inWidth ∧
    (let s := { narrow [⟨2, 1, 0, 5⟩, ⟨2, 1, 1, 5⟩, ⟨2, 2, 0, 5⟩] 1 with
       sc := { onShow.sc with profile := { profile6 with inWidth := 2 } } }
     2 * s.profile.inWidth < s.fs.fifo.length + (s.profile.inWidth - s.fs.linePixels) + 1) ∧
    (let s := { narrow [⟨2, 1, 0, 5⟩, ⟨2, 1, 1, 5⟩, ⟨2, 2, 0, 5⟩, ⟨2, 2, 1, 5⟩] 1 with
       sc := { onShow.sc with profile := { profile6 with inWidth := 2 } } }
     2 * s.profile.inWidth < s.fs.fifo.length + (s.profile.inWidth - s.fs.linePixels) ∧
     0 < s.profile.inWidth - s.fs.linePixels) := by decide

/-- The trailer line has been read, and these are its pixels. -/
def trailing (damaged : Bool) (l : List Pixel) : State :=
  { onShow with fs := { onShow.fs with port := .trailer, damaged := damaged, trailer := l } }

/-- A damaged frame, a frame without a trailer, and frames 1043 and 1042, newer and not newer than every frame held. -/
theorem witness_TrailerEnds :
    let s (n g : Nat) := trailing false [pixelOf n g 707, pixelOf (1023 - n) (1023 - g) 707]
    let fresh (n : FrameNo) (s : State) : Prop := ∀ j f, (slotAt s.fs.slots j).frame? = some f → newer n f = true
    (trailing true []).rstnLow = false ∧ (trailing true []).running = true ∧ (trailing true []).fs.port = .trailer ∧
    fillingSlot (trailing true []).fs.slots = some 2 ∧ (trailing true []).fs.slots.length = 4 ∧
    (trailing true []).fs.damaged = true ∧ trailerFrame (trailing false []).fs.trailer = none ∧
    trailerFrame (s 16 304).fs.trailer = some 1043 ∧ fresh 1043 (s 16 304) ∧
    trailerFrame (s 16 288).fs.trailer = some 1042 ∧ ¬fresh 1042 (s 16 288) := by
  refine ⟨by decide, by decide, by decide, by decide, by decide, by decide, by decide, by decide, ?_, by decide,
    fun h => absurd (h 3 1042 (by decide)) (by decide)⟩
  have held : ∀ j : SlotNo, ((slotAt onShow.fs.slots j).frame?.all fun f => newer 1043 f) = true := by decide
  intro j f h
  simpa [show (slotAt onShow.fs.slots j).frame? = some f from h] using held j

theorem witness_InputLost :
    onShow.rstnLow = false ∧ onShow.running = true ∧ onShow.fs.lost = false ∧ onShow.fs.lossStart = some 10002 ∧
    onShow.now + 16658000 = (10002 + 2 * onShow.profile.period) * 1000 ∧ StoreInOrder onShow ∧
    ({ onShow with fs := { onShow.fs with lost := true } }).fs.lost = true := by decide

/-- Sixteen pixels of a line stand in the FIFO, and the writer's burst of them ends now, unless they have been discarded.
-/
def writing (kept : Bool) : State :=
  { onShow with fs := { onShow.fs with
    fifo := (List.range 16).map fun i => ⟨2, 3, i, BitVec.ofNat 30 (i + 1)⟩,
    arb := { Arbiter.idle onShow.now with owner := .writer, budget := 16, burst := some (.write 2 3 0 kept) },
    memory := [(3, 7)], parity := [(3, 1)] } }

/-- Requests at an idle memory: the reader's, the writer's alone, and none. A burst that is written, and one that is
discarded. -/
theorem witness_WriteBurst :
    (let held := ((writing true).fs.fifo.filter (inBurst 2 3 0)).map FifoPixel.pixel
     (writing true).rstnLow = false ∧ (writing true).fs.arb.owner = .writer ∧
     (writing true).fs.arb.burst = some (.write 2 3 0 true) ∧
     (writing true).fs.arb.memoryFree = (writing true).now + 0 ∧ MemoryCanonical (writing true) ∧ held ≠ [] ∧
     held.length ≤ 16) ∧
    (writing false).rstnLow = false ∧ (writing false).fs.arb.owner = .writer ∧
    (writing false).fs.arb.burst = some (.write 2 3 0 false) ∧
    (writing false).fs.arb.memoryFree = (writing false).now + 0 ∧ MemoryCanonical (writing false) ∧
    (let idle (sequence : List Need) (fifo : List FifoPixel) : State := { onShow with
       fs := { onShow.fs with sequence := sequence, fifo := fifo } }
     (idle [] []).fs.arb.owner = .none ∧ readerRequests (idle [⟨0, 0, 0, 0, 15⟩] (writing true).fs.fifo) = true ∧
     readerRequests (idle [] (writing true).fs.fifo) = false ∧ writerRequests (idle [] (writing true).fs.fifo) = true ∧
     writerRequests (idle [] []) = false) := by decide

/-- The reader's next entries, whose burst ends now, unless the fetch has been discarded. -/
def reading (kept : Bool) : State :=
  { onShow with fs := { onShow.fs with
    arb := { Arbiter.idle onShow.now with owner := .reader, budget := 1, burst := some (.read ⟨0, 0, 0, 0, 15⟩ kept) },
    sequence := if kept then [⟨0, 0, 0, 0, 15⟩, ⟨0, 0, 1, 0, 31⟩] else [⟨0, 0, 1, 0, 31⟩],
    memory := [(3, 7)], parity := [(3, 1)] } }

/-- A burst written as read, one with a turned bit, an empty and a full trap; and a discarded fetch. -/
theorem witness_ReadBurst :
    (reading true).rstnLow = false ∧ (reading true).fs.arb.owner = .reader ∧
    (reading true).fs.arb.burst = some (.read ⟨0, 0, 0, 0, 15⟩ true) ∧
    (reading true).fs.arb.memoryFree = (reading true).now + 0 ∧
    (reading true).fs.sequence = ⟨0, 0, 0, 0, 15⟩ :: [⟨0, 0, 1, 0, 31⟩] ∧
    (∀ k : Fin 64, parityBit ((reading true).fs.memory.read (burstAddress (reading true).profile.inWidth 0 0 0 + k.val)) =
      (reading true).fs.parity.read (burstAddress (reading true).profile.inWidth 0 0 0 + k.val)) ∧
    (reading true).fs.trap = none ∧
    (let u : Upset := ⟨63, 256⟩
     u.offset = 63 ∧ u.flips.getLsbD 8 = true) ∧
    ({ reading true with fs := { (reading true).fs with trap := some ⟨1, 2, 3, false⟩ } }).fs.trap =
      some ⟨1, 2, 3, false⟩ ∧
    (reading false).rstnLow = false ∧ (reading false).fs.arb.owner = .reader ∧
    (reading false).fs.arb.burst = some (.read ⟨0, 0, 0, 0, 15⟩ false) ∧
    (reading false).fs.arb.memoryFree = (reading false).now + 0 ∧ (reading false).fs.sequence ≠ [] := by
  decide

/-- R162: a frame start lets the reader's burst run to its end, discarded, and ends its turn there; then the writer,
which has come to ask, is granted a fresh budget. -/
theorem test_turn_ends_at_burst_end :
    let s := { reading true with
      now := 18333002,
      fs := { (reading true).fs with
        arb := { (reading true).fs.arb with budget := 9, memoryFree := 18333002 }, fifo := (writing true).fs.fifo } }
    let t := endBurst (endReaderTurn (cutReader s))
    (endReaderTurn (cutReader s)).fs.arb.owner = .reader ∧ (endReaderTurn (cutReader s)).fs.arb.turnEnds = true ∧
    t.fs.arb.owner = .writer ∧ t.fs.arb.budget = 16 ∧ t.fs.arb.memoryFree = 18333006 := by decide +kernel

/-- The one output pixel of a small station falls due, its only burst fetched as given. -/
def falling (l : List Fetched) : State :=
  { onePixel with
    now := onePixel.wbp.frameAt + 15000,
    fs := { onePixel.fs with prefetch := l } }

/-- The burst that the pixel needs. -/
def burst (failed : Bool) : Fetched := { need := ⟨0, 0, 0, 0, 0⟩, failed := failed, pixels := List.replicate 16 5 }

/-- A pixel whose burst is missing, has failed, and stands ready; a frame without a slot; and a BLACK frame. -/
theorem witness_PixelDue :
    let sampled (s : State) := sampleSources s.fs 0 (sourcesOf s.profile s.mt 0 0)
    let s := falling []
    s.rstnLow = false ∧ s.wbp.mode = .picture ∧ s.wbp.position = some (0, 0) ∧
    s.now + 0 = s.wbp.frameAt + 15000 + 0 * (s.profile.outWidth + 64) + 0 ∧ s.wbp.frameSlot ≠ none ∧
    sampled s = .underrun ∧ sampled (falling [burst true]) = .parity ∧
    sampled (falling [burst false]) = .pixels [(256, 5)] ∧
    ({ s with wbp := { s.wbp with frameSlot := none } }).wbp.frameSlot = none ∧
    (let fetching : FrameStore := { s.fs with arb := { Arbiter.idle s.now with
       owner := .reader, budget := 32, burst := some (.read ⟨0, 0, 0, 0, 0⟩ true) }, sequence := [⟨0, 0, 0, 0, 0⟩] }
     fetching.arb.owner = .reader ∧ fetching.arb.burst = some (.read ⟨0, 0, 0, 0, 0⟩ true)) ∧
    (∀ q ∈ s.wbp.inFlight, q.1 < s.now + 0 + 1000) ∧
    (joining6.wbp.mode = .black ∧ joining6.wbp.position = some (0, 0) ∧ joining6.wbp.frameAt = 10000000) := by decide

/-- R119, R120: a pixel appears on PXO_D at its instant, and with code 0 from a station that is not SHOWING. -/
theorem test_pixel_on_link :
    let s := { falling [] with wbp := { (falling []).wbp with inFlight := [((falling []).now, 5)] } }
    s.pxoD = 5 ∧ ({ s with sc := { s.sc with state := .dark } }).pxoD = 0 := by decide +kernel

/-! ### Witnesses: the whole part -/

/-- A running part with a command waiting. -/
def busy : State := { onShow with pending := [.status 5] }

theorem witness_BuffersKept :
    MemoryCanonical { busy with fs := (writing true).fs } ∧ BuffersBounded busy ∧ CountersSaturate busy ∧
    ∃ t, step busy = .next t := ⟨by decide, by decide, by decide, _, rfl⟩

theorem witness_StoreKept : StoreInOrder busy ∧ ∃ t, step busy = .next t := ⟨by decide, _, rfl⟩

theorem witness_ShownAdvances :
    StoreInOrder busy ∧ shownFrame busy.fs.slots = some 1040 ∧ ∃ t, step busy = .next t :=
  ⟨by decide, by decide, _, rfl⟩

theorem witness_PeersKept :
    SilenceBounded busy ∧ FiguresInRange busy ∧ ViewFollows busy ∧ ∃ t, step busy = .next t :=
  ⟨by decide, by decide, by decide, _, rfl⟩

theorem witness_LockKept :
    LockCoherent busy ∧ TransitionsMade busy ∧ ∃ t, step busy = .next t := ⟨by decide, by decide, _, rfl⟩

theorem witness_StationKept :
    TimerRuns busy ∧ QuietInConfig busy ∧ PictureOnlyShowing busy ∧ ∃ t, step busy = .next t :=
  ⟨by decide, by decide, by decide, _, rfl⟩

theorem witness_MeshAndWeightsKept :
    MeshSound busy ∧ WeightsSound busy ∧ ∃ t, step busy = .next t := ⟨by decide +kernel, by decide +kernel, _, rfl⟩

theorem witness_ProfileKept :
    ProfileSound busy ∧ AnnouncedNearMeasured busy ∧ ∃ t, step busy = .next t := ⟨by decide, by decide, _, rfl⟩

theorem witness_TrapAndCausesHeld :
    let s := { onShow with
      fs := { onShow.fs with trap := some ⟨1, 2, 3, false⟩ }, svp := { onShow.svp with causes := ⟨true, true, true, true⟩ } }
    (∃ t, exec (.inputLost 5) s = .next t) ∧ (∀ dt, Instr.inputLost 5 ≠ .hardwareReset dt) ∧
    s.fs.trap = some ⟨1, 2, 3, false⟩ ∧ (∀ dt, Instr.inputLost 5 ≠ .trap dt) ∧ ∀ dt, Instr.inputLost 5 ≠ .status dt :=
  ⟨⟨_, rfl⟩, nofun, rfl, nofun, nofun⟩

end Sys2Proof.Tests
end

/-! SUPPORT. The blend mesh (R18 to R26): the written records as an ordered list, and what MESH leaves of them. -/

namespace Sys2Proof.Machine

/-! ### The written records as an ordered list -/

/-- A record put at an index is read there, and nothing else is read otherwise than before (R24). -/
theorem findRecord_putRecord (i j : Nat) (v : Vertex) (l : List (Nat × Vertex)) :
    findRecord (putRecord i v l) j = if i = j then some v else findRecord l j := by
  induction l with
  | nil => rfl
  | cons r l ih =>
    simp only [putRecord]
    split
    · rfl
    · split
      · next h => subst h; simp only [findRecord]; split <;> rfl
      · next h => simp only [findRecord, ih]; split <;> simp_all

/-- A record put among others brings in no third one. -/
theorem mem_putRecord {i : Nat} {v : Vertex} {l : List (Nat × Vertex)} {r : Nat × Vertex}
    (h : r ∈ putRecord i v l) : r = (i, v) ∨ r ∈ l := by
  induction l with
  | nil => exact .inl (List.mem_singleton.mp h)
  | cons q l ih =>
    simp only [putRecord] at h
    split at h
    · exact List.mem_cons.mp h
    · split at h
      · exact (List.mem_cons.mp h).imp_right (List.mem_cons_of_mem _)
      · obtain rfl | h := List.mem_cons.mp h
        · exact .inr List.mem_cons_self
        · exact (ih h).imp_right (List.mem_cons_of_mem _)

/-- The indices rise along the list. -/
abbrev IndicesRise (l : List (Nat × Vertex)) : Prop := (l.map Prod.fst).Pairwise (· < ·)

/-- A record put in its place keeps the indices rising. -/
theorem putRecord_rises {i : Nat} {v : Vertex} {l : List (Nat × Vertex)} (h : IndicesRise l) :
    IndicesRise (putRecord i v l) := by
  induction l with
  | nil => exact List.pairwise_singleton _ _
  | cons q l ih =>
    obtain ⟨hq, hl⟩ := List.pairwise_cons.mp h
    simp only [putRecord]
    split
    · next hi =>
      refine List.pairwise_cons.mpr ⟨fun k hk => ?_, h⟩
      obtain rfl | hk := List.mem_cons.mp hk
      · exact hi
      · exact hi.trans (hq k hk)
    · split
      · next hi => subst hi; exact h
      · refine List.pairwise_cons.mpr ⟨fun k hk => ?_, ih hl⟩
        obtain ⟨r, hr, rfl⟩ := List.mem_map.mp hk
        obtain rfl | hr := mem_putRecord hr
        · dsimp only; omega
        · exact hq _ (List.mem_map_of_mem hr)

/-- An index below every written one is unmarked. -/
theorem findRecord_of_lt {i : Nat} {l : List (Nat × Vertex)} (h : ∀ k ∈ l.map Prod.fst, i < k) :
    findRecord l i = none := by
  induction l with
  | nil => rfl
  | cons q l ih =>
    obtain ⟨hq, hl⟩ := List.forall_mem_cons.mp h
    simp only [findRecord, if_neg hq.ne', ih hl]

/-- A record put in its place is counted where its vertex was unmarked (R24). -/
theorem length_putRecord {i : Nat} {v : Vertex} {l : List (Nat × Vertex)} (h : IndicesRise l) :
    (putRecord i v l).length = if (findRecord l i).isSome = true then l.length else l.length + 1 := by
  induction l with
  | nil => rfl
  | cons q l ih =>
    obtain ⟨hq, hl⟩ := List.pairwise_cons.mp h
    simp only [putRecord, findRecord]
    split
    · next hi =>
      simp [hi.ne', findRecord_of_lt fun k hk => hi.trans (hq k hk)]
    · split
      · next hi => subst hi; simp
      · next hi =>
        simp only [if_neg (Ne.symm hi), List.length_cons, ih hl]
        split <;> rfl

/-! ### Sound records -/

/-- The records as R18, R22 and R24 leave them in a grid of `size` vertices: `MeshSound` but for the neighbour set. -/
structure RecordsSound (own : StationNo) (size : Nat) (m : Mesh) : Prop where
  rises : IndicesRise m.records
  inGrid : ∀ r ∈ m.records, r.1 < size
  sound : ∀ r ∈ m.records, VertexSound own r.2
  counted : m.marked = m.records.length

theorem meshSound_iff (s : State) :
    MeshSound s ↔ RecordsSound s.profile.station s.sc.vertexCount s.mt ∧ s.mt.neighbours = neighboursOf s.mt.records :=
  ⟨fun ⟨rises, inGrid, sound, counted, neighbours⟩ => ⟨⟨rises, inGrid, sound, counted⟩, neighbours⟩,
    fun ⟨⟨rises, inGrid, sound, counted⟩, neighbours⟩ => ⟨rises, inGrid, sound, counted, neighbours⟩⟩

/-- A sound record stored at an index of the grid keeps the records sound. -/
theorem RecordsSound.store {own : StationNo} {size i : Nat} {m : Mesh} {v : Vertex} (h : RecordsSound own size m)
    (hi : i < size) (hv : VertexSound own v) : RecordsSound own size (m.store i v) where
  rises := putRecord_rises h.rises
  inGrid r hr := by
    obtain rfl | hr := mem_putRecord hr
    · exact hi
    · exact h.inGrid r hr
  sound r hr := by
    obtain rfl | hr := mem_putRecord hr
    · exact hv
    · exact h.sound r hr
  counted := by
    simp only [Mesh.store, Mesh.isMarked, length_putRecord h.rises, h.counted]

/-- The checks of R22 other than the one on the index, each by itself, for a record that fails none. -/
theorem RawVertex.checks_of_passes {own : StationNo} {r : RawVertex} (h : r.fails own = false) :
    r.count ≤ 3 ∧ (∀ e ∈ r.listed, e.1 ≤ 15 ∧ e.1 ≠ own.val ∧ e.2 ≤ Config.one) ∧ (r.listed.map Prod.fst).Nodup ∧
      (r.inside = true → 1 ≤ r.rSelf ∧ r.rSelf ≤ Config.one) ∧ (r.inside = false → r.count = 0) := by
  simp only [RawVertex.fails, Bool.or_eq_false_iff, Bool.and_eq_false_imp, List.any_eq_false, decide_eq_true_eq,
    decide_eq_false_iff_not, beq_iff_eq, beq_eq_false_iff_ne, bne_eq_false_iff_eq, Bool.not_eq_eq_eq_not,
    Bool.not_false, Bool.not_true] at h
  obtain ⟨⟨⟨⟨⟨⟨⟨count, number⟩, other⟩, distinct⟩, high⟩, ramp⟩, low⟩, outside⟩ := h
  refine ⟨by omega, fun e he => ⟨?_, other e he, ?_⟩, distinct, fun hi => ⟨?_, ?_⟩, outside⟩
  · have := number e he; omega
  · have := ramp e he; omega
  · have := low hi; omega
  · have := high hi; omega

/-- Station numbers that fit are told apart by their station (R19). -/
theorem nodup_map_ofNat {l : List Nat} (hl : ∀ n ∈ l, n ≤ 15) (h : l.Nodup) : (l.map (Fin.ofNat 16)).Nodup := by
  refine h.map_on fun a ha b hb hab => ?_
  have := hl a ha
  have := hl b hb
  have := congrArg Fin.val hab
  simp only [Fin.val_ofNat] at this
  omega

/-- A record that passes its checks is stored sound (R22, R24). -/
theorem RawVertex.stored_sound {own : StationNo} {r : RawVertex} (h : r.fails own = false) : VertexSound own r.stored := by
  obtain ⟨count, listed, distinct, inside, outside⟩ := RawVertex.checks_of_passes h
  refine ⟨?_, ?_, ?_, ?_, ?_⟩
  · simp only [RawVertex.stored, RawVertex.listed, List.length_map, List.length_take]
    omega
  · have peers : r.stored.coverers.map Coverer.peer = (r.listed.map Prod.fst).map (Fin.ofNat 16) := by
      simp only [RawVertex.stored, List.map_map]; rfl
    rw [peers]
    refine nodup_map_ofNat (fun n hn => ?_) distinct
    obtain ⟨e, he, rfl⟩ := List.mem_map.mp hn
    exact (listed e he).1
  · intro c hc
    obtain ⟨e, he, rfl⟩ := List.mem_map.mp hc
    obtain ⟨fits, other, ramp⟩ := listed e he
    refine ⟨fun hp => other ?_, ramp⟩
    have := congrArg Fin.val hp
    simp only [Fin.val_ofNat] at this
    omega
  · intro hi
    have hi : r.inside = true := hi
    simp only [RawVertex.stored, if_pos hi]
    exact inside hi
  · intro ho
    have ho : r.inside = false := ho
    simp [RawVertex.stored, RawVertex.listed, ho, outside ho]

/-! ### The records that one MESH stores -/

/-- Store records at consecutive indices from `i` on. -/
def storeRecords : List RawVertex → Nat → Mesh → Mesh
  | [], _, m => m
  | r :: l, i, m => storeRecords l (i + 1) (m.store i r.stored)

/-- `n` is the place of the first record that fails, or the number of records where none does, with `i` the index of the
first record in a grid of `size` vertices (R22, R23). -/
structure FirstFailure (own : StationNo) (size i : Nat) (l : List RawVertex) (n : Nat) : Prop where
  passes : ∀ j q, j < n → l[j]? = some q → i + j < size ∧ q.fails own = false
  le_length : n ≤ l.length
  fails : ∀ q, l[n]? = some q → size ≤ i + n ∨ q.fails own = true

/-- Of the records after a first one that passes, the first failure comes one place earlier. -/
theorem FirstFailure.tail {own : StationNo} {size i n : Nat} {r : RawVertex} {l : List RawVertex}
    (h : FirstFailure own size i (r :: l) (n + 1)) : FirstFailure own size (i + 1) l n where
  passes j q hj hq := by
    have := h.passes (j + 1) q (by omega) hq
    rwa [← Nat.add_assoc, Nat.add_right_comm] at this
  le_length := Nat.le_of_succ_le_succ h.le_length
  fails q hq := by
    have := h.fails q hq
    rwa [← Nat.add_assoc, Nat.add_right_comm] at this

/-- Every run of records has a first failure or none. -/
theorem exists_firstFailure (own : StationNo) (size i : Nat) (l : List RawVertex) :
    ∃ n, FirstFailure own size i l n := by
  induction l generalizing i with
  | nil => exact ⟨0, fun _ _ hj => absurd hj (Nat.not_lt_zero _), Nat.le_refl _, nofun⟩
  | cons r l ih =>
    by_cases hr : size ≤ i ∨ r.fails own = true
    · exact ⟨0, fun _ _ hj => absurd hj (Nat.not_lt_zero _), Nat.zero_le _, fun q hq => by cases hq; exact hr⟩
    · obtain ⟨n, h⟩ := ih (i + 1)
      refine ⟨n + 1, fun j q hj hq => ?_, Nat.succ_le_succ h.le_length, fun q hq => ?_⟩
      · cases j with
        | zero => cases hq; simpa using hr
        | succ j =>
          have := h.passes j q (by omega) hq
          rwa [Nat.add_assoc, Nat.add_comm 1] at this
      · have := h.fails q hq
        rwa [Nat.add_assoc, Nat.add_comm 1] at this

/-- MESH stores the records before the first that fails, and names its index, or the last one of the grid where the
records run out of it (R22, R23). -/
theorem takeRecords_eq {own : StationNo} {size i n : Nat} {l : List RawVertex} (h : FirstFailure own size i l n)
    (m : Mesh) :
    takeRecords own size l i m =
      (storeRecords (l.take n) i m,
        if n = l.length then none else some (if size ≤ i + n then size - 1 else i + n)) := by
  induction l generalizing i n m with
  | nil => obtain rfl := Nat.le_zero.mp h.le_length; rfl
  | cons r l ih =>
    cases n with
    | zero =>
      simp only [takeRecords, List.take_zero, storeRecords, List.length_cons, Nat.add_zero]
      by_cases hi : size ≤ i
      · simp [hi]
      · have hr : r.fails own = true := (h.fails r rfl).resolve_left hi
        simp [hi, hr]
    | succ n =>
      obtain ⟨hi, hr⟩ := h.passes 0 r (Nat.succ_pos n) rfl
      have hi : ¬size ≤ i := by omega
      have shift : i + 1 + n = i + (n + 1) := by omega
      simp only [takeRecords, if_neg hi, hr, ih h.tail, List.take_succ_cons, storeRecords, List.length_cons, shift,
        Nat.add_right_cancel_iff, Bool.false_eq_true, if_false]

/-- A stored record is read at its index, and every other vertex reads as before (R24). -/
theorem findRecord_storeRecords (l : List RawVertex) (i k : Nat) (m : Mesh) :
    findRecord (storeRecords l i m).records k =
      if i ≤ k ∧ k < i + l.length then (l[k - i]?).map RawVertex.stored else findRecord m.records k := by
  induction l generalizing i m with
  | nil => rw [if_neg (by simp)]; rfl
  | cons r l ih =>
    rw [storeRecords, ih, Mesh.store, findRecord_putRecord, List.length_cons]
    obtain hk | rfl | hk := Nat.lt_trichotomy k i
    · rw [if_neg (by omega), if_neg (by omega), if_neg (by omega)]
    · rw [if_neg (by omega), if_pos rfl, if_pos (by omega), Nat.sub_self]; rfl
    · have place : k - i = k - (i + 1) + 1 := by omega
      rw [if_neg (show i ≠ k by omega), place, List.getElem?_cons_succ]
      exact if_congr (by omega) rfl rfl

/-- The records before the first failure are stored sound (R18, R22, R24). -/
theorem RecordsSound.storeRecords {own : StationNo} {size i n : Nat} {l : List RawVertex} {m : Mesh}
    (h : RecordsSound own size m) (hf : FirstFailure own size i l n) :
    RecordsSound own size (storeRecords (l.take n) i m) := by
  induction l generalizing i n m with
  | nil => rwa [List.take_nil]
  | cons r l ih =>
    cases n with
    | zero => exact h
    | succ n =>
      obtain ⟨hi, hr⟩ := hf.passes 0 r (Nat.succ_pos n) rfl
      exact ih (h.store hi (RawVertex.stored_sound hr)) hf.tail

/-- The mesh that a MESH leaves: the records before the first failure stored, the neighbour set brought up to date (R24,
R26). -/
def Mesh.taken (m : Mesh) (i : Nat) (l : List RawVertex) : Mesh := (storeRecords l i m).refreshNeighbours

/-- A mesh whose neighbour set stands needs no refreshing. -/
theorem Mesh.refreshNeighbours_of_eq {m : Mesh} (h : m.neighbours = neighboursOf m.records) : m.refreshNeighbours = m := by
  rw [Mesh.refreshNeighbours, ← h]

/-- What a MESH does with its records in CONFIG under a valid profile (R22, R23, R24, R26). -/
theorem meshRecords_eq {s : State} {first n : Nat} {records : List RawVertex} (hm : MeshSound s)
    (h : FirstFailure s.profile.station s.sc.vertexCount first records n) :
    meshRecords first records s =
      setResult (if n = records.length then .ok else .badVertex)
        (if n = records.length then 0
          else if s.sc.vertexCount ≤ first + n then s.sc.vertexCount - 1 else first + n)
        (s.modMt fun m => m.taken first (records.take n)) := by
  obtain ⟨_, neighbours⟩ := (meshSound_iff s).mp hm
  have same : s.mt.refreshNeighbours = s.mt := Mesh.refreshNeighbours_of_eq neighbours
  unfold meshRecords
  simp only [takeRecords_eq h]
  by_cases hn : n = records.length
  · simp only [if_pos hn]
    cases records with
    | nil => simp [State.modMt, Mesh.taken, storeRecords, same]
    | cons r l => rfl
  · simp only [if_neg hn]
    cases records with
    | nil => exact absurd (Nat.le_zero.mp h.le_length) hn
    | cons r l =>
      cases n with
      | zero => simp [State.modMt, Mesh.taken, storeRecords, same]
      | succ n =>
        obtain ⟨hi, hr⟩ := h.passes 0 r (Nat.succ_pos n) rfl
        have hi : first < s.sc.vertexCount := hi
        simp [hi, hr, State.modMt, Mesh.taken]

/-- The neighbour set follows every MESH that leaves sound records (R26). -/
theorem meshSound_taken {s : State} {first n : Nat} {records : List RawVertex} (hm : MeshSound s)
    (h : FirstFailure s.profile.station s.sc.vertexCount first records n) :
    MeshSound (s.modMt fun m => m.taken first (records.take n)) := by
  obtain ⟨sound, _⟩ := (meshSound_iff s).mp hm
  have kept := sound.storeRecords h
  exact (meshSound_iff _).mpr ⟨⟨kept.rises, kept.inGrid, kept.sound, kept.counted⟩, rfl⟩

/-- Settles O7: MESH stores the records before the first failure (`takeRecords_eq`), each read back at its index
(`findRecord_storeRecords`). -/
theorem meshTaken : Obligations.MeshTaken := by
  unfold Obligations.MeshTaken
  intro dt payload s n takes config valid sound header whole first records size passes le_length fails
  have failure : FirstFailure s.profile.station s.sc.vertexCount first records n := ⟨passes, le_length, fails⟩
  let u : State := endTransaction (s.advance dt)
  have usound : MeshSound u := sound
  have run : exec (.mesh dt payload) s = .next (meshRecords first records u) := by
    show execMesh dt payload s = _
    rw [execMesh, actionCommand_open dt s _ takes, if_neg (by omega)]
    simp [meshCommand, config, valid, endTransaction, u, first, records]
  rw [run, meshRecords_eq usound failure]
  have found (k : Nat) : findRecord (u.mt.taken first (records.take n)).records k =
      if first ≤ k ∧ k < first + n then (records[k - first]?).map RawVertex.stored else findRecord s.mt.records k := by
    rw [Mesh.taken, Mesh.refreshNeighbours, findRecord_storeRecords, List.length_take, Nat.min_eq_left le_length]
    refine ite_congr rfl (fun hk => ?_) fun _ => rfl
    rw [List.getElem?_take_of_lt (by omega)]
  refine ⟨_, rfl, rfl, fun j q hj hq => ?_, fun i hi => ?_, meshSound_taken usound failure, rfl⟩
  · have at_index : findRecord (u.mt.taken first (records.take n)).records (first + j) = some q.stored := by
      rw [found, if_pos (by omega), Nat.add_sub_cancel_left, hq]; rfl
    simp [setResult, Mesh.vertex, Mesh.isMarked, at_index]
  · have elsewhere : findRecord (u.mt.taken first (records.take n)).records i = findRecord s.mt.records i := by
      rw [found, if_neg (by omega)]
    simp [setResult, Mesh.vertex, Mesh.isMarked, elsewhere]

end Sys2Proof.Machine

/-! SUPPORT. Mesh and weight tables over one step (R22 to R26, R99, R115, R116). Most of what the part does touches none of
what they rest on, which `KeepsGrid` says of one operation after another; what remains are MESH, PROFILE, the entry to
CONFIG, a completed pass and a promotion. -/

namespace Sys2Proof.Machine

/-- Mesh and weight tables are sound. -/
abbrev BlendSound (s : State) : Prop := MeshSound s ∧ WeightsSound s

/-- From `s` to `t` nothing changes that the soundness of mesh and weight tables rests on; `t` is in CONFIG only where `s`
was and the engine stands as it stood. -/
structure KeepsGrid (s t : State) : Prop where
  mt : t.mt = s.mt
  profile : t.sc.profile = s.sc.profile
  valid : t.sc.profileValid = s.sc.profileValid
  shown : t.we.shown = s.we.shown
  work : t.we.work = s.we.work
  config : t.sc.state = .config → s.sc.state = .config ∧ t.we.engine = s.we.engine

namespace KeepsGrid

theorem refl (s : State) : KeepsGrid s s := ⟨rfl, rfl, rfl, rfl, rfl, fun h => ⟨h, rfl⟩⟩

theorem trans {s t u : State} (h : KeepsGrid s t) (k : KeepsGrid t u) : KeepsGrid s u where
  mt := k.mt.trans h.mt
  profile := k.profile.trans h.profile
  valid := k.valid.trans h.valid
  shown := k.shown.trans h.shown
  work := k.work.trans h.work
  config hu := by
    obtain ⟨ht, et⟩ := k.config hu
    obtain ⟨hs, es⟩ := h.config ht
    exact ⟨hs, et.trans es⟩

theorem after {s t u : State} (k : KeepsGrid t u) (h : KeepsGrid s t) : KeepsGrid s u := h.trans k

/-- What leaves the Station Controller, the Mesh Table and the Weight Engine alone keeps the grid. -/
theorem of_blocks {s t : State} (sc : t.sc = s.sc) (mt : t.mt = s.mt) (we : t.we = s.we) : KeepsGrid s t :=
  ⟨mt, by rw [sc], by rw [sc], by rw [we], by rw [we], fun h => ⟨sc ▸ h, by rw [we]⟩⟩

/-- A station outside CONFIG stays outside it. -/
theorem running {s t : State} (h : KeepsGrid s t) (hs : s.sc.state ≠ .config) : t.sc.state ≠ .config :=
  fun ht => hs (h.config ht).1

theorem vertexCount {s t : State} (h : KeepsGrid s t) : t.sc.vertexCount = s.sc.vertexCount := by
  simp only [Station.vertexCount, h.profile, h.valid]

theorem tableSound {s t : State} {l : List Weight} (h : KeepsGrid s t) (hl : TableSound s l) : TableSound t l := by
  unfold TableSound
  rw [h.vertexCount, h.mt]
  exact hl

theorem zeroTable {s t : State} (h : KeepsGrid s t) : zeroTable t.sc = zeroTable s.sc := by
  simp only [Machine.zeroTable, h.vertexCount]

theorem meshSound {s t : State} (h : KeepsGrid s t) (hs : MeshSound s) : MeshSound t := by
  simp only [MeshSound, State.profile, h.mt, h.profile, h.vertexCount]
  exact hs

theorem sound {s t : State} (h : KeepsGrid s t) (hs : BlendSound s) : BlendSound t := by
  obtain ⟨mesh, shown, work, config⟩ := hs
  refine ⟨h.meshSound mesh, ?_, ?_, fun ht => ?_⟩
  · rw [h.shown]; exact h.tableSound shown
  · rw [h.work]; exact h.tableSound work
  · obtain ⟨hs, engine⟩ := h.config ht
    rw [h.shown, h.work, engine, h.zeroTable]
    exact config hs

end KeepsGrid

/-- A running station is not in CONFIG. -/
theorem ne_config_of_running {s : State} (h : s.running = true) : s.sc.state ≠ .config := by
  intro hc
  simp [State.running, hc, ShowState.running] at h

/-! ### Operations that keep the grid -/

theorem advance_keepsGrid (dt : Nat) (s : State) : KeepsGrid s (s.advance dt) := .of_blocks rfl rfl rfl

theorem setResult_keepsGrid (r : ResultCode) (i : Nat) (s : State) : KeepsGrid s (setResult r i s) :=
  ⟨rfl, rfl, rfl, rfl, rfl, fun h => ⟨h, rfl⟩⟩

theorem blendSound_setResult {r : ResultCode} {i : Nat} {s : State} (h : BlendSound s) : BlendSound (setResult r i s) :=
  (setResult_keepsGrid r i s).sound h

theorem runPass_keepsGrid (s : State) : KeepsGrid s (runPass s) := by
  rw [runPass_frame]
  exact ⟨rfl, rfl, rfl, rfl, rfl, fun h => ⟨h, rfl⟩⟩

/-- A move to a running state keeps the grid (R1). -/
theorem setState_keepsGrid {st : ShowState} (h : st ≠ .config) (s : State) : KeepsGrid s (setState st s) where
  mt := by simp
  profile := by simp
  valid := by simp
  shown := by simp
  work := by simp
  config hc := by rw [setState_frame] at hc; exact absurd hc h

theorem joiningExit_ne_config (s : State) : s.joiningExit ≠ .config := by
  unfold State.joiningExit; split <;> nofun

theorem joiningTest_keepsGrid (s : State) : KeepsGrid s (joiningTest s) := by
  obtain h | ⟨_, _, _, h⟩ := joiningTest_cases s
  · rw [h]; exact .refl s
  · rw [h]
    exact (setState_keepsGrid (joiningExit_ne_config s) s).trans ⟨rfl, rfl, rfl, rfl, rfl, fun h => ⟨h, rfl⟩⟩

theorem lockTest_keepsGrid (b s : State) : KeepsGrid s (lockTest b s) := by
  unfold lockTest
  split
  · exact .refl s
  · exact joiningTest_keepsGrid s

theorem lampTest_keepsGrid (s : State) : KeepsGrid s (lampTest s) := by
  unfold lampTest
  split
  · exact setState_keepsGrid (joiningExit_ne_config s) s
  · split
    · split
      · exact (setState_keepsGrid (by nofun) s).trans (.of_blocks rfl rfl rfl)
      · exact .refl s
    · split
      · exact setState_keepsGrid (by nofun) s
      · exact .refl s
    · exact joiningTest_keepsGrid s
    · exact .refl s
    · exact .refl s

theorem applyOrder_keepsGrid (o : SameInstant) (b s : State) : KeepsGrid s (applyOrder o b s) :=
  .of_blocks (by simp) (by simp) (by simp)

/-- A view change moves the engine and leaves both tables (R109). -/
theorem engineViewChange_tables (s : State) :
    (engineViewChange s).we.shown = s.we.shown ∧ (engineViewChange s).we.work = s.we.work := by
  unfold engineViewChange; (repeat' split) <;> exact ⟨rfl, rfl⟩

/-- A recomputation of the view outside CONFIG keeps the grid (R63, R109). -/
theorem recomputeView_keepsGrid {s : State} (h : s.sc.state ≠ .config) : KeepsGrid s (recomputeView s) := by
  have tables : (recomputeView s).we.shown = s.we.shown ∧ (recomputeView s).we.work = s.we.work := by
    unfold recomputeView
    split
    · exact ⟨rfl, rfl⟩
    · exact engineViewChange_tables _
  exact ⟨by simp, by simp, by simp, tables.1, tables.2, fun hc => absurd (by simpa using hc) h⟩

/-! ### The seam link -/

theorem dropPulse_keepsGrid (s : State) : KeepsGrid s (dropPulse s) := .of_blocks rfl rfl rfl

theorem takeStartMark_keepsGrid (joined : Nat) (s : State) : KeepsGrid s (takeStartMark joined s) := by
  unfold takeStartMark beginOffer
  (repeat' split) <;> exact .of_blocks rfl rfl rfl

theorem takeArbitrationLoss_keepsGrid (s : State) : KeepsGrid s (takeArbitrationLoss s) := by
  unfold takeArbitrationLoss
  split
  · exact .of_blocks (by simp [countLostArb]) (by simp [countLostArb]) (by simp [countLostArb])
  · exact .refl s

theorem takeStuck_keepsGrid (s : State) : KeepsGrid s (takeStuck s) := by
  unfold takeStuck; dsimp only; split <;> exact .of_blocks rfl rfl rfl

theorem takeStartMarkSeen_keepsGrid (c2 c3 c4 : Bool) (run : Nat) (s : State) :
    KeepsGrid s (takeStartMarkSeen c2 c3 c4 run s) := by
  unfold takeStartMarkSeen takeMark
  dsimp only
  (repeat' split) <;> exact .of_blocks rfl rfl rfl

theorem takeShort_keepsGrid (c : ShortCause) (run : Nat) (s : State) : KeepsGrid s (takeShort c run s) := by
  rw [takeShort_frame]; exact .of_blocks rfl rfl rfl

theorem takeStray_keepsGrid (width : Nat) (s : State) : KeepsGrid s (takeStray width s) := by
  unfold takeStray; split <;> exact .of_blocks rfl rfl rfl

/-! ### Messages -/

theorem actOnPulse_keepsGrid (n : StationNo) (f : PulseFields) (s : State) : KeepsGrid s (actOnPulse n f s) := by
  have mismatch : KeepsGrid s (mismatchPulse n s) := by
    unfold mismatchPulse
    dsimp only
    split <;> exact .of_blocks (by simp [raiseFault]) (by simp [raiseFault]) (by simp [raiseFault])
  unfold actOnPulse storePulse
  split
  · split
    · exact .of_blocks (by simp) (by simp) (by simp)
    · exact .refl s
  · exact mismatch

theorem actOnReady_keepsGrid (n : StationNo) (f : FrameNo) (s : State) : KeepsGrid s (actOnReady n f s) := by
  unfold actOnReady; dsimp only; split <;> exact .of_blocks rfl rfl rfl

theorem actOnLeave_keepsGrid (n : StationNo) (r : BitVec 4) (s : State) : KeepsGrid s (actOnLeave n r s) := by
  unfold actOnLeave; dsimp only; split <;> exact .of_blocks (by simp) (by simp) (by simp)

theorem handPulseOn_keepsGrid (n : StationNo) (f : PulseFields) (t0 : Nat) (s : State) :
    KeepsGrid s (handPulseOn n f t0 s) := by
  unfold handPulseOn
  dsimp only
  (repeat' split) <;> exact .of_blocks (by simp) (by simp) (by simp)

/-- A delivery in a running state keeps the grid where acting on the message and handing it on do (R52). -/
theorem deliverMessage_keepsGrid {act handOn : State → State} (hact : ∀ u, KeepsGrid u (act u))
    (hand : ∀ u, KeepsGrid u (handOn u)) {s : State} (h : s.sc.state ≠ .config) :
    KeepsGrid s (deliverMessage act handOn s) := by
  have acted : KeepsGrid s (act (hearPeer s)) :=
    .trans (.of_blocks (by simp) (by simp) (by simp)) (hact _)
  have viewed := acted.trans (recomputeView_keepsGrid (acted.running h))
  have weighed := viewed.trans (.of_blocks (weighIfChanged_sc (hearPeer s) _) (by simp) (by simp))
  exact (weighed.trans (hand _)).trans (lockTest_keepsGrid _ _)

/-- The end of a received message in a running state keeps the grid where its delivery does (R45). -/
theorem takeMessage_keepsGrid {length : Nat} {crc : Byte} {v : Verdict} {deliver : State → State}
    (hd : ∀ u, u.sc.state ≠ .config → KeepsGrid u (deliver u)) {s : State} (h : s.sc.state ≠ .config) :
    KeepsGrid s (takeMessage length crc v deliver s) := by
  cases v with
  | checkFail => exact .of_blocks rfl rfl rfl
  | duplicate => exact .of_blocks rfl rfl rfl
  | deliver => exact (hd (endReception length crc s) h).after (.of_blocks rfl rfl rfl)

theorem running_of_messageEndDue {length : Nat} {s : State} (h : s.messageEndDue length = true) :
    s.sc.state ≠ .config := by
  unfold State.messageEndDue at h
  split at h
  · exact ne_config_of_running (Bool.and_eq_true_iff.mp h).1
  · cases h

/-! ### Consequences of a frame start -/

theorem takeSilent_keepsGrid (n : StationNo) (o : SameInstant) {s : State} (h : s.sc.state ≠ .config) :
    KeepsGrid s (takeSilent n o s) := by
  have changed : KeepsGrid s (changeEntry n { s.pt.entry n with status := .silent } s) :=
    .of_blocks (by simp) (by simp) (by simp)
  have viewed := changed.trans (recomputeView_keepsGrid (changed.running h))
  have weighed := viewed.trans (.of_blocks (weighIfChanged_sc s _) (by simp) (by simp))
  exact (weighed.trans (lockTest_keepsGrid s _)).trans (applyOrder_keepsGrid o s _)

theorem takeIsolated_keepsGrid (o : SameInstant) (s : State) : KeepsGrid s (takeIsolated o s) :=
  (applyOrder_keepsGrid o s _).after ((lockTest_keepsGrid s _).after (.of_blocks rfl rfl rfl))

theorem becomeReference_keepsGrid (o : SameInstant) (s : State) : KeepsGrid s (becomeReference o s) :=
  (applyOrder_keepsGrid o s _).after ((lockTest_keepsGrid s _).after (.of_blocks rfl rfl rfl))

theorem takeColdStartTest_keepsGrid (o : SameInstant) (s : State) : KeepsGrid s (takeColdStartTest o s) := by
  unfold takeColdStartTest
  split
  · exact becomeReference_keepsGrid o s
  · exact .refl s

theorem takeOrphanTest_keepsGrid (o : SameInstant) (s : State) : KeepsGrid s (takeOrphanTest o s) := by
  unfold takeOrphanTest
  split
  · exact becomeReference_keepsGrid o s
  · exact .refl s

theorem takeLockTimeout_keepsGrid (o : SameInstant) (s : State) : KeepsGrid s (takeLockTimeout o s) :=
  have waived : KeepsGrid s (s.modSc fun c => { c with lockWaived := true }) :=
    ⟨rfl, rfl, rfl, rfl, rfl, fun h => ⟨h, rfl⟩⟩
  waived.trans ((joiningTest_keepsGrid _).trans (applyOrder_keepsGrid o s _))

/-! ### Lamp -/

theorem announceLamp_keepsGrid (before : Nat) {s : State} (h : s.sc.state ≠ .config) :
    KeepsGrid s (announceLamp before s) := by
  unfold announceLamp
  split
  · exact .refl s
  · exact (recomputeView_keepsGrid h).trans (lampTest_keepsGrid _)

theorem formAverage_keepsGrid {s : State} (h : s.sc.state ≠ .config) : KeepsGrid s (formAverage s) := by
  unfold formAverage
  dsimp only
  split
  · exact (announceLamp_keepsGrid (s := raiseFault (s.modLs _)) _ h).after (.of_blocks rfl rfl rfl)
  · exact (announceLamp_keepsGrid (s := s.modLs _) _ h).after (.of_blocks rfl rfl rfl)

theorem takeSequenceCode_keepsGrid (code : Nat) {s : State} (h : s.sc.state ≠ .config) :
    KeepsGrid s (takeSequenceCode code s) := by
  unfold takeSequenceCode completeSequence
  split
  · exact .refl s
  · dsimp only
    split
    · exact .of_blocks rfl rfl rfl
    · split
      · exact (formAverage_keepsGrid (s := State.modLs _ (s.modLs _)) h).after (.of_blocks rfl rfl rfl)
      · exact .of_blocks rfl rfl rfl

theorem takeManualCode_keepsGrid (code : BitVec 12) (s : State) : KeepsGrid s (takeManualCode code s) := by
  unfold takeManualCode; split <;> exact .of_blocks rfl rfl rfl

/-! ### Pixels -/

theorem settleStore_keepsGrid (s : State) : KeepsGrid s (settleStore s) := .of_blocks (by simp) (by simp) (by simp)

theorem endBurst_keepsGrid (s : State) : KeepsGrid s (endBurst s) := .of_blocks (by simp) (by simp) (by simp)

theorem endFrameShort_keepsGrid (s : State) : KeepsGrid s (endFrameShort s) := by
  unfold endFrameShort; dsimp only; (repeat' split) <;> exact .of_blocks rfl rfl rfl

theorem takeSlot_keepsGrid (s : State) : KeepsGrid s (takeSlot s) := by
  unfold takeSlot; (repeat' split) <;> exact .of_blocks rfl rfl rfl

theorem endFrameInProgress_keepsGrid (s : State) :
    KeepsGrid s (if s.fs.frameInProgress then endFrameShort s else s) := by
  split
  · exact endFrameShort_keepsGrid s
  · exact .refl s

theorem takeInputFrameStart_keepsGrid (s : State) : KeepsGrid s (takeInputFrameStart s) :=
  (settleStore_keepsGrid _).after
    (((endFrameInProgress_keepsGrid s).trans (takeSlot_keepsGrid _)).trans (.of_blocks rfl rfl rfl))

theorem takePixel_keepsGrid (px : Pixel) (s : State) : KeepsGrid s (takePixel px s) := by
  unfold takePixel
  (repeat' split) <;> exact .of_blocks (by simp) (by simp) (by simp)

theorem takeLineEnd_keepsGrid (s : State) : KeepsGrid s (takeLineEnd s) :=
  (settleStore_keepsGrid _).after (.of_blocks rfl rfl rfl)

theorem judgeFrame_keepsGrid (i : SlotNo) (s : State) : KeepsGrid s (judgeFrame i s) := by
  unfold judgeFrame; (repeat' split) <;> exact .of_blocks rfl rfl rfl

theorem takeTrailerEnd_keepsGrid (s : State) : KeepsGrid s (takeTrailerEnd s) := by
  unfold takeTrailerEnd
  dsimp only
  split
  · exact (settleStore_keepsGrid _).after ((judgeFrame_keepsGrid _ s).trans (.of_blocks rfl rfl rfl))
  · exact (settleStore_keepsGrid _).after (.of_blocks rfl rfl rfl)

theorem takeInputLoss_keepsGrid (s : State) : KeepsGrid s (takeInputLoss s) :=
  (settleStore_keepsGrid _).after ((endFrameInProgress_keepsGrid s).trans (.of_blocks rfl rfl rfl))

theorem takeWriteBurst_keepsGrid (s : State) : KeepsGrid s (takeWriteBurst s) := by
  unfold takeWriteBurst
  split
  · split
    · exact (endBurst_keepsGrid _).after (.of_blocks rfl rfl rfl)
    · exact endBurst_keepsGrid s
  · exact .refl s

theorem noteFailedBurst_keepsGrid (n : Need) (s : State) : KeepsGrid s (noteFailedBurst n s) := by
  unfold noteFailedBurst; dsimp only; split <;> exact .of_blocks rfl rfl rfl

theorem takeReadBurst_keepsGrid (u : List Upset) (s : State) : KeepsGrid s (takeReadBurst u s) := by
  unfold takeReadBurst
  split
  · next n kept _ =>
    dsimp only
    have fetched (f : FrameStore → FrameStore) : KeepsGrid s (if kept = true then s.modFs f else s) := by
      split <;> exact .of_blocks rfl rfl rfl
    split
    · exact ((fetched _).trans (noteFailedBurst_keepsGrid n _)).trans (endBurst_keepsGrid _)
    · exact (fetched _).trans (endBurst_keepsGrid _)
  · exact .refl s

theorem sendPixel_keepsGrid (p : Pixel) (s : State) : KeepsGrid s (sendPixel p s) := .of_blocks rfl rfl rfl

theorem noteUnderrun_keepsGrid (s : State) : KeepsGrid s (noteUnderrun s) := by
  unfold noteUnderrun; split <;> exact .of_blocks rfl rfl rfl

theorem countClipped_keepsGrid (s : State) : KeepsGrid s (countClipped s) := .of_blocks rfl rfl rfl

theorem formPicturePixel_keepsGrid (y x : Nat) (s : State) : KeepsGrid s (formPicturePixel y x s) := by
  have sent (p : Pixel) : KeepsGrid s (sendPixel p (s.modFs noteOccupancy)) :=
    (sendPixel_keepsGrid p _).after (.of_blocks rfl rfl rfl)
  unfold formPicturePixel
  dsimp only
  split
  · exact (noteUnderrun_keepsGrid _).after (sent _)
  · exact sent _
  · split
    · exact (countClipped_keepsGrid _).after (sent _)
    · exact sent _

theorem takePixelDue_keepsGrid (s : State) : KeepsGrid s (takePixelDue s) := by
  have formed (y x : Nat) : KeepsGrid s (formPixel y x s) := by
    unfold formPixel
    split
    · exact formPicturePixel_keepsGrid y x s
    · exact sendPixel_keepsGrid _ s
    · exact sendPixel_keepsGrid _ s
    · exact .refl s
  unfold takePixelDue
  split
  · next y x _ => exact (settleStore_keepsGrid _).after ((formed y x).trans (.of_blocks rfl rfl rfl))
  · exact .refl s

/-! ### Tables of zeros -/

/-- A table of zeros of the grid's size is sound (R99, R117). -/
theorem tableSound_zeroTable (s : State) : TableSound s (zeroTable s.sc) := by
  refine ⟨List.length_replicate .., fun e he => ?_, fun i hi _ => ?_⟩
  · obtain ⟨_, rfl⟩ := List.mem_replicate.mp he
    exact ⟨Nat.zero_le _, Nat.zero_le _⟩
  · simp [zeroTable, List.getD_eq_getElem?_getD, hi]

/-- Tables of zeros with the engine IDLE are sound in every state (R115, R116). -/
theorem weightsSound_of_zero {s : State} (shown : s.we.shown = zeroTable s.sc) (work : s.we.work = zeroTable s.sc)
    (engine : s.we.engine = .idle) : WeightsSound s := by
  refine ⟨?_, ?_, fun _ => ⟨shown, work, engine⟩⟩
  · rw [shown]; exact tableSound_zeroTable s
  · rw [work]; exact tableSound_zeroTable s

/-- The unmarked mesh is sound (R28). -/
theorem meshSound_blank {s : State} (h : s.mt = Mesh.blank) : MeshSound s := by
  simp [MeshSound, h, Mesh.blank, neighboursOf]

/-- The entry to CONFIG keeps the mesh and leaves tables of zeros (R15, R116). -/
theorem blendSound_enterConfig {s : State} (h : MeshSound s) : BlendSound (enterConfig s) := by
  obtain ⟨-, sc, -, -, -, -, we, -, -, -, -, mt, -⟩ := enterConfig_enters s
  have count : (enterConfig s).sc.vertexCount = s.sc.vertexCount := by rw [sc]; rfl
  have zero : zeroTable (enterConfig s).sc = zeroTable s.sc := by rw [zeroTable, count]; rfl
  refine ⟨?_, weightsSound_of_zero ?_ ?_ (by rw [we])⟩
  · simp only [MeshSound, State.profile, mt, count]
    rw [sc]
    exact h
  · rw [zero, we]; rfl
  · rw [zero, we]; rfl

/-- Where STOP's LEAVE has been sent or dropped, what remains is sound (R15). -/
theorem blendSound_stopComplete {s : State} (h : BlendSound s) : BlendSound (stopComplete s) := by
  unfold stopComplete
  split
  · exact blendSound_enterConfig h.1
  · exact h

theorem blendSound_takeBitFault {line : LineLevel} {s : State} (h : BlendSound s) :
    BlendSound (takeBitFault line s) := by
  unfold takeBitFault retryOrDrop
  split
  · dsimp only
    split
    · exact KeepsGrid.sound (.of_blocks (by simp [countBitFault]) (by simp [countBitFault]) (by simp [countBitFault]))
        h
    · split
      · exact blendSound_stopComplete (KeepsGrid.sound (.of_blocks rfl rfl rfl) h)
      · exact KeepsGrid.sound (.of_blocks rfl rfl rfl) h
  · exact h

theorem blendSound_takeCompletion {s : State} (h : BlendSound s) : BlendSound (takeCompletion s) := by
  unfold takeCompletion
  split
  · dsimp only
    split
    · exact blendSound_stopComplete (KeepsGrid.sound (.of_blocks rfl rfl rfl) h)
    · exact KeepsGrid.sound (.of_blocks rfl rfl rfl) h
  · exact h

theorem blendSound_softReset {line : LineLevel} {s : State} (h : BlendSound s) : BlendSound (softReset line s) := by
  have entered := blendSound_enterConfig (s := s.modSlc fun l =>
    if l.busy then setLine line.dominant (s.now - line.run) l else l) h.1
  unfold softReset
  generalize enterConfig _ = e at entered
  exact KeepsGrid.sound ⟨rfl, rfl, rfl, rfl, rfl, fun h => ⟨h, rfl⟩⟩ entered

theorem blendSound_heldInReset (s : State) : BlendSound (heldInReset s) :=
  ⟨meshSound_blank rfl, weightsSound_of_zero rfl rfl rfl⟩

theorem blendSound_releaseReset {s : State} (h : BlendSound s) : BlendSound (releaseReset s) := by
  unfold releaseReset
  split
  · exact KeepsGrid.sound (.of_blocks rfl rfl rfl) h
  · exact h

/-! ### The commands of the service port -/

/-- An accepted PROFILE leaves no mesh and tables of zeros of the new size (R28, R117). -/
theorem blendSound_acceptProfile {r : RawProfile} {s : State} (h : s.we.engine = .idle) :
    BlendSound (acceptProfile r s) := by
  refine ⟨meshSound_blank (by simp [acceptProfile]), weightsSound_of_zero ?_ ?_ ?_⟩
  · simp [acceptProfile]
  · simp [acceptProfile]
  · simpa [acceptProfile] using h

/-- A change of the mesh in CONFIG leaves the tables of zeros sound (R116). -/
theorem weightsSound_modMt {g : Mesh → Mesh} {s : State} (hw : WeightsSound s) (hc : s.sc.state = .config) :
    WeightsSound (s.modMt g) := by
  obtain ⟨-, -, config⟩ := hw
  obtain ⟨shown, work, engine⟩ := config hc
  exact weightsSound_of_zero shown work engine

theorem blendSound_profileCommand {r : RawProfile} {s : State} (h : BlendSound s) :
    BlendSound (profileCommand r s) := by
  unfold profileCommand
  split
  · next hc =>
    obtain ⟨mesh, weights⟩ := h
    split
    · exact blendSound_setResult ⟨meshSound_blank rfl, weightsSound_modMt weights hc⟩
    · exact blendSound_setResult (blendSound_acceptProfile (weights.2.2 hc).2.2)
  · exact blendSound_setResult h

theorem blendSound_meshCommand {payload : List Byte} {s : State} (h : BlendSound s) :
    BlendSound (meshCommand payload s) := by
  obtain ⟨mesh, weights⟩ := h
  unfold meshCommand
  split
  · exact blendSound_setResult ⟨mesh, weights⟩
  · next hc =>
    split
    · exact blendSound_setResult ⟨mesh, weights⟩
    · obtain ⟨n, failure⟩ :=
        exists_firstFailure s.profile.station s.sc.vertexCount (wordAt payload 0) (readVertices payload)
      rw [meshRecords_eq mesh failure]
      exact blendSound_setResult
        ⟨meshSound_taken mesh failure, weightsSound_modMt weights (not_not.mp hc)⟩

theorem startShow_keepsGrid (s : State) : KeepsGrid s (startShow s) where
  mt := by simp [startShow, formViewAfresh]
  profile := by simp [startShow, formViewAfresh]
  valid := by simp [startShow, formViewAfresh]
  shown := by rw [startShow, formViewAfresh, (engineViewChange_tables _).1]; simp
  work := by rw [startShow, formViewAfresh, (engineViewChange_tables _).2]; simp
  config hc := by
    rw [startShow, formViewAfresh, engineViewChange_frame, setState_frame] at hc
    cases hc

theorem stopShow_keepsGrid (s : State) : KeepsGrid s (stopShow s) :=
  (setState_keepsGrid (by nofun) s).trans (.of_blocks rfl rfl rfl)

theorem sampleCommand_keepsGrid (channel mode : Byte) (f : Channel → Lamp → Lamp) (s : State) :
    KeepsGrid s (sampleCommand channel mode f s) := by
  unfold sampleCommand
  split
  · exact setResult_keepsGrid ..
  · split
    · exact setResult_keepsGrid ..
    · split
      · exact setResult_keepsGrid ..
      · exact (setResult_keepsGrid ..).after (.of_blocks rfl rfl rfl)

/-! ### Passes and promotions -/

/-- What a vertex gives is in range, and zero outside (R99, R100, R104). -/
theorem computeVertex_weight (p : Profile) (w : View) (x : Vertex) :
    ((computeVertex p w x).weight.gain ≤ Config.one ∧ (computeVertex p w x).weight.floor ≤ Config.one) ∧
      (x.inside = false → (computeVertex p w x).weight = ⟨0, 0⟩) := by
  unfold computeVertex
  split
  · exact ⟨⟨Nat.zero_le _, Nat.zero_le _⟩, fun _ => rfl⟩
  · next h => exact ⟨⟨Nat.min_le_left .., Nat.min_le_left ..⟩, fun hx => absurd (by simp [zeroCase, hx]) h⟩

/-- The table of a pass is sound (R99, R107, R108). -/
theorem tableSound_passResults (s : State) : TableSound s ((passResults s).map VertexResult.weight) := by
  refine ⟨by simp [passResults], fun e he => ?_, fun i hi ho => ?_⟩
  · simp only [passResults, List.map_map, List.mem_map] at he
    obtain ⟨i, -, rfl⟩ := he
    exact (computeVertex_weight ..).1
  · have weight := (computeVertex_weight s.profile s.we.copy (s.mt.vertex i)).2 ho
    simp [passResults, List.getD_eq_getElem?_getD, hi, weight]

/-- A completed pass puts a sound table in WORK (R108). -/
theorem blendSound_takePassComplete {s : State} (hr : s.sc.state ≠ .config) (h : BlendSound s) :
    BlendSound (takePassComplete s) := by
  obtain ⟨mesh, shown, _, _⟩ := (runPass_keepsGrid s).sound h
  have work : TableSound (runPass s) ((passResults s).map VertexResult.weight) :=
    (runPass_keepsGrid s).tableSound (tableSound_passResults s)
  have running : (runPass s).sc.state ≠ .config := (runPass_keepsGrid s).running hr
  unfold takePassComplete
  refine (recomputeView_keepsGrid ?_).sound ⟨mesh, shown, work, fun hc => absurd hc running⟩
  exact running

/-- A promotion exchanges two sound tables; in CONFIG no table is PENDING (R110, R116). -/
theorem blendSound_promote {s : State} (h : BlendSound s) : BlendSound (promote s) := by
  obtain ⟨mesh, shown, work, config⟩ := h
  unfold promote
  split
  · next pending =>
    have running : s.sc.state ≠ .config := fun hc => by
      obtain ⟨-, -, idle⟩ := config hc
      rw [idle] at pending
      cases pending
    dsimp only
    split
    · exact ⟨mesh, work, shown, fun hc => absurd hc running⟩
    · exact ⟨mesh, work, shown, fun hc => absurd hc running⟩
  · exact ⟨mesh, shown, work, config⟩

theorem beginOutputFrame_keepsGrid (s : State) : KeepsGrid s (beginOutputFrame s) :=
  .of_blocks (by simp) (by simp) (by simp)

theorem joinTick_keepsGrid (s : State) : KeepsGrid s (s.modSc joinTick) := by
  have same : (joinTick s.sc).profile = s.sc.profile ∧ (joinTick s.sc).profileValid = s.sc.profileValid ∧
      (joinTick s.sc).state = s.sc.state := by
    unfold joinTick; (repeat' split) <;> exact ⟨rfl, rfl, rfl⟩
  obtain ⟨profile, valid, state⟩ := same
  exact ⟨rfl, profile, valid, rfl, rfl, fun h => ⟨state ▸ h, rfl⟩⟩

theorem blendSound_frameStartRunning {o : SameInstant} {s : State} (h : BlendSound s) :
    BlendSound (frameStartRunning o s) := by
  have counted : KeepsGrid s
      (((silenceTick (s.modCu frameCounts)).modLs (lampFrameStart s.now)).modSc joinTick) :=
    .trans (.of_blocks (by simp) (by simp) (by simp)) (joinTick_keepsGrid _)
  have output (b : Bool) (u : State) : KeepsGrid u (if b = true then u else beginOutputFrame u) := by
    split
    · exact .refl u
    · exact beginOutputFrame_keepsGrid u
  have output' (b : Bool) (u : State) : KeepsGrid u (if b = true then beginOutputFrame u else u) := by
    split
    · exact beginOutputFrame_keepsGrid u
    · exact .refl u
  have promoted := blendSound_promote ((counted.trans (output o.outputAfter _)).sound h)
  have tested := (joiningTest_keepsGrid _).sound promoted
  exact (KeepsGrid.trans (.of_blocks rfl rfl rfl) (output' o.outputAfter _)).sound tested

theorem blendSound_takeFrameStart {o : SameInstant} {s : State} (h : BlendSound s) :
    BlendSound (takeFrameStart o s) := by
  have enacted : KeepsGrid s
      ((enactDecision (s.modCu (timerFrameStart s.profile.period (micros s.now)))).modFs latchMarks) :=
    .of_blocks (by simp) (by simp) (by simp)
  unfold takeFrameStart
  dsimp only
  split
  · exact blendSound_frameStartRunning (enacted.sound h)
  · exact (enacted.trans (beginOutputFrame_keepsGrid _)).sound h

/-! ### One step -/

/-- An event keeps mesh and weights sound where its effect does, met where it is due. -/
theorem blendSound_eventWhen {dt : Nat} {s t : State} {due : State → Bool} {f : State → State} (hs : BlendSound s)
    (h : eventWhen dt s due f = .next t) (hf : ∀ u, due u = true → BlendSound u → BlendSound (f u)) :
    BlendSound t := by
  have advanced := (advance_keepsGrid dt s).sound hs
  simp only [eventWhen, event, Host.Outcome.next.injEq] at h
  subst h
  split
  · exact advanced
  · split
    · next hd => exact hf _ hd advanced
    · exact advanced

theorem blendSound_actionCommand {dt : Nat} {s t : State} {f : State → State} (hs : BlendSound s)
    (h : actionCommand dt s f = .next t) (hf : ∀ u, BlendSound u → BlendSound (f u)) : BlendSound t := by
  unfold actionCommand at h
  exact blendSound_eventWhen hs h fun _ _ hu => hf _ (KeepsGrid.sound (.of_blocks rfl rfl rfl) hu)

theorem blendSound_readCommand {dt : Nat} {s t : State} {record : State → List Byte} {f : State → State}
    (hs : BlendSound s) (h : readCommand dt s record f = .next t) (hf : ∀ u, KeepsGrid u (f u)) : BlendSound t := by
  unfold readCommand at h
  exact blendSound_eventWhen hs h fun u _ hu => ((hf u).trans (.of_blocks rfl rfl rfl)).sound hu

/-- An event whose effect keeps the grid keeps mesh and weights sound. -/
theorem KeepsGrid.eventWhen {dt : Nat} {s t : State} {due : State → Bool} {f : State → State} (hs : BlendSound s)
    (h : eventWhen dt s due f = .next t) (hf : ∀ u, KeepsGrid u (f u)) : BlendSound t :=
  blendSound_eventWhen hs h fun u _ hu => (hf u).sound hu

theorem blendSound_execStart {dt : Nat} {s t : State} (hs : BlendSound s) (h : execStart dt s = .next t) :
    BlendSound t := by
  unfold execStart at h
  refine blendSound_actionCommand hs h fun u hu => ?_
  (repeat' split)
  · exact blendSound_setResult hu
  · exact blendSound_setResult hu
  · exact blendSound_setResult hu
  · exact blendSound_setResult ((startShow_keepsGrid u).sound hu)

theorem blendSound_execStop {dt : Nat} {s t : State} (hs : BlendSound s) (h : execStop dt s = .next t) :
    BlendSound t := by
  unfold execStop at h
  refine blendSound_actionCommand hs h fun u hu => ?_
  split
  · exact blendSound_setResult hu
  · exact blendSound_setResult hu
  all_goals exact blendSound_setResult ((stopShow_keepsGrid u).sound hu)

/-- A received message keeps mesh and weights sound where acting on it and handing it on keep the grid (R45, R52). -/
theorem blendSound_message {act handOn : State → State} (hact : ∀ u, KeepsGrid u (act u))
    (hand : ∀ u, KeepsGrid u (handOn u)) {length : Nat} {crc : Byte} {v : Verdict} {s : State}
    (due : s.messageEndDue length = true) (hs : BlendSound s) :
    BlendSound (takeMessage length crc v (deliverMessage act handOn) s) :=
  (takeMessage_keepsGrid (fun _ => deliverMessage_keepsGrid hact hand) (running_of_messageEndDue due)).sound hs

/-- Every command keeps mesh and weights sound. -/
theorem blendSound_exec {c : Instr} {s t : State} (hs : BlendSound s) (h : exec c s = .next t) : BlendSound t := by
  cases c <;> simp only [exec, execProfile, execMesh, execReset, execSampleSingle, execSampleContinuous,
    execSampleStop, execStatus, execPeers, execCounters, execTrap, execReadSample, execUnknown, execLength,
    execHardwareReset, execRstnRelease, execFrameStart, execCutoff, execStartMarkBegin, execArbitrationLost,
    execBitFault, execMessageComplete, execPulseExpired, execStuck, execLinkNormal, execStartMarkRecognised,
    execMessageEndedShort, execPulse, execReady, execLeave, execSilent, execIsolated, execColdStartTest,
    execOrphanTest, execLockTimeout, execPassComplete, execConversionComplete, execManualConversionComplete,
    execInputFrameStart, execInputPixel, execLineEnd, execTrailerLineEnd, execInputLost, execWriteBurst,
    execReadBurst, execPixelDue, execStrayPulse, execArbitrationFieldEnd, execTransactionBegin] at h
  case profile dt payload =>
    refine blendSound_actionCommand hs h fun u hu => ?_
    split
    · exact blendSound_setResult hu
    · exact blendSound_profileCommand hu
  case mesh dt payload =>
    refine blendSound_actionCommand hs h fun u hu => ?_
    split
    · exact blendSound_setResult hu
    · exact blendSound_meshCommand hu
  case start dt => exact blendSound_execStart hs h
  case stop dt => exact blendSound_execStop hs h
  case reset taken =>
    exact blendSound_actionCommand hs h fun u hu => blendSound_setResult (blendSound_softReset hu)
  case sampleSingle dt channel mode =>
    exact blendSound_actionCommand hs h fun u hu => (sampleCommand_keepsGrid ..).sound hu
  case sampleContinuous dt channel mode =>
    exact blendSound_actionCommand hs h fun u hu => (sampleCommand_keepsGrid ..).sound hu
  case sampleStop dt channel mode =>
    exact blendSound_actionCommand hs h fun u hu => (sampleCommand_keepsGrid ..).sound hu
  case status dt =>
    exact blendSound_readCommand hs h fun u => (runPass_keepsGrid u).trans (.of_blocks rfl rfl rfl)
  case peers dt => exact blendSound_readCommand hs h .refl
  case counters dt =>
    exact blendSound_readCommand hs h fun u => (runPass_keepsGrid u).trans (.of_blocks rfl rfl rfl)
  case trap dt => exact blendSound_readCommand hs h fun u => .of_blocks rfl rfl rfl
  case readSample dt => exact blendSound_readCommand hs h fun u => .of_blocks rfl rfl rfl
  case unknown dt code =>
    refine blendSound_actionCommand hs h fun u hu => ?_
    split
    · exact blendSound_setResult hu
    · exact hu
  case length dt code payload =>
    refine blendSound_actionCommand hs h fun u hu => ?_
    split
    · exact blendSound_setResult hu
    · exact hu
  case hardwareReset dt => cases h; exact blendSound_heldInReset _
  case rstnRelease dt => cases h; exact blendSound_releaseReset ((advance_keepsGrid dt s).sound hs)
  case frameStart dt order => exact blendSound_eventWhen hs h fun u _ hu => blendSound_takeFrameStart hu
  case cutoff dt => exact KeepsGrid.eventWhen hs h fun u => .of_blocks (by simp) (by simp) (by simp)
  case startMarkBegin dt joined => exact KeepsGrid.eventWhen hs h (takeStartMark_keepsGrid joined)
  case arbitrationLost dt => exact KeepsGrid.eventWhen hs h takeArbitrationLoss_keepsGrid
  case bitFault dt line => exact blendSound_eventWhen hs h fun u _ hu => blendSound_takeBitFault hu
  case messageComplete dt => exact blendSound_eventWhen hs h fun u _ hu => blendSound_takeCompletion hu
  case pulseExpired dt => exact KeepsGrid.eventWhen hs h dropPulse_keepsGrid
  case stuck dt => exact KeepsGrid.eventWhen hs h takeStuck_keepsGrid
  case linkNormal dt => exact KeepsGrid.eventWhen hs h fun u => .of_blocks rfl rfl rfl
  case startMarkRecognised dt c2 c3 c4 run => exact KeepsGrid.eventWhen hs h (takeStartMarkSeen_keepsGrid c2 c3 c4 run)
  case messageEndedShort dt cause run => exact KeepsGrid.eventWhen hs h (takeShort_keepsGrid cause run)
  case pulse dt sender payload crc =>
    exact blendSound_eventWhen hs h fun u due hu =>
      blendSound_message (actOnPulse_keepsGrid sender _) (handPulseOn_keepsGrid sender _ _) due hu
  case ready dt sender payload crc =>
    exact blendSound_eventWhen hs h fun u due hu =>
      blendSound_message (actOnReady_keepsGrid sender payload) .refl due hu
  case leave dt sender payload crc =>
    exact blendSound_eventWhen hs h fun u due hu =>
      blendSound_message (actOnLeave_keepsGrid sender _) .refl due hu
  case silent dt peer order =>
    refine blendSound_eventWhen hs h fun u hd hu => (takeSilent_keepsGrid peer order ?_).sound hu
    exact ne_config_of_running (by simp_all [State.silentDue])
  case isolated dt order => exact KeepsGrid.eventWhen hs h (takeIsolated_keepsGrid order)
  case coldStartTest dt order => exact KeepsGrid.eventWhen hs h (takeColdStartTest_keepsGrid order)
  case orphanTest dt order => exact KeepsGrid.eventWhen hs h (takeOrphanTest_keepsGrid order)
  case lockTimeout dt order => exact KeepsGrid.eventWhen hs h (takeLockTimeout_keepsGrid order)
  case passComplete dt =>
    refine blendSound_eventWhen hs h fun u hd hu => blendSound_takePassComplete ?_ hu
    exact ne_config_of_running (by simp_all [State.passCompleteDue])
  case conversionComplete dt code =>
    refine blendSound_eventWhen hs h fun u hd hu => (takeSequenceCode_keepsGrid _ ?_).sound hu
    exact ne_config_of_running (by simp_all)
  case manualConversionComplete dt code => exact KeepsGrid.eventWhen hs h (takeManualCode_keepsGrid code)
  case inputFrameStart dt => exact KeepsGrid.eventWhen hs h takeInputFrameStart_keepsGrid
  case inputPixel dt pixel => exact KeepsGrid.eventWhen hs h (takePixel_keepsGrid pixel)
  case lineEnd dt => exact KeepsGrid.eventWhen hs h takeLineEnd_keepsGrid
  case trailerLineEnd dt => exact KeepsGrid.eventWhen hs h takeTrailerEnd_keepsGrid
  case inputLost dt => exact KeepsGrid.eventWhen hs h takeInputLoss_keepsGrid
  case writeBurst dt => exact KeepsGrid.eventWhen hs h takeWriteBurst_keepsGrid
  case readBurst dt upsets => exact KeepsGrid.eventWhen hs h (takeReadBurst_keepsGrid upsets)
  case pixelDue dt => exact KeepsGrid.eventWhen hs h takePixelDue_keepsGrid
  case strayPulse dt width => exact KeepsGrid.eventWhen hs h (takeStray_keepsGrid width)
  case arbitrationFieldEnd dt => exact KeepsGrid.eventWhen hs h fun u => .of_blocks rfl rfl rfl
  case transactionBegin select => exact KeepsGrid.eventWhen hs h fun u => .of_blocks rfl rfl rfl

/-- Settles O58: every command keeps mesh and weights sound (`blendSound_exec`), and an empty queue idles. -/
theorem meshAndWeightsKept : Obligations.MeshAndWeightsKept := by
  unfold Obligations.MeshAndWeightsKept
  intro s t mesh weights h
  unfold step at h
  split at h
  · cases h; exact ⟨mesh, weights⟩
  · next c rest _ =>
    have waiting : BlendSound { s with pending := rest } := KeepsGrid.sound (.of_blocks rfl rfl rfl) ⟨mesh, weights⟩
    exact blendSound_exec waiting h

end Sys2Proof.Machine

/-! SUPPORT. The delivery of a peer's message while the table is NORMAL (R45, R52): the end of its reception, its entry, the
view and the engine, the choice of reference, and the JOINING test, each said once for PULSE and LEAVE. -/

namespace Sys2Proof.Machine

/-! ### The end of a received message -/

/-- The part at the end of a message of `length` bit times that began at `t0`, before the message is acted on (R44). -/
def State.receivedAt (dt length t0 : Nat) (crc : Byte) (s : State) : State :=
  { s with now := s.now + dt, slc := s.slc.received length t0 crc }

theorem messageEndDue_of_hearsAt {dt length t0 : Nat} {s : State} (h : s.hearsAt dt length t0) :
    (s.advance dt).messageEndDue length = true := by
  obtain ⟨-, running, receiving, ends⟩ := h
  have running : (s.advance dt).running = true := running
  have ends : s.now + dt = t0 + length * Config.bitTime := ends
  obtain receiving | receiving := receiving <;> simp [State.messageEndDue, receiving, running, ends]

theorem receptionStart_of_hearsAt {dt length t0 : Nat} {s : State} (h : s.hearsAt dt length t0) :
    (s.advance dt).receptionStart = t0 := by
  obtain ⟨-, -, receiving, -⟩ := h
  obtain receiving | receiving := receiving <;> simp [State.receptionStart, receiving]

theorem endReception_of_hearsAt {dt length t0 : Nat} {crc : Byte} {s : State} (h : s.hearsAt dt length t0) :
    endReception length crc (s.advance dt) = s.receivedAt dt length t0 crc := by
  rw [endReception, receptionStart_of_hearsAt h]
  rfl

/-- A message that passes the checks of R45 is delivered. -/
theorem verdictOf_eq_deliver {own sender : StationNo} {covered : List Bool} {crc : Byte} (hc : crc8 covered = crc)
    (hs : sender ≠ own) : verdictOf own sender covered crc false = .deliver := by
  simp [verdictOf, hc, hs]

/-- A valid PULSE is delivered (R45). -/
theorem exec_pulse_delivered {dt t0 : Nat} {sender : StationNo} {p : BitVec 64} {crc : Byte} {s : State}
    (hears : s.hearsAt dt 82 t0) (hc : crc8 (coveredBits 2 sender (bitsOf p)) = crc)
    (hs : sender ≠ s.profile.station) (state : (AnnouncedState.ofCode (readPulse p).state).isNone = false) :
    exec (.pulse dt sender p crc) s = .next (deliverPulse sender p t0 (s.receivedAt dt 82 t0 crc)) := by
  have due : (s.advance dt).messageEndDue pulseLength = true := messageEndDue_of_hearsAt hears
  have hs : sender ≠ (s.advance dt).profile.station := hs
  show execPulse dt sender p crc s = _
  rw [execPulse, eventWhen_due dt s _ _ hears.1 due, state, verdictOf_eq_deliver hc hs, receptionStart_of_hearsAt hears,
    ← endReception_of_hearsAt hears]
  rfl

/-- A valid LEAVE is delivered (R45). -/
theorem exec_leave_delivered {dt t0 : Nat} {sender : StationNo} {p : BitVec 8} {crc : Byte} {s : State}
    (hears : s.hearsAt dt 26 t0) (hc : crc8 (coveredBits 0 sender (bitsOf p)) = crc) (hs : sender ≠ s.profile.station) :
    exec (.leave dt sender p crc) s =
      .next (deliverMessage (actOnLeave sender (p.extractLsb' 4 4)) id (s.receivedAt dt 26 t0 crc)) := by
  have due : (s.advance dt).messageEndDue leaveLength = true := messageEndDue_of_hearsAt hears
  have hs : sender ≠ (s.advance dt).profile.station := hs
  show execLeave dt sender p crc s = _
  rw [execLeave, eventWhen_due dt s _ _ hears.1 due, verdictOf_eq_deliver hc hs, ← endReception_of_hearsAt hears]
  rfl

/-! ### One peer's entry -/

/-- The Peer Table of `t` is that of `s` with one peer's entry written, the own number left out. -/
structure EntryWritten (n : StationNo) (e : PeerEntry) (s t : State) : Prop where
  full : s.pt.entries.length = 16
  peer : n ≠ s.profile.station
  station : t.profile.station = s.profile.station
  entries : t.pt.entries = s.pt.entries.set n.val e

namespace EntryWritten

variable {n : StationNo} {e : PeerEntry} {s t : State}

theorem entry_same (h : EntryWritten n e s t) : t.pt.entry n = e := by
  have : n.val < s.pt.entries.length := by rw [h.full]; exact n.isLt
  simp [PeerTable.entry, h.entries, List.getD_eq_getElem?_getD, this]

theorem entry_ne (h : EntryWritten n e s t) {m : StationNo} (hm : m ≠ n) : t.pt.entry m = s.pt.entry m := by
  have : n.val ≠ m.val := fun hv => hm (Fin.ext hv.symm)
  simp [PeerTable.entry, h.entries, List.getD_eq_getElem?_getD, List.getElem?_set_ne this]

/-- A test that the entry meets as before finds the same peers. -/
theorem peersWith_same (h : EntryWritten n e s t) {test : PeerEntry → Bool} (ht : test e = test (s.pt.entry n)) :
    t.peersWith test = s.peersWith test := by
  unfold State.peersWith
  refine List.filter_congr fun m _ => ?_
  rw [h.station]
  by_cases hm : m = n
  · rw [hm, h.entry_same, ht]
  · rw [h.entry_ne hm]

/-- A test that the entry fails finds the same peers without it. -/
theorem peersWith_without (h : EntryWritten n e s t) {test : PeerEntry → Bool} (ht : test e = false) :
    t.peersWith test = (s.peersWith test).filter fun m => m != n := by
  unfold State.peersWith
  rw [List.filter_filter]
  refine List.filter_congr fun m _ => ?_
  rw [h.station]
  by_cases hm : m = n
  · simp [hm, h.entry_same, ht]
  · simp [hm, h.entry_ne hm]

/-- The peer is among those of a test exactly where its entry meets the test. -/
theorem mem_peersWith (h : EntryWritten n e s t) {test : PeerEntry → Bool} :
    n ∈ s.peersWith test ↔ test (s.pt.entry n) = true := by
  simp [State.peersWith, h.peer]

/-- An entry that is not LIVE, and was not, leaves the formed view (R62). -/
theorem formedView_same (h : EntryWritten n e s t) (lAnn : t.ls.lAnn = s.ls.lAnn) (kLocal : t.we.kLocal = s.we.kLocal)
    (before : (s.pt.entry n).status ≠ .live) (after : e.status ≠ .live) (serial : BitVec 8) :
    t.formedView serial = s.formedView serial := by
  have alive : t.alive = s.alive := h.peersWith_same (by simp [before, after])
  have other : ∀ m ∈ s.alive, t.pt.entry m = s.pt.entry m := fun m hm => h.entry_ne fun hn => by
    subst hn
    exact before (by simpa using h.mem_peersWith.mp hm)
  have levels : (s.alive.filterMap fun m => (t.pt.entry m).level) = s.alive.filterMap fun m => (s.pt.entry m).level :=
    List.filterMap_congr fun m hm => by rw [other m hm]
  have depths : (s.alive.filterMap fun m => (t.pt.entry m).depth) = s.alive.filterMap fun m => (s.pt.entry m).depth :=
    List.filterMap_congr fun m hm => by rw [other m hm]
  simp only [State.formedView, alive, lAnn, kLocal, levels, depths]

end EntryWritten

/-- Writing an entry raises PEER exactly where a neighbour enters or leaves LIVE, and does nothing else (R27, R67). -/
theorem changeEntry_eq (n : StationNo) (e : PeerEntry) (s : State) :
    changeEntry n e s = { s with
      pt := { s.pt with entries := s.pt.entries.set n.val e },
      svp := { s.svp with causes := { s.svp.causes with
        peer := s.svp.causes.peer ||
          (((s.pt.entry n).status == .live) != (e.status == .live) && s.mt.neighbours.contains n) } } } := by
  have moves : (((s.pt.entry n).status = .live) ≠ (e.status = .live) ∧ s.mt.neighbours.contains n = true) ↔
      (((s.pt.entry n).status == .live) != (e.status == .live) && s.mt.neighbours.contains n) = true := by
    by_cases hb : (s.pt.entry n).status = .live <;> by_cases he : e.status = .live <;> simp [hb, he]
  unfold changeEntry
  simp only [moves]
  split
  · next h => rw [h, Bool.or_true]; rfl
  · next h => rw [Bool.eq_false_of_not_eq_true h, Bool.or_false]; rfl

/-! ### The view and the engine -/

/-- A view advanced by one serial is another view. -/
theorem formedView_succ_ne (s : State) (v : View) : s.formedView (v.serial + 1) ≠ v := by
  intro h
  have : v.serial + 1 = v.serial := congrArg View.serial h
  bv_omega

/-- The engine is told of a recomputed view (R63, R109, R111). -/
theorem recomputeView_told (s : State) : ViewTold s (recomputeView s) := by
  unfold ViewTold
  unfold recomputeView
  dsimp only
  split
  · simp
  · have changed : (engineViewChange (s.modPt fun t => { t with view := s.formedView (t.view.serial + 1) })).pt.view =
        s.formedView (s.pt.view.serial + 1) := by rw [engineViewChange_frame]; rfl
    rw [changed, if_neg (formedView_succ_ne s _), engineViewChange_now]
    unfold engineViewChange
    by_cases idle : s.we.engine = .idle
    · simp [idle, startPass, State.modWe, State.modPt]
    · by_cases again : s.we.engine = .computing ∧ s.we.promotedAt = some s.now
      · simp [again, startPass, State.modWe, State.modPt]
      · simp [idle, again, State.modWe, State.modPt]

/-- A recomputation leaves what the promotion and the passes before have made of the engine. -/
theorem recomputeView_engine (s : State) :
    (recomputeView s).we.promoted = s.we.promoted ∧ (recomputeView s).we.kLocal = s.we.kLocal := by
  unfold recomputeView engineViewChange
  (repeat' split) <;> exact ⟨rfl, rfl⟩

/-! ### A message acted on, before its timings are handed on -/

/-- A peer has been heard and its message acted on: the entries and the port as the message leaves them (R52). -/
def State.acted (entries : List PeerEntry) (port : ServicePort) (s : State) : State :=
  { s with pt := { s.pt with entries := entries, unheard := 0 }, svp := port }

/-- The view has been recomputed and a change of eligibility weighed (R63, R65, R74). -/
def State.weighed (entries : List PeerEntry) (port : ServicePort) (s : State) : State :=
  let a := s.acted entries port
  { a with
    pt := { a.pt with view := (recomputeView a).pt.view }, we := (recomputeView a).we,
    cu := if a.eligiblePeers = s.eligiblePeers then s.cu
      else chooseReference s.profile.station a.eligiblePeers s.profile.period s.cu }

/-- A delivery while the table is NORMAL, by what acting on the message does (R52). -/
theorem deliverMessage_normal {act handOn : State → State} {entries : List PeerEntry} {port : ServicePort} {s : State}
    (normal : s.pt.condition = .normal)
    (hact : act (s.acted s.pt.entries s.svp) = s.acted entries port) :
    deliverMessage act handOn s = lockTest s (handOn (s.weighed entries port)) := by
  have heard : hearPeer s = s.acted s.pt.entries s.svp := by
    simp [hearPeer, normal, State.acted, State.modPt]
  have weighed : weighIfChanged (s.acted s.pt.entries s.svp) (recomputeView (s.acted entries port)) =
      s.weighed entries port := by
    have viewed := recomputeView_frame (s.acted entries port)
    unfold State.weighed weighIfChanged weighReference
    dsimp only
    generalize recomputeView (s.acted entries port) = v at viewed ⊢
    generalize v.pt.view = view, v.we = we at viewed ⊢
    subst viewed
    by_cases same : (s.acted entries port).eligiblePeers = s.eligiblePeers
    · rw [if_pos ⟨same.symm, rfl⟩]
      simp only [if_pos same]
      rfl
    · rw [if_neg fun h => same h.1.symm]
      simp only [if_neg same]
      rfl
  simp only [deliverMessage, heard, hact, weighed]

section

variable (entries : List PeerEntry) (port : ServicePort) (s : State)

theorem weighed_told : ViewTold s (s.weighed entries port) := by
  have told := recomputeView_told (s.acted entries port)
  unfold ViewTold at told ⊢
  rw [recomputeView_now] at told
  exact told

theorem weighed_engine :
    (s.weighed entries port).we.promoted = s.we.promoted ∧ (s.weighed entries port).we.kLocal = s.we.kLocal :=
  recomputeView_engine (s.acted entries port)

/-- The view after a message, formed as in any state with its entries (R62, R63). -/
theorem weighed_view {t : State} (ht : t.pt.entries = entries) (station : t.profile.station = s.profile.station)
    (lAnn : t.ls.lAnn = s.ls.lAnn) (kLocal : t.we.kLocal = s.we.kLocal) :
    (s.weighed entries port).pt.view =
      if t.formedView s.pt.view.serial = s.pt.view then s.pt.view else t.formedView (s.pt.view.serial + 1) := by
  have view := recomputeView_view (s.acted entries port)
  have formed (n : BitVec 8) : (s.acted entries port).formedView n = t.formedView n :=
    (formedView_congr (s.acted entries port) t n ht station lAnn kLocal).symm
  simp only [formed] at view
  refine Eq.trans (show _ = (recomputeView (s.acted entries port)).pt.view from rfl) (view.trans ?_)
  have serial : (s.acted entries port).pt.view = s.pt.view := rfl
  rw [serial]
  split
  · next same => exact same
  · rfl

end

/-! ### The JOINING test at the end of a delivery -/

/-- The state that a test on a moved lock leaves, and the instant it notes (R10, R83). -/
theorem lockTest_sc (b s : State) :
    (lockTest b s).sc = { s.sc with
      state := if s.sc.state = .joining ∧ s.cu.lock ≠ b.cu.lock ∧ s.lockMet = true ∧ s.we.promoted = true then
          (if s.profile.tMin ≤ s.ls.lAnn then .showing else .dark)
        else s.sc.state,
      leftJoining := if (lockTest b s).sc.state = s.sc.state then s.sc.leftJoining else some s.now } := by
  unfold lockTest
  by_cases same : b.cu.lock = s.cu.lock
  · simp [same]
  · obtain ⟨state, left⟩ := joiningTest_state s
    have moved : s.cu.lock ≠ b.cu.lock := Ne.symm same
    have frame : (joiningTest s).sc = { s.sc with
        state := (joiningTest s).sc.state, leftJoining := (joiningTest s).sc.leftJoining } := by
      conv_lhs => rw [joiningTest_frame]
    rw [if_neg same, frame, state, left]
    simp only [moved, ne_eq, not_false_eq_true, true_and]
    by_cases leaves : s.sc.state = .joining ∧ s.lockMet = true ∧ s.we.promoted = true
    · have other : (if s.profile.tMin ≤ s.ls.lAnn then ShowState.showing else .dark) ≠ s.sc.state := by
        rw [leaves.1]; split <;> nofun
      simp only [if_pos leaves, if_neg other]
    · simp only [if_neg leaves, if_true]

/-- A station state that a test on a moved lock changes raises STATE (R1, R27). -/
theorem lockTest_svp (b s : State) :
    (lockTest b s).svp = { s.svp with causes := { s.svp.causes with
      state := s.svp.causes.state || (lockTest b s).sc.state != s.sc.state } } := by
  unfold lockTest
  split
  · simp
  · conv_lhs => rw [joiningTest_frame]
    rw [bne_comm]

/-- A test on a moved lock touches the station, the port, the output and the Frame Store alone (R10, R120). -/
theorem lockTest_rest (b s : State) :
    lockTest b s = { s with
      sc := (lockTest b s).sc, svp := (lockTest b s).svp, wbp := (lockTest b s).wbp, fs := (lockTest b s).fs } := by
  unfold lockTest
  split
  · rfl
  · conv_lhs => rw [joiningTest_frame]
    conv_rhs => rw [joiningTest_frame]

/-- A state change turns the output BLACK as R120 and R160 say. -/
theorem setState_turnsBlack (st : ShowState) (s : State) : TurnsBlack s (setState st s) := by
  unfold TurnsBlack
  dsimp only
  by_cases same : s.sc.state = st
  · rw [setState_of_eq _ _ same]
    simp
  · have moved : (setState st s).sc.state = st := by rw [setState_frame]
    have differs : (st != s.sc.state) = true := by simp [Ne.symm same]
    rw [moved, differs, setState_of_ne _ _ same]
    by_cases show_ : st = .showing
    · simp [show_, raiseState]
    · by_cases picture : s.wbp.mode = .picture
      · simp [show_, picture, turnBlack, cutReader, raiseState, State.modSc, State.modSvp, State.modWbp, State.modFs]
      · simp [show_, picture, turnBlack, raiseState, State.modSc, State.modSvp]

theorem lockTest_turnsBlack (b s : State) : TurnsBlack s (lockTest b s) := by
  have stays : TurnsBlack s s := by simp [TurnsBlack]
  unfold lockTest
  split
  · exact stays
  · obtain h | ⟨-, -, -, h⟩ := joiningTest_cases s
    · rw [h]; exact stays
    · rw [h]; exact setState_turnsBlack s.joiningExit s

end Sys2Proof.Machine

/-! SUPPORT. LEAVE, and a PULSE with another dome tag (R53, R56). -/

namespace Sys2Proof.Machine

theorem lockTest_of_lock_eq {b s : State} (h : b.cu.lock = s.cu.lock) : lockTest b s = s := if_pos h

/-- A message that moves no peer into or out of eligibility leaves the cadence (R65, R74). -/
theorem weighed_of_same_peers {entries : List PeerEntry} {port : ServicePort} {s : State}
    (h : (s.acted entries port).eligiblePeers = s.eligiblePeers) :
    s.weighed entries port = { s with
      pt := (s.weighed entries port).pt, svp := port, we := (s.weighed entries port).we } := by
  have cu : (s.weighed entries port).cu = s.cu := if_pos h
  conv_rhs => rw [← cu]
  rfl

/-- A message that leaves the formed view leaves the view and the engine (R63). -/
theorem weighed_of_same_view {entries : List PeerEntry} {port : ServicePort} {s : State}
    (h : (s.acted entries port).formedView s.pt.view.serial = s.pt.view) :
    (s.weighed entries port).pt.view = s.pt.view ∧ (s.weighed entries port).we = s.we := by
  have same : recomputeView (s.acted entries port) = s.acted entries port := recomputeView_same _ h
  constructor
  · show (recomputeView (s.acted entries port)).pt.view = _
    rw [same]; rfl
  · show (recomputeView (s.acted entries port)).we = _
    rw [same]; rfl

/-- A delivery that leaves the cadence, of a message whose timings go nowhere (R52). -/
theorem deliverMessage_of_same_peers {act : State → State} {entries : List PeerEntry} {port : ServicePort} {s : State}
    (normal : s.pt.condition = .normal) (hact : act (s.acted s.pt.entries s.svp) = s.acted entries port)
    (h : (s.acted entries port).eligiblePeers = s.eligiblePeers) :
    deliverMessage act id s = s.weighed entries port := by
  rw [deliverMessage_normal normal hact, id, lockTest_of_lock_eq]
  rw [weighed_of_same_peers h]

/-! ### LEAVE -/

/-- The entry as a LEAVE stores it (R56). -/
def PeerEntry.left (reason : BitVec 4) (e : PeerEntry) : PeerEntry :=
  { e with reason := some reason, status := if e.status.heard then .dark else e.status }

theorem PeerEntry.left_eligible (reason : BitVec 4) (e : PeerEntry) : (e.left reason).eligible = e.eligible := by
  obtain ⟨status⟩ := e
  cases status <;> rfl

theorem PeerEntry.left_status_ne_live (reason : BitVec 4) (e : PeerEntry) : (e.left reason).status ≠ .live := by
  unfold PeerEntry.left
  cases e.status <;> nofun

/-- The port as an entry's change leaves it: PEER follows LIVE at the neighbours (R27, R67). -/
def ServicePort.followingLive (neighbour before after : Bool) (p : ServicePort) : ServicePort :=
  { p with causes := { p.causes with peer := p.causes.peer || (before != after && neighbour) } }

theorem actOnLeave_acted {n : StationNo} {reason : BitVec 4} {s : State} (h : (s.pt.entry n).status ≠ .mismatch) :
    actOnLeave n reason (s.acted s.pt.entries s.svp) =
      s.acted (s.pt.entries.set n.val ((s.pt.entry n).left reason))
        (s.svp.followingLive (s.mt.neighbours.contains n) ((s.pt.entry n).status == .live)
          (((s.pt.entry n).left reason).status == .live)) := by
  have h : ((s.acted s.pt.entries s.svp).pt.entry n).status ≠ .mismatch := h
  unfold actOnLeave
  dsimp only
  rw [if_neg h, changeEntry_eq]
  rfl

/-- Settles O36: the entry written (`actOnLeave_acted`), the view and the engine as they follow from it. -/
theorem leaveStored : Obligations.LeaveStored := by
  unfold Obligations.LeaveStored
  intro dt t0 sender p crc s hears hcrc other normal full follows before
  have view : s.pt.view = s.formedView s.pt.view.serial := follows.1 hears.2.1
  rw [exec_leave_delivered hears hcrc other]
  let u : State := s.receivedAt dt 26 t0 crc
  have normal : u.pt.condition = .normal := normal
  by_cases mismatch : before.status = .mismatch
  · have act : actOnLeave sender (p.extractLsb' 4 4) (u.acted u.pt.entries u.svp) = u.acted u.pt.entries u.svp :=
      if_pos mismatch
    have delivered := deliverMessage_of_same_peers normal act rfl
    have kept : (u.weighed u.pt.entries u.svp).pt.view = s.pt.view ∧ (u.weighed u.pt.entries u.svp).we = s.we :=
      weighed_of_same_view view.symm
    refine ⟨_, congrArg _ delivered, ?_, fun _ => ⟨kept.1, kept.2, rfl⟩, fun live => ?_, weighed_of_same_peers rfl⟩
    · rw [if_pos mismatch]; rfl
    · rw [mismatch] at live; cases live
  · let entries := s.pt.entries.set sender.val (before.left (p.extractLsb' 4 4))
    let port := s.svp.followingLive (s.mt.neighbours.contains sender) (before.status == .live)
      ((before.left (p.extractLsb' 4 4)).status == .live)
    let t : State := u.weighed entries port
    have dark : (before.left (p.extractLsb' 4 4)).status ≠ .live := PeerEntry.left_status_ne_live _ _
    have written : EntryWritten sender (before.left (p.extractLsb' 4 4)) s t := ⟨full, other, rfl, rfl⟩
    have peers : t.eligiblePeers = s.eligiblePeers := written.peersWith_same (PeerEntry.left_eligible ..)
    have delivered : deliverMessage (actOnLeave sender (p.extractLsb' 4 4)) id u = t :=
      deliverMessage_of_same_peers normal (actOnLeave_acted mismatch) peers
    have kLocal : t.we.kLocal = s.we.kLocal := (weighed_engine entries port u).2
    refine ⟨t, congrArg _ delivered, ?_, fun quiet => ?_, fun live => ?_, weighed_of_same_peers peers⟩
    · have status : (before.left (p.extractLsb' 4 4)).status =
          if before.status = .joining ∨ before.status = .live ∨ before.status = .dark then .dark
          else before.status := by
        unfold PeerEntry.left
        cases before.status <;> rfl
      rw [if_neg mismatch, ← status]
      rfl
    · have formed : (u.acted entries port).formedView s.pt.view.serial = s.pt.view := by
        have acted : EntryWritten sender (before.left (p.extractLsb' 4 4)) s (u.acted entries port) :=
          ⟨full, other, rfl, rfl⟩
        rw [acted.formedView_same rfl rfl quiet dark, ← view]
      obtain ⟨sameView, sameEngine⟩ := weighed_of_same_view (s := u) formed
      refine ⟨sameView, sameEngine, ?_⟩
      show s.svp.followingLive _ _ _ = s.svp
      rw [beq_false_of_ne quiet, beq_false_of_ne dark]
      simp [ServicePort.followingLive]
    · have alive : t.alive = s.alive.filter fun n => n != sender :=
        written.peersWith_without (by simp [dark])
      have changed : t.formedView s.pt.view.serial ≠ s.pt.view := fun same => by
        have listed : sender ∈ s.alive := written.mem_peersWith.mpr (by simp [before, live])
        have alive_same : t.alive = s.alive := (congrArg View.alive same).trans (congrArg View.alive view)
        rw [← alive_same, alive] at listed
        simp at listed
      have formed := weighed_view entries port u (t := t) rfl rfl rfl kLocal
      refine ⟨formed.trans (if_neg changed), alive, weighed_told entries port u, ?_⟩
      show s.svp.followingLive _ _ _ = _
      rw [live, beq_false_of_ne dark]
      simp [ServicePort.followingLive]

end Sys2Proof.Machine

/-! SUPPORT. A PULSE with another dome tag (R53). -/

namespace Sys2Proof.Machine

/-! ### A PULSE with another dome tag -/

/-- The entry as a PULSE with another tag leaves it (R53). -/
def PeerEntry.mismatched (e : PeerEntry) : PeerEntry := { e with status := .mismatch, silence := 0 }

/-- The port as a PULSE with another tag leaves it: FAULT for a peer that was not MISMATCH, PEER for a neighbour that was
LIVE (R27, R53, R67). -/
def ServicePort.mismatched (neighbour : Bool) (before : PeerStatus) (p : ServicePort) : ServicePort :=
  { p with causes := { p.causes with
    fault := p.causes.fault || before != .mismatch, peer := p.causes.peer || (before == .live && neighbour) } }

theorem actOnPulse_mismatched {n : StationNo} {f : PulseFields} {s : State} (h : f.tag ≠ s.sc.domeTag) :
    actOnPulse n f (s.acted s.pt.entries s.svp) =
      s.acted (s.pt.entries.set n.val (s.pt.entry n).mismatched)
        (s.svp.mismatched (s.mt.neighbours.contains n) (s.pt.entry n).status) := by
  have h : f.tag ≠ (s.acted s.pt.entries s.svp).sc.domeTag := h
  have same : (s.acted s.pt.entries s.svp).pt.entry n = s.pt.entry n := rfl
  have left (b c : Bool) : ((b != ((.mismatch : PeerStatus) == .live)) && c) = (b && c) := by cases b <;> rfl
  unfold actOnPulse mismatchPulse
  dsimp only
  rw [if_neg h, changeEntry_eq, same, left]
  unfold ServicePort.mismatched
  split
  · next again => rw [again, show ((.mismatch : PeerStatus) != .mismatch) = false from rfl, Bool.or_false]; rfl
  · next first => rw [bne_iff_ne.mpr first, Bool.or_true]; rfl

theorem isNone_ofCode {c : BitVec 2} (h : c ≠ 3) : (AnnouncedState.ofCode c).isNone = false := by
  revert h; revert c; decide

/-- What the delivery of a PULSE with another tag leaves, before its JOINING test (R53). -/
theorem deliverPulse_mismatched {n : StationNo} {p : BitVec 64} {t0 : Nat} {s : State}
    (normal : s.pt.condition = .normal) (tag : (readPulse p).tag ≠ s.sc.domeTag) :
    deliverPulse n p t0 s =
      lockTest s (s.weighed (s.pt.entries.set n.val (s.pt.entry n).mismatched)
        (s.svp.mismatched (s.mt.neighbours.contains n) (s.pt.entry n).status)) := by
  rw [deliverPulse, deliverMessage_normal normal (actOnPulse_mismatched tag)]
  exact congrArg _ (if_neg tag)

/-- Settles O34: the entry written (`actOnPulse_mismatched`), the view, the engine and the choice of reference as they
follow from it, and the JOINING test (`lockTest_sc`). -/
theorem pulseMismatched : Obligations.PulseMismatched := by
  unfold Obligations.PulseMismatched
  intro dt t0 sender p crc s hears hcrc other normal full state tag before
  rw [exec_pulse_delivered hears hcrc other (isNone_ofCode state)]
  let u : State := s.receivedAt dt 82 t0 crc
  let entries := s.pt.entries.set sender.val before.mismatched
  let port := s.svp.mismatched (s.mt.neighbours.contains sender) before.status
  let w : State := u.weighed entries port
  have delivered : deliverPulse sender p t0 u = lockTest u w := deliverPulse_mismatched normal tag
  have acted : EntryWritten sender before.mismatched s (u.acted entries port) := ⟨full, other, rfl, rfl⟩
  have promoted : w.we.promoted = s.we.promoted := (weighed_engine entries port u).1
  have kLocal : w.we.kLocal = s.we.kLocal := (weighed_engine entries port u).2
  have weighed : w.cu = if before.eligible = true then
      chooseReference s.profile.station (s.eligiblePeers.filter fun n => n != sender) s.profile.period s.cu
      else s.cu := by
    by_cases eligible : before.eligible = true
    · have without : (u.acted entries port).eligiblePeers = s.eligiblePeers.filter fun n => n != sender :=
        acted.peersWith_without rfl
      have differ : (u.acted entries port).eligiblePeers ≠ s.eligiblePeers := fun same => by
        have listed : sender ∈ s.eligiblePeers := acted.mem_peersWith.mpr eligible
        rw [← same, without] at listed
        simp at listed
      rw [if_pos eligible, ← without]
      exact if_neg differ
    · have same : (u.acted entries port).eligiblePeers = s.eligiblePeers :=
        acted.peersWith_same (Eq.symm (Bool.eq_false_of_not_eq_true eligible))
      rw [if_neg eligible]
      exact if_pos same
  refine ⟨lockTest u w, congrArg _ delivered, ?_, ?_, ?_, ?_, ?_, ?_, ?_, ?_, lockTest_turnsBlack u w, ?_⟩
  · rw [lockTest_pt]; rfl
  · rw [lockTest_pt]
    exact weighed_view entries port u (by rw [lockTest_pt]; rfl) (by rw [State.profile, lockTest_sc_profile]; rfl)
      (by rw [lockTest_ls]; rfl) (by rw [lockTest_we]; exact kLocal)
  · rw [lockTest_slc]; rfl
  · exact lockTest_svp u w
  · rw [lockTest_cu]; exact weighed
  · have told := weighed_told entries port u
    unfold ViewTold at told ⊢
    rw [lockTest_we, lockTest_pt, lockTest_now]
    exact told
  · have lockMet : (lockTest u w).lockMet = w.lockMet := by
      rw [State.lockMet, lockTest_cu, lockTest_sc_lockWaived]; rfl
    rw [lockMet, lockTest_cu, ← promoted]
    exact lockTest_sc u w
  · intro ineligible
    have cu : w.cu = s.cu := weighed.trans (if_neg (by simp [ineligible]))
    rw [lockTest_of_lock_eq (b := u) (congrArg Cadence.lock cu).symm]
    rfl
  · rw [lockTest_pt, lockTest_slc, lockTest_cu, lockTest_we]; exact lockTest_rest u w

end Sys2Proof.Machine

/-! SUPPORT. A PULSE with the own dome tag (R54): what a reference PULSE can do to the decision of the period, the search
for divergence, and the delivery from the entry to the JOINING test. -/

namespace Sys2Proof.Machine

/-! ### The cutoff that a reference PULSE brings on (R77, R78) -/

theorem setReference_cutoffTaken (r : Option StationNo) (c : Cadence) :
    (setReference r c).cutoffTaken = c.cutoffTaken := by
  unfold setReference; split <;> rfl

/-- The choice of reference leaves the period in progress (R74). -/
theorem chooseReference_cutoffTaken (own : StationNo) (peers : List StationNo) (period : Nat) (c : Cadence) :
    (chooseReference own peers period c).cutoffTaken = c.cutoffTaken := by
  unfold chooseReference toReference toSeeking
  dsimp only
  (repeat' split) <;> simp [setReference_cutoffTaken]

theorem freeTest_cutoffTaken (p : Profile) (d : Option Int) (c : Cadence) :
    (freeTest p d c).cutoffTaken = c.cutoffTaken := by
  unfold freeTest toFree toSeeking
  dsimp only
  (repeat' split) <;> rfl

theorem lockRule_cutoffTaken (p : Profile) (e : Int) (c : Cadence) : (lockRule p e c).cutoffTaken = c.cutoffTaken := by
  unfold lockRule toSeeking
  dsimp only
  (repeat' split) <;> rfl

/-- Only a PULSE before the cutoff makes the cutoff occur at once (R78). -/
theorem applyCorrection_at_once {p : Profile} {now : Nat} {e : Int} {c : Cadence}
    (h : (applyCorrection p now e c).2 = true) : c.cutoffTaken = false := by
  unfold applyCorrection at h
  dsimp only at h
  split at h
  · cases h
  · next before => exact Bool.eq_false_of_not_eq_true before

/-- A reference PULSE changes the Cadence Unit alone, but where it brings the period's cutoff on (R77, R78). -/
theorem takeReferencePulse_cases (ts : Int) (beat : BitVec 8) (s : State) :
    takeReferencePulse ts beat s = { s with cu := (takeReferencePulse ts beat s).cu } ∨
      (s.cu.cutoffTaken = false ∧ (takeReferencePulse ts beat s).cu.cutoffTaken = true ∧
        ∃ c, (takeReferencePulse ts beat s).fs.slots = (takeCutoff { s with cu := c }).fs.slots) := by
  unfold takeReferencePulse
  dsimp only
  have before : (s.modCu fun c => freeTest s.profile (beatDelta c ts beat) c).cu.cutoffTaken = s.cu.cutoffTaken :=
    freeTest_cutoffTaken ..
  split
  · split
    · next atOnce =>
      refine .inr ⟨before ▸ applyCorrection_at_once atOnce, ?_⟩
      have taken (c : Cadence) : (takeCutoff { s with cu := c }).cu.cutoffTaken = true := by rw [takeCutoff_frame]
      split
      · exact ⟨(lockRule_cutoffTaken ..).trans (taken _), _, rfl⟩
      · exact ⟨(chooseReference_cutoffTaken ..).trans ((lockRule_cutoffTaken ..).trans (taken _)), _, rfl⟩
    · left; split <;> rfl
  · left; split <;> rfl

/-- The part with another link, port and engine, none of which the Cadence Unit and the Swap Unit read. -/
def State.beside (l : Link) (p : ServicePort) (e : WeightEngine) (s : State) : State :=
  { s with slc := l, svp := p, we := e }

section

variable (l : Link) (p : ServicePort) (e : WeightEngine)

/-- The decision of a cutoff is the same whatever link, port and engine hold (R90, R91). -/
theorem decideSwap_beside (s : State) : decideSwap (s.beside l p e) = (decideSwap s).beside l p e := by
  have target : (s.beside l p e).swapTarget = s.swapTarget := rfl
  have slots : (s.beside l p e).fs.slots = s.fs.slots := rfl
  unfold decideSwap
  rw [target, slots]
  cases s.swapTarget with
  | none => rfl
  | some f =>
    dsimp only
    split
    · cases readySlotOf s.fs.slots f <;> rfl
    · rfl

theorem takeCutoff_beside (s : State) : takeCutoff (s.beside l p e) = (takeCutoff s).beside l p e := by
  have running : (s.beside l p e).running = s.running := rfl
  unfold takeCutoff
  rw [running]
  cases s.running
  · rfl
  · exact decideSwap_beside l p e (s.modCu fun c => { c with cutoffTaken := true })

/-- A reference PULSE is taken alike whatever link, port and engine hold (R77). -/
theorem takeReferencePulse_beside (ts : Int) (beat : BitVec 8) (s : State) :
    takeReferencePulse ts beat (s.beside l p e) = (takeReferencePulse ts beat s).beside l p e := by
  have profile : (s.beside l p e).profile = s.profile := rfl
  have modCu (f : Cadence → Cadence) (u : State) : (u.beside l p e).modCu f = (u.modCu f).beside l p e := rfl
  have now (u : State) : (u.beside l p e).now = u.now := rfl
  have cu (u : State) : (u.beside l p e).cu = u.cu := rfl
  have weigh (u : State) : weighReference (u.beside l p e) = (weighReference u).beside l p e := rfl
  have move (c : Prop) [Decidable c] (u v : State) :
      (if c then u.beside l p e else v.beside l p e) = (if c then u else v).beside l p e := by split <;> rfl
  unfold takeReferencePulse
  simp only [profile, modCu, cu, now, takeCutoff_beside, weigh, move]

end

/-! ### The SHOWN frame over a cutoff (R90, R91) -/

theorem slotAt_mapSlots (f : SlotNo → Slot → Slot) (l : List Slot) (i : SlotNo) :
    slotAt (mapSlots f l) i = f i (slotAt l i) := by
  simp [slotAt, mapSlots, List.getD_eq_getElem?_getD]

/-- Choosing a slot leaves the SHOWN frame (R91). -/
theorem shownFrame_chooseSlot (i : SlotNo) (l : List Slot) : shownFrame (chooseSlot i l) = shownFrame l := by
  have shown : shownSlot (chooseSlot i l) = shownSlot l := by
    unfold shownSlot chooseSlot
    congr 1
    funext j
    rw [slotAt_mapSlots]
    cases slotAt l j <;> rfl
  have frame (j : SlotNo) : (slotAt (chooseSlot i l) j).frame? = (slotAt l j).frame? := by
    rw [chooseSlot, slotAt_mapSlots]
    cases slotAt l j <;> rfl
  unfold shownFrame
  rw [shown]
  simp only [frame]

theorem shownFrame_decideSwap (s : State) : shownFrame (decideSwap s).fs.slots = shownFrame s.fs.slots := by
  unfold decideSwap
  split
  · rfl
  · split
    · split
      · exact shownFrame_chooseSlot ..
      · rfl
    · rfl

theorem shownFrame_takeCutoff (s : State) : shownFrame (takeCutoff s).fs.slots = shownFrame s.fs.slots := by
  unfold takeCutoff
  dsimp only
  split
  · exact shownFrame_decideSwap ..
  · rfl

theorem shownFrame_takeReferencePulse (ts : Int) (beat : BitVec 8) (s : State) :
    shownFrame (takeReferencePulse ts beat s).fs.slots = shownFrame s.fs.slots := by
  obtain h | ⟨-, -, c, h⟩ := takeReferencePulse_cases ts beat s
  · rw [h]
  · rw [h, shownFrame_takeCutoff]

/-! ### The search for divergence (R96) -/

/-- The own frame for the period of a sender: the decided one where that period is the coming one (R96). -/
theorem ownFrameFor_eq (ts : Int) (s : State) :
    s.ownFrameFor ts = match s.swu with
      | .swap target _ =>
        if s.cu.cutoffTaken = true ∧ (s.profile.period : Int) < 2 * (ts - (s.cu.latestFrameStart.getD 0 : Nat)) then
          some target
        else shownFrame s.fs.slots
      | _ => shownFrame s.fs.slots := by
  unfold State.ownFrameFor
  simp only [Bool.and_eq_true, decide_eq_true_eq]
  cases s.swu <;> simp only [ite_self]

/-- A divergence is counted where both are in step and the frames differ, and nothing else changes (R96). -/
theorem examinePulse_eq (ts : Int) (l : LockState) (f : FrameNo) (s : State) :
    examinePulse ts l f s = { s with counters := { s.counters with
      diverge :=
        if s.running = true ∧ (l = .locked ∨ l = .reference) ∧ (s.cu.lock = .locked ∨ s.cu.lock = .reference) ∧
            s.ownFrameFor ts ≠ none ∧ s.ownFrameFor ts ≠ some f then
          min 65535 (s.counters.diverge + 1)
        else s.counters.diverge } } := by
  unfold examinePulse
  cases s.ownFrameFor ts with
  | none => simp
  | some g =>
    have counts : (s.running && s.cu.lock.inStep && l.inStep && f != g) = true ↔
        s.running = true ∧ (l = .locked ∨ l = .reference) ∧ (s.cu.lock = .locked ∨ s.cu.lock = .reference) ∧
          some g ≠ none ∧ some g ≠ some f := by
      simp only [LockState.inStep, Bool.and_eq_true, Bool.or_eq_true, beq_iff_eq, bne_iff_ne, ne_eq, reduceCtorEq,
        not_false_eq_true, true_and, Option.some.injEq, eq_comm (a := g)]
      tauto
    dsimp only
    split
    · next h => rw [if_pos (counts.mp h)]; rfl
    · next h => rw [if_neg fun k => h (counts.mpr k)]

/-! ### A PULSE with the own dome tag -/

/-- The entry as a PULSE with the own tag stores it (R49, R54). -/
def PeerEntry.pulsed (tMin : Nat) (f : PulseFields) (a : AnnouncedState) (e : PeerEntry) : PeerEntry :=
  { e with
    status := statusOf tMin a f.level, level := some f.level, depth := some f.depth, state := some a,
    lock := some f.lock, shown := if a = .showing then some f.shown else none, silence := 0 }

theorem actOnPulse_stored {n : StationNo} {f : PulseFields} {a : AnnouncedState} {s : State}
    (tag : f.tag = s.sc.domeTag) (state : AnnouncedState.ofCode f.state = some a) :
    actOnPulse n f (s.acted s.pt.entries s.svp) =
      s.acted (s.pt.entries.set n.val ((s.pt.entry n).pulsed s.profile.tMin f a))
        (s.svp.followingLive (s.mt.neighbours.contains n) ((s.pt.entry n).status == .live)
          (statusOf s.profile.tMin a f.level == .live)) := by
  have tag : f.tag = (s.acted s.pt.entries s.svp).sc.domeTag := tag
  unfold actOnPulse
  rw [if_pos tag, state]
  exact changeEntry_eq ..

/-- The Cadence Unit takes the PULSE where its sender is the reference (R65, R77). -/
def State.timed (n : StationNo) (ts : Int) (beat : BitVec 8) (s : State) : State :=
  if s.cu.takesPulse n = true then takeReferencePulse ts beat s else s

theorem timed_frame (n : StationNo) (ts : Int) (beat : BitVec 8) (s : State) :
    s.timed n ts beat = { s with
      cu := (s.timed n ts beat).cu, swu := (s.timed n ts beat).swu,
      fs := { s.fs with slots := (s.timed n ts beat).fs.slots },
      counters := { s.counters with swapMiss := (s.timed n ts beat).counters.swapMiss } } := by
  unfold State.timed
  split
  · conv_lhs => rw [takeReferencePulse_frame]
  · rfl

theorem timed_pt (n : StationNo) (ts : Int) (beat : BitVec 8) (s : State) : (s.timed n ts beat).pt = s.pt := by
  rw [timed_frame]

theorem timed_sc (n : StationNo) (ts : Int) (beat : BitVec 8) (s : State) : (s.timed n ts beat).sc = s.sc := by
  rw [timed_frame]

theorem timed_counters (n : StationNo) (ts : Int) (beat : BitVec 8) (s : State) :
    (s.timed n ts beat).counters = { s.counters with swapMiss := (s.timed n ts beat).counters.swapMiss } := by
  conv_lhs => rw [timed_frame]

theorem shownFrame_timed (n : StationNo) (ts : Int) (beat : BitVec 8) (s : State) :
    shownFrame (s.timed n ts beat).fs.slots = shownFrame s.fs.slots := by
  unfold State.timed
  split
  · exact shownFrame_takeReferencePulse ..
  · rfl

/-- Where the cutoff has not been brought on, the decision and the chosen marks stand. -/
theorem timed_of_same_cutoff {n : StationNo} {ts : Int} {beat : BitVec 8} {s : State}
    (h : (s.timed n ts beat).cu.cutoffTaken = s.cu.cutoffTaken) :
    (s.timed n ts beat).swu = s.swu ∧ (s.timed n ts beat).counters = s.counters ∧ (s.timed n ts beat).fs = s.fs := by
  unfold State.timed at h ⊢
  split
  · next takes =>
    rw [if_pos takes] at h
    obtain alone | ⟨before, after, -⟩ := takeReferencePulse_cases ts beat s
    · rw [alone]; exact ⟨rfl, rfl, rfl⟩
    · rw [before, after] at h; cases h
  · exact ⟨rfl, rfl, rfl⟩

theorem takesPulse_iff (n : StationNo) (c : Cadence) :
    c.takesPulse n = true ↔ c.reference = some n ∧ (c.lock = .seeking ∨ c.lock = .locked ∨ c.lock = .free) := by
  simp [Cadence.takesPulse, or_assoc]

/-- A PULSE taken as a reference PULSE is taken as in any state that agrees but for link, port and engine. -/
theorem timed_of_reference {n : StationNo} {ts : Int} {beat : BitVec 8} {s : State} {l : Link} {p : ServicePort}
    {e : WeightEngine} (h : (s.beside l p e).cu.takesPulse n = true) :
    (s.beside l p e).timed n ts beat = (takeReferencePulse ts beat s).beside l p e :=
  (if_pos h).trans (takeReferencePulse_beside l p e ts beat s)

/-- The PULSE shows a divergence to a station whose Cadence Unit has taken it: both run in step, and its frame is another
(R96). -/
abbrev State.diverges (n : StationNo) (ts : Int) (f : PulseFields) (s : State) : Prop :=
  (s.pt.entry n).status = .live ∧ s.running = true ∧ (f.lock = .locked ∨ f.lock = .reference) ∧
    (s.cu.lock = .locked ∨ s.cu.lock = .reference) ∧ s.ownFrameFor ts ≠ none ∧ s.ownFrameFor ts ≠ some f.shown

/-- A PULSE with the own tag is handed on to the Cadence Unit first, and then to the search for divergence (R65, R66). -/
theorem handPulseOn_stored {n : StationNo} {f : PulseFields} {t0 : Nat} {s : State} (tag : f.tag = s.sc.domeTag) :
    handPulseOn n f t0 s =
      let r := s.timed n (senderFrameStart t0 f.delay) f.beat
      { r with counters := { r.counters with
        diverge := if r.diverges n (senderFrameStart t0 f.delay) f then min 65535 (r.counters.diverge + 1)
          else r.counters.diverge } } := by
  unfold handPulseOn
  rw [if_pos tag]
  show (if ((s.timed n (senderFrameStart t0 f.delay) f.beat).pt.entry n).status = .live then _ else _) = _
  dsimp only
  split
  · next live =>
    simp only [State.diverges, live, true_and]
    exact examinePulse_eq ..
  · next other => simp only [State.diverges, other, false_and, if_false]; rfl

/-- The lowest of a list stands in it. -/
theorem mem_of_lowest {l : List StationNo} {n : StationNo} (h : lowest l = some n) : n ∈ l := by
  induction l generalizing n with
  | nil => cases h
  | cons a l ih =>
    unfold lowest at h
    cases low : lowest l with
    | none => rw [low] at h; cases h; exact List.mem_cons_self
    | some b =>
      rw [low] at h
      obtain rfl := Option.some.inj h
      split
      · exact List.mem_cons_of_mem _ (ih low)
      · exact List.mem_cons_self

/-- A REFERENCE station whose eligible peers all have higher numbers stays as it is (R74). -/
theorem chooseReference_of_reference {own : StationNo} {peers : List StationNo} {period : Nat} {c : Cadence}
    (h : c.lock = .reference) (higher : ∀ n ∈ peers, own < n) : chooseReference own peers period c = c := by
  unfold chooseReference
  rw [h]
  dsimp only
  split
  · next n low => exact if_neg (not_lt_of_gt (higher n (mem_of_lowest low)))
  · rfl

section

variable (n : StationNo) (f : PulseFields) (a : AnnouncedState) (t0 : Nat) (s : State)

/-- A PULSE with the own tag has been stored, the view recomputed and the choice of reference weighed (R54, R63, R74). -/
def State.pulseWeighed : State :=
  s.weighed (s.pt.entries.set n.val ((s.pt.entry n).pulsed s.profile.tMin f a))
    (s.svp.followingLive (s.mt.neighbours.contains n) ((s.pt.entry n).status == .live)
      (statusOf s.profile.tMin a f.level == .live))

/-- The Cadence Unit has then taken it, where its sender is the reference (R77). -/
def State.pulseTimed : State := (s.pulseWeighed n f a).timed n (senderFrameStart t0 f.delay) f.beat

/-- The search for divergence has then met it, which changes a counter alone (R96). -/
def State.pulseTaken : State :=
  let r := s.pulseTimed n f a t0
  { r with counters := { r.counters with
    diverge := if r.diverges n (senderFrameStart t0 f.delay) f then min 65535 (r.counters.diverge + 1)
      else r.counters.diverge } }

/-- The delivery of a PULSE with the own tag (R52, R54, R65, R66). -/
theorem deliverPulse_stored {p : BitVec 64} (normal : s.pt.condition = .normal)
    (tag : (readPulse p).tag = s.sc.domeTag) (state : AnnouncedState.ofCode (readPulse p).state = some a) :
    deliverPulse n p t0 s = lockTest s (s.pulseTaken n (readPulse p) a t0) := by
  rw [deliverPulse, deliverMessage_normal normal (actOnPulse_stored tag state)]
  exact congrArg _ (handPulseOn_stored tag)

theorem pulseWeighed_written (full : s.pt.entries.length = 16) (peer : n ≠ s.profile.station) :
    EntryWritten n ((s.pt.entry n).pulsed s.profile.tMin f a) s (s.pulseWeighed n f a) := ⟨full, peer, rfl, rfl⟩

theorem pulseWeighed_cutoffTaken : (s.pulseWeighed n f a).cu.cutoffTaken = s.cu.cutoffTaken := by
  unfold State.pulseWeighed State.weighed
  dsimp only
  split
  · rfl
  · exact chooseReference_cutoffTaken ..

/-- A REFERENCE station that sees none but higher numbers eligible keeps its cadence (R74). -/
theorem pulseTimed_cu_of_reference (lock : s.cu.lock = .reference)
    (higher : ∀ m ∈ (s.pulseWeighed n f a).eligiblePeers, s.profile.station < m) :
    (s.pulseTimed n f a t0).cu = s.cu := by
  have weighed : (s.pulseWeighed n f a).cu = s.cu := by
    show (if _ then s.cu else _) = s.cu
    split
    · rfl
    · exact chooseReference_of_reference lock higher
  have takes : ¬(s.pulseWeighed n f a).cu.takesPulse n = true := by
    rw [takesPulse_iff, weighed, lock]
    simp
  unfold State.pulseTimed State.timed
  rw [if_neg takes, weighed]

/-- The search for divergence meets the stored entry, and the cadence and cutoff as the PULSE has left them (R96). -/
theorem pulseTimed_diverges (full : s.pt.entries.length = 16) (peer : n ≠ s.profile.station)
    (running : s.running = true) (ts : Int) :
    (s.pulseTimed n f a t0).diverges n ts f ↔
      statusOf s.profile.tMin a f.level = .live ∧ (f.lock = .locked ∨ f.lock = .reference) ∧
        ((s.pulseTimed n f a t0).cu.lock = .locked ∨ (s.pulseTimed n f a t0).cu.lock = .reference) ∧
        (s.pulseTimed n f a t0).ownFrameFor ts ≠ none ∧ (s.pulseTimed n f a t0).ownFrameFor ts ≠ some f.shown := by
  have pt : (s.pulseTimed n f a t0).pt = (s.pulseWeighed n f a).pt := timed_pt ..
  have sc : (s.pulseTimed n f a t0).sc = s.sc := timed_sc ..
  have running : (s.pulseTimed n f a t0).running = true := by rw [State.running, sc]; exact running
  have status : ((s.pulseTimed n f a t0).pt.entry n).status = statusOf s.profile.tMin a f.level := by
    rw [pt, (pulseWeighed_written n f a s full peer).entry_same]; rfl
  simp only [State.diverges, status, running, true_and]

/-- The own frame that the search for divergence compares, from the output before the PULSE (R96). -/
theorem pulseTimed_ownFrameFor (ts : Int) :
    (s.pulseTimed n f a t0).ownFrameFor ts = match (s.pulseTimed n f a t0).swu with
      | .swap target _ =>
        if (s.pulseTimed n f a t0).cu.cutoffTaken = true ∧
            (s.profile.period : Int) < 2 * (ts - ((s.pulseTimed n f a t0).cu.latestFrameStart.getD 0 : Nat)) then
          some target
        else shownFrame s.fs.slots
      | _ => shownFrame s.fs.slots := by
  have profile : (s.pulseTimed n f a t0).profile = s.profile := congrArg Station.profile (timed_sc ..)
  have shown : shownFrame (s.pulseTimed n f a t0).fs.slots = shownFrame s.fs.slots := shownFrame_timed ..
  rw [ownFrameFor_eq, profile, shown]

/-- All that a PULSE with the own tag can change before its JOINING test. -/
theorem pulseTaken_frame :
    s.pulseTaken n f a t0 = { s with
      pt := (s.pulseWeighed n f a).pt, svp := (s.pulseWeighed n f a).svp, we := (s.pulseWeighed n f a).we,
      cu := (s.pulseTimed n f a t0).cu, swu := (s.pulseTimed n f a t0).swu,
      fs := { s.fs with slots := (s.pulseTimed n f a t0).fs.slots },
      counters := (s.pulseTaken n f a t0).counters } := by
  have timed := timed_frame n (senderFrameStart t0 f.delay) f.beat (s.pulseWeighed n f a)
  exact congrArg (fun r : State => { r with counters := (s.pulseTaken n f a t0).counters }) timed

theorem pulseTaken_pending : (s.pulseTaken n f a t0).pending = s.pending := by rw [pulseTaken_frame]
theorem pulseTaken_rstnLow : (s.pulseTaken n f a t0).rstnLow = s.rstnLow := by rw [pulseTaken_frame]
theorem pulseTaken_mt : (s.pulseTaken n f a t0).mt = s.mt := by rw [pulseTaken_frame]
theorem pulseTaken_pt : (s.pulseTaken n f a t0).pt = (s.pulseWeighed n f a).pt := by rw [pulseTaken_frame]
theorem pulseTaken_we : (s.pulseTaken n f a t0).we = (s.pulseWeighed n f a).we := by rw [pulseTaken_frame]
theorem pulseTaken_svp : (s.pulseTaken n f a t0).svp = (s.pulseWeighed n f a).svp := by rw [pulseTaken_frame]
theorem pulseTaken_sc : (s.pulseTaken n f a t0).sc = s.sc := by rw [pulseTaken_frame]
theorem pulseTaken_now : (s.pulseTaken n f a t0).now = s.now := by rw [pulseTaken_frame]
theorem pulseTaken_slc : (s.pulseTaken n f a t0).slc = s.slc := by rw [pulseTaken_frame]
theorem pulseTaken_ls : (s.pulseTaken n f a t0).ls = s.ls := by rw [pulseTaken_frame]
theorem pulseTaken_wbp : (s.pulseTaken n f a t0).wbp = s.wbp := by rw [pulseTaken_frame]
theorem pulseTaken_fs :
    (s.pulseTaken n f a t0).fs = { s.fs with slots := (s.pulseTimed n f a t0).fs.slots } := by rw [pulseTaken_frame]

end

/-! ### What a JOINING test leaves of the output (R120) -/

theorem lockTest_of_same_state {b s : State} (h : (lockTest b s).sc.state = s.sc.state) :
    (lockTest b s).fs = s.fs ∧ (lockTest b s).wbp = s.wbp := by
  obtain ⟨wbp, fs⟩ := lockTest_turnsBlack b s
  simp only [h, bne_self_eq_false, Bool.false_and, Bool.false_eq_true, if_false] at wbp fs
  exact ⟨fs, wbp⟩

theorem lockTest_fs (b s : State) :
    (lockTest b s).fs = { s.fs with
      sequence := (lockTest b s).fs.sequence, prefetch := (lockTest b s).fs.prefetch,
      arb := (lockTest b s).fs.arb } := by
  obtain ⟨-, fs⟩ := lockTest_turnsBlack b s
  rw [fs]
  split <;> rfl

/-- Settles O32: the entry written (`actOnPulse_stored`), the choice of reference weighed, the PULSE handed on
(`handPulseOn_stored`), and the JOINING test (`lockTest_sc`). -/
theorem pulseStored : Obligations.PulseStored := by
  unfold Obligations.PulseStored
  intro dt t0 sender p crc a s hears hcrc other normal full f state tag level status entry ts
  have known : (AnnouncedState.ofCode (readPulse p).state).isNone = false := by rw [state]; rfl
  rw [exec_pulse_delivered hears hcrc other known]
  let u : State := s.receivedAt dt 82 t0 crc
  let w : State := u.pulseWeighed sender f a
  let r : State := u.pulseTimed sender f a t0
  let x : State := u.pulseTaken sender f a t0
  have delivered : deliverPulse sender p t0 u = lockTest u x := deliverPulse_stored sender a t0 u normal tag state
  have x_pt : x.pt = w.pt := pulseTaken_pt ..
  have x_we : x.we = w.we := pulseTaken_we ..
  have x_sc : x.sc = s.sc := pulseTaken_sc ..
  have x_now : x.now = s.now + dt := pulseTaken_now ..
  have x_ls : x.ls = s.ls := pulseTaken_ls ..
  have x_fs : x.fs = { s.fs with slots := r.fs.slots } := pulseTaken_fs ..
  have peers : (lockTest u x).eligiblePeers = w.eligiblePeers := by
    rw [State.eligiblePeers, State.peersWith, State.profile, lockTest_pt, lockTest_sc_profile, x_pt, x_sc]; rfl
  refine ⟨lockTest u x, congrArg _ delivered, ?_, ?_, ?_, ?_, ?_, ?_, ?_, ?_, ?_, ?_, ?_, ?_⟩
  · rw [lockTest_pt, x_pt]
    cases a <;> rfl
  · rw [lockTest_pt, x_pt]
    exact weighed_view _ _ u (by rw [lockTest_pt, x_pt]; rfl) (by rw [State.profile, lockTest_sc_profile, x_sc]; rfl)
      (by rw [lockTest_ls]; rw [x_ls]; rfl) (by rw [lockTest_we, x_we]; exact (weighed_engine _ _ u).2)
  · have told : ViewTold u w := weighed_told _ _ u
    unfold ViewTold at told ⊢
    rw [lockTest_we, lockTest_pt, lockTest_now, x_we, x_pt, x_now]
    exact told
  · rw [lockTest_slc]; exact pulseTaken_slc ..
  · rw [lockTest_svp, pulseTaken_svp, x_sc]
    cases a <;> rfl
  · intro weighed reference
    have weighed_eq : weighed = w.cu := by
      show (if _ then _ else _) = _
      rw [peers]; rfl
    have takes : reference ↔ w.cu.takesPulse sender = true := by rw [takesPulse_iff, ← weighed_eq]
    rw [lockTest_cu, lockTest_swu, lockTest_counters, lockTest_fs_slots]
    refine ⟨fun none_taken => ?_, fun taken => ?_⟩
    · rw [weighed_eq]
      have untimed : r = w := if_neg (mt takes.mpr none_taken)
      show r.cu = w.cu
      rw [untimed]
    · have agrees : ∃ l p e, w = ({ s with
          now := s.now + dt, pt := (lockTest u x).pt, cu := weighed } : State).beside l p e := by
        rw [lockTest_pt, x_pt, weighed_eq]
        exact ⟨u.slc, w.svp, w.we, rfl⟩
      obtain ⟨l, q, e, agrees⟩ := agrees
      have timed : r = _ := (congrArg (State.timed sender ts f.beat) agrees).trans
        (timed_of_reference (agrees ▸ takes.mp taken))
      show r.cu = _ ∧ r.swu = _ ∧ r.counters.swapMiss = _ ∧ r.fs.slots = _
      rw [timed]
      exact ⟨rfl, rfl, rfl, rfl⟩
  · rw [lockTest_cu, lockTest_swu, lockTest_counters, lockTest_fs_slots]
    intro same
    obtain ⟨swu, counters, fs⟩ : r.swu = s.swu ∧ r.counters = s.counters ∧ r.fs = s.fs :=
      timed_of_same_cutoff (same.trans (pulseWeighed_cutoffTaken sender f a u).symm)
    have swapMiss : x.counters.swapMiss = s.counters.swapMiss :=
      show r.counters.swapMiss = s.counters.swapMiss by rw [counters]
    refine ⟨swu, swapMiss, congrArg FrameStore.slots fs, fun stays => ?_⟩
    obtain ⟨same_fs, same_wbp⟩ := lockTest_of_same_state (b := u) (s := x) (by rw [stays, x_sc])
    exact ⟨same_fs.trans fs, same_wbp.trans (pulseTaken_wbp ..)⟩
  · intro lock higher
    rw [lockTest_cu]
    exact pulseTimed_cu_of_reference sender f a t0 u lock (peers ▸ higher)
  · rw [lockTest_counters, lockTest_cu, lockTest_swu]
    intro coming frame
    have own : r.ownFrameFor ts = frame := pulseTimed_ownFrameFor sender f a t0 u ts
    have running : u.running = true := hears.2.1
    have live : statusOf u.profile.tMin a f.level = status := by cases a <;> rfl
    have diverges := pulseTimed_diverges sender f a t0 u full other running ts
    rw [live, own] at diverges
    have counters : r.counters = { s.counters with swapMiss := r.counters.swapMiss } :=
      timed_counters ..
    show ({ r.counters with diverge := if r.diverges sender ts f then _ else _ } : Counters) = _
    rw [if_congr diverges rfl rfl, counters]
    rfl
  · have lockMet : (lockTest u x).lockMet = x.lockMet := by
      rw [State.lockMet, lockTest_cu, lockTest_sc_lockWaived]; rfl
    have promoted : x.we.promoted = s.we.promoted := x_we ▸ (weighed_engine _ _ u).1
    have sc := lockTest_sc u x
    rw [x_sc, promoted, x_now, State.profile, x_sc, x_ls] at sc
    rw [lockMet, lockTest_cu]
    exact sc
  · rw [lockTest_fs u x, x_fs]
  · rw [lockTest_pt, lockTest_slc, lockTest_cu, lockTest_we, lockTest_swu, lockTest_counters]
    conv_lhs => rw [lockTest_rest]
    have x_pending : x.pending = s.pending := pulseTaken_pending ..
    have x_rstnLow : x.rstnLow = s.rstnLow := pulseTaken_rstnLow ..
    have x_mt : x.mt = s.mt := pulseTaken_mt ..
    rw [x_pending, x_rstnLow, x_mt, x_now, x_ls]

end Sys2Proof.Machine

/-! SUPPORT. The transmitter (R35 to R42): the line as the monitor knows it, the offered message and when the station is
due with it, the samples of the own message, and the way of a message back to its slot. -/

namespace Sys2Proof.Machine

/-! ### The quiet count (R32) -/

theorem inCells_iff (now : Nat) (l : Link) :
    l.inCells now = true ↔ l.onLine ≠ none ∨
      ∃ t0 own, l.receiver = .receiving t0 own ∧ (own = false ∨ t0 + 4125 < now) := by
  unfold Link.inCells
  cases l.receiver with
  | receiving t0 own =>
    have this_one : (∃ t o, Receiver.receiving t0 own = .receiving t o ∧ (o = false ∨ t + 4125 < now)) ↔
        own = false ∨ t0 + 4125 < now :=
      ⟨by rintro ⟨_, _, ⟨⟩, h⟩; exact h, fun h => ⟨t0, own, rfl, h⟩⟩
    rw [this_one]
    simp [Option.isSome_iff_ne_none, Config.bitTime, Config.leadSample, Nat.add_assoc]
  | stopped => simp [Option.isSome_iff_ne_none]
  | waiting => simp [Option.isSome_iff_ne_none]
  | spent => simp [Option.isSome_iff_ne_none]

theorem quietCount_eq_zero {s : State} (h : s.slc.dominant = true ∨ s.slc.inCells s.now = true) : s.quietCount = 0 :=
  if_pos (by simpa using h)

theorem quietCount_of_recessive {s : State} (level : s.slc.dominant = false) (cells : s.slc.inCells s.now ≠ true) :
    s.quietCount = min 40 ((s.now - s.slc.since) / 1000) :=
  if_neg (by simp [level, cells])

/-! ### The offered message (R36, R37) -/

/-- The station can be due at all: a running state, the link NORMAL, the transmitter not sending (R37). -/
abbrev State.canStart (s : State) : Prop :=
  s.running = true ∧ s.slc.condition = .normal ∧ s.slc.onLine = none

theorem dueWith_iff (o : Offer) (s : State) :
    s.dueWith o = true ↔ s.canStart ∧ requiredQuiet s.slc.lastWon o ≤ s.quietCount := by
  simp [State.dueWith, and_assoc]

theorem dueOffer_eq_some {o : Offer} {s : State} (offered : s.slc.queue.offer = some o) (able : s.canStart)
    (quiet : requiredQuiet s.slc.lastWon o ≤ s.quietCount) : s.dueOffer = some o := by
  simp [State.dueOffer, offered, Option.filter, (dueWith_iff o s).mpr ⟨able, quiet⟩]

theorem dueOffer_eq_none {s : State}
    (h : ∀ o, s.slc.queue.offer = some o → ¬s.canStart ∨ s.quietCount < requiredQuiet s.slc.lastWon o) :
    s.dueOffer = none := by
  refine Option.filter_eq_none_iff.mpr fun o offered due => ?_
  obtain ⟨able, quiet⟩ := (dueWith_iff o s).mp due
  obtain unable | unquiet := h o offered
  · exact unable able
  · omega

/-- A due station begins the start mark of its offered message (R37). -/
theorem exec_startMarkBegin_due {dt joined : Nat} {o : Offer} {s : State} (live : s.rstnLow = false)
    (window : joined ≤ 100) (past : joined ≤ s.now + dt) (due : (s.advance dt).dueOffer = some o) :
    exec (.startMarkBegin dt joined) s = .next (beginOffer o (s.now + dt - joined) (s.advance dt)) := by
  have marks : (s.advance dt).startMarkDue joined = true := by
    simp [State.startMarkDue, due, window, past, Config.joinWindow]
  show execStartMarkBegin dt joined s = _
  rw [execStartMarkBegin, eventWhen_due dt s _ _ live marks, takeStartMark, due]
  rfl

/-- A station that is not due starts nothing (R37). -/
theorem exec_startMarkBegin_not_due {dt joined : Nat} {s : State} (due : (s.advance dt).dueOffer = none) :
    exec (.startMarkBegin dt joined) s = .next (s.advance dt) :=
  eventWhen_not_due dt s _ _ (by simp [State.startMarkDue, due])

theorem offer_empty : TransmitQueue.empty.offer = none := rfl

theorem offer_leave {m : Queued LeaveRequest} {q : TransmitQueue} (h : q.leave = some m) : q.offer = some (.leave m) := by
  simp [TransmitQueue.offer, h]

theorem offer_ready {m : Queued FrameNo} {q : TransmitQueue} (hl : q.leave = none) (hr : q.ready = some m) :
    q.offer = some (.ready m) := by
  simp [TransmitQueue.offer, hl, hr]

theorem offer_pulse {m : Queued PulseRequest} {q : TransmitQueue} (hl : q.leave = none) (hr : q.ready = none)
    (hp : q.pulse = some m) : q.offer = some (.pulse m) := by
  simp [TransmitQueue.offer, hl, hr, hp]

theorem pulseOverdue_iff (now : Nat) (m : PulseRequest) :
    pulseOverdue now m = true ↔ (m.frameStart + 4096) * 1000 ≤ now := decide_eq_true_iff

/-- Settles O24: the quiet count by its cases, a due station by the kind it offers (`exec_startMarkBegin_due`), and one
that is not due (`exec_startMarkBegin_not_due`). -/
theorem startMarkBegins : Obligations.StartMarkBegins := by
  unfold Obligations.StartMarkBegins
  intro dt joined s live window past n q able quietFor inCells started
  have cells : s.slc.inCells (s.now + dt) = true ↔ inCells := inCells_iff (s.now + dt) s.slc
  refine ⟨fun h => ?_, fun level outside => ?_, fun can => ⟨fun m hl quiet => ?_, fun m hl hr quiet => ?_,
    fun m hl hr hp quiet => ?_⟩, fun h => ?_⟩
  · exact quietCount_eq_zero (h.imp_right cells.mpr)
  · exact quietCount_of_recessive level (outside ∘ cells.mp)
  · exact exec_startMarkBegin_due live window past (dueOffer_eq_some (offer_leave hl) can quiet)
  · exact exec_startMarkBegin_due live window past (dueOffer_eq_some (offer_ready hl hr) can quiet)
  · rw [exec_startMarkBegin_due live window past (dueOffer_eq_some (offer_pulse hl hr hp) can quiet)]
    by_cases late : (m.msg.frameStart + 4096) * 1000 ≤ s.now + dt
    · rw [if_pos late]
      exact congrArg _ (if_pos ((pulseOverdue_iff _ _).mpr late))
    · rw [if_neg late]
      exact congrArg _ (if_neg (late ∘ (pulseOverdue_iff _ _).mp))
  · refine exec_startMarkBegin_not_due (dueOffer_eq_none fun o offered => ?_)
    have offered : q.offer = some o := offered
    obtain unable | empty | ⟨m, hl, quiet⟩ | ⟨m, hl, hr, quiet⟩ | ⟨m, hl, hr, hp, quiet⟩ := h
    · exact .inl unable
    · rw [empty, offer_empty] at offered
      cases offered
    · obtain rfl : Offer.leave m = o := Option.some.inj ((offer_leave hl).symm.trans offered)
      exact .inr quiet
    · obtain rfl : Offer.ready m = o := Option.some.inj ((offer_ready hl hr).symm.trans offered)
      exact .inr quiet
    · obtain rfl : Offer.pulse m = o := Option.some.inj ((offer_pulse hl hr hp).symm.trans offered)
      exact .inr quiet

end Sys2Proof.Machine

/-! SUPPORT. The own message on the line and its way back to the queue (R31, R33, R38, R39, R42). -/

namespace Sys2Proof.Machine

/-! ### The samples of a message (R31, R33) -/

theorem cellAt_offset (t0 : Nat) {cell offset : Nat} (hc : 1 ≤ cell) (ho : offset < 1000) :
    cellAt t0 (t0 + (cell - 1) * 1000 + offset) = cell := by
  unfold cellAt Config.bitTime
  omega

theorem offsetAt_offset (t0 cell : Nat) {offset : Nat} (ho : offset < 1000) :
    offsetAt t0 (t0 + (cell - 1) * 1000 + offset) = offset := by
  unfold offsetAt Config.bitTime
  omega

/-! ### Back to the queue (R38, R39, R42) -/

/-- A newer request stands in the slot of the message's kind. -/
def TransmitQueue.filledFor (q : TransmitQueue) : Body → Bool
  | .leave _ => q.leave.isSome
  | .ready _ => q.ready.isSome
  | .pulse _ _ => q.pulse.isSome

theorem returnToQueue_filled {m : OnLine} {n : Nat} {b : Bool} (s : State)
    (h : s.slc.queue.filledFor m.body = true) : returnToQueue m n b s = s := by
  unfold returnToQueue
  cases hb : m.body <;> rw [hb] at h <;> exact if_pos h

theorem returnToQueue_leave {m : OnLine} {r : LeaveRequest} {n : Nat} {b : Bool} (s : State) (hb : m.body = .leave r)
    (empty : s.slc.queue.leave = none) :
    returnToQueue m n b s =
      modQueue (fun q => { q with leave := some { msg := r, retries := n, retried := b } }) s := by
  simp [returnToQueue, hb, empty]

theorem returnToQueue_ready {m : OnLine} {f : FrameNo} {n : Nat} {b : Bool} (s : State) (hb : m.body = .ready f)
    (empty : s.slc.queue.ready = none) :
    returnToQueue m n b s =
      modQueue (fun q => { q with ready := some { msg := f, retries := n, retried := b } }) s := by
  simp [returnToQueue, hb, empty]

theorem returnToQueue_pulse {m : OnLine} {r : PulseRequest} {d : BitVec 12} {n : Nat} {b : Bool} (s : State)
    (hb : m.body = .pulse r d) (empty : s.slc.queue.pulse = none) :
    returnToQueue m n b s =
      if (r.frameStart + 4096) * 1000 ≤ s.now then countExpired s
      else modQueue (fun q => { q with pulse := some { msg := r, retries := n, retried := b } }) s := by
  simp [returnToQueue, hb, empty, pulseOverdue_iff]

/-! ### A lost arbitration (R38) -/

/-- The state in which a message that has lost arbitration returns to the queue. -/
def State.arbitrationLostAt (dt : Nat) (m : OnLine) (s : State) : State :=
  (countLostArb (s.advance dt)).modSlc (receiveOn m.t0 false)

/-- A 1 of the arbitration field on a dominant line loses the arbitration (R38). -/
theorem exec_arbitrationLost_due {dt cell : Nat} {m : OnLine} {s : State} (live : s.rstnLow = false)
    (onLine : s.slc.onLine = some m) (arbitrating : m.sending = false) (first : 5 ≤ cell) (last : cell ≤ 10)
    (sample : s.now + dt = m.t0 + (cell - 1) * 1000 + 500)
    (one : sentBit s.profile.station m.body cell = true) :
    exec (.arbitrationLost dt) s = .next (returnToQueue m m.retries false (s.arbitrationLostAt dt m)) := by
  have profile : (s.advance dt).profile = s.profile := rfl
  have due : (s.advance dt).arbitrationLossDue = true := by
    simp [State.arbitrationLossDue, onLine, losesArbitration, sample, cellAt_offset m.t0 (by omega : 1 ≤ cell),
      offsetAt_offset, arbitrating, first, last, one, profile, Config.valueSample]
  show execArbitrationLost dt s = _
  rw [execArbitrationLost, eventWhen_due dt s _ _ live due, takeArbitrationLoss, State.advance_slc, onLine]
  rfl

/-- Settles O25: the message's return (`returnToQueue_frame`), and its slot by the kind of the message. -/
theorem arbitrationLost : Obligations.ArbitrationLost := by
  unfold Obligations.ArbitrationLost
  intro dt cell m s live onLine arbitrating first last sample one
  refine ⟨_, exec_arbitrationLost_due live onLine arbitrating first last sample one, ?_, ?_, ?_, ?_, ?_, ?_⟩
  · rw [returnToQueue_frame]; rfl
  · rw [returnToQueue_frame]; rfl
  · intro r hb
    cases slot : s.slc.queue.leave with
    | some x =>
      have filled : s.slc.queue.filledFor m.body = true := by rw [hb]; exact Option.isSome_of_eq_some slot
      rw [returnToQueue_filled (s.arbitrationLostAt dt m) filled]
      exact ⟨rfl, TransmitQueue.ext slot rfl rfl⟩
    | none =>
      rw [returnToQueue_leave (s.arbitrationLostAt dt m) hb slot]
      exact ⟨rfl, rfl⟩
  · intro f hb
    cases slot : s.slc.queue.ready with
    | some x =>
      have filled : s.slc.queue.filledFor m.body = true := by rw [hb]; exact Option.isSome_of_eq_some slot
      rw [returnToQueue_filled (s.arbitrationLostAt dt m) filled]
      exact ⟨rfl, TransmitQueue.ext rfl slot rfl⟩
    | none =>
      rw [returnToQueue_ready (s.arbitrationLostAt dt m) hb slot]
      exact ⟨rfl, rfl⟩
  · intro r d hb
    refine ⟨fun x slot => ?_, fun slot => ?_⟩
    · have filled : s.slc.queue.filledFor m.body = true := by rw [hb]; exact Option.isSome_of_eq_some slot
      rw [returnToQueue_filled (s.arbitrationLostAt dt m) filled]
      exact ⟨rfl, rfl⟩
    · rw [returnToQueue_pulse (s.arbitrationLostAt dt m) hb slot]
      show if (r.frameStart + 4096) * 1000 ≤ s.now + dt then _ else _
      by_cases late : (r.frameStart + 4096) * 1000 ≤ s.now + dt
      · rw [if_pos late, if_pos (by exact late)]
        exact ⟨rfl, rfl⟩
      · rw [if_neg late, if_neg (by exact late)]
        exact ⟨rfl, rfl⟩
  · rw [returnToQueue_frame]; rfl

/-! ### A bit fault (R39, R40) -/

theorem samplePointAt_eq (offset : Nat) :
    samplePointAt offset = if offset = 125 then some .lead else if offset = 500 then some .value
      else if offset = 875 then some .tail else none := rfl

/-- The samples of R39's list. -/
theorem isBitFault_iff (own : StationNo) (m : OnLine) {cell offset : Nat} (level : Bool) (hc : 1 ≤ cell)
    (ho : offset < 1000) :
    isBitFault own m (m.t0 + (cell - 1) * 1000 + offset) level = true ↔
      cell ≤ m.body.length ∧
        ((offset = 125 ∧ level = false ∧ cell ≠ 4) ∨
         (offset = 875 ∧ level = true ∧ 4 ≤ cell) ∨
         (offset = 500 ∧ cell ≤ 3 ∧ level = false) ∨
         (offset = 500 ∧ cell = 4 ∧ level = true) ∨
         (offset = 500 ∧ 5 ≤ cell ∧ cell ≤ 10 ∧ sentBit own m.body cell = false ∧ level = false) ∨
         (offset = 500 ∧ 11 ≤ cell ∧ level = sentBit own m.body cell)) := by
  unfold isBitFault
  rw [cellAt_offset m.t0 hc ho, offsetAt_offset m.t0 cell ho, samplePointAt_eq]
  simp only [Bool.and_eq_true, decide_eq_true_iff]
  refine and_congr_right fun _ => ?_
  by_cases lead : offset = 125
  · simp [lead]
  by_cases value : offset = 500
  · subst value
    by_cases mark : cell ≤ 3
    · have : cell ≠ 4 ∧ ¬5 ≤ cell ∧ ¬11 ≤ cell := by omega
      simp [mark, this]
    by_cases last : cell = 4
    · simp [last]
    have later : 5 ≤ cell := by omega
    by_cases field : cell ≤ 10
    · have : ¬11 ≤ cell := by omega
      simp [mark, last, later, field, this]
    · have : 11 ≤ cell := by omega
      simp [mark, last, field, this]
  by_cases tail : offset = 875
  · simp [tail]
  · simp [lead, value, tail]

/-- The state in which a message that has met a bit fault is retried or dropped. -/
def State.bitFaultAt (dt : Nat) (line : LineLevel) (m : OnLine) (s : State) : State :=
  (countBitFault (s.advance dt)).modSlc fun l =>
    setLine line.dominant (s.now + dt - line.run) (receiveOn m.t0 true l)

theorem exec_bitFault_due {dt : Nat} {line : LineLevel} {m : OnLine} {s : State} (live : s.rstnLow = false)
    (onLine : s.slc.onLine = some m) (fault : isBitFault s.profile.station m (s.now + dt) line.dominant = true) :
    exec (.bitFault dt line) s = .next (retryOrDrop m (m.retries + 1) (s.bitFaultAt dt line m)) := by
  have due : (s.advance dt).bitFaultDue line.dominant = true := by
    rw [State.bitFaultDue, State.advance_slc, onLine]
    exact fault
  show execBitFault dt line s = _
  rw [execBitFault, eventWhen_due dt s _ _ live due, takeBitFault, State.advance_slc, onLine]
  rfl

theorem retryOrDrop_retry {m : OnLine} {n : Nat} {s : State} (h : n ≤ s.profile.retryLimit) :
    retryOrDrop m n s = returnToQueue m n true s := if_pos h

/-- Past the retry limit a message is dropped, and a STOP's LEAVE ends STOPPING (R40). -/
theorem retryOrDrop_drop {m : OnLine} {n : Nat} {s : State} (h : s.profile.retryLimit < n) :
    retryOrDrop m n s =
      if m.body.isStopLeave = true ∧ s.sc.state = .stopping then enterConfig (countTxDrop s) else countTxDrop s := by
  have state : (countTxDrop s).sc.state = s.sc.state := rfl
  unfold retryOrDrop stopComplete
  dsimp only
  rw [if_neg (by omega), state]
  cases m.body.isStopLeave <;> simp

theorem enterConfig_counters (s : State) : (enterConfig s).counters = (runPass s).counters := by
  simp [enterConfig]

/-- Settles O26: the list of R39 (`isBitFault_iff`); up to the limit the return to the queue by the kind of the message
(`returnToQueue_leave`, `returnToQueue_ready`, `returnToQueue_pulse`), beyond it the drop (`retryOrDrop_drop`). -/
theorem bitFaultTaken : Obligations.BitFaultTaken := by
  unfold Obligations.BitFaultTaken
  refine ⟨fun own m cell offset level hc ho => isBitFault_iff own m level hc ho, ?_⟩
  intro dt line m s live onLine fault faulted dropped
  have exec_eq := exec_bitFault_due live onLine fault
  refine ⟨fun within => ?_, fun beyond => ?_⟩
  · have retry : retryOrDrop m (m.retries + 1) (s.bitFaultAt dt line m) =
        returnToQueue m (m.retries + 1) true (s.bitFaultAt dt line m) := retryOrDrop_retry within
    rw [exec_eq, retry]
    refine ⟨fun r hb slot => ?_, fun f hb slot => ?_, fun r d hb slot soon => ?_, fun r d hb slot late => ?_,
      fun newer => ?_⟩
    · rw [returnToQueue_leave (s.bitFaultAt dt line m) hb slot]; rfl
    · rw [returnToQueue_ready (s.bitFaultAt dt line m) hb slot]; rfl
    · rw [returnToQueue_pulse (s.bitFaultAt dt line m) hb slot, if_neg (by exact Nat.not_le.mpr soon)]; rfl
    · rw [returnToQueue_pulse (s.bitFaultAt dt line m) hb slot, if_pos (by exact late)]; rfl
    · have filled : s.slc.queue.filledFor m.body = true := by
        obtain ⟨r, x, hb, slot⟩ | ⟨f, x, hb, slot⟩ | ⟨r, d, x, hb, slot⟩ := newer <;>
          (rw [hb]; exact Option.isSome_of_eq_some slot)
      rw [returnToQueue_filled (s.bitFaultAt dt line m) filled]; rfl
  · have drop : retryOrDrop m (m.retries + 1) (s.bitFaultAt dt line m) =
        if m.body.isStopLeave = true ∧ s.sc.state = .stopping then enterConfig dropped else dropped :=
      retryOrDrop_drop beyond
    rw [exec_eq, drop]
    refine ⟨fun other => ?_, fun stop stopping => ?_⟩
    · rw [if_neg fun h => other.elim (by simp [h.1]) (absurd h.2)]
    · rw [if_pos ⟨stop, stopping⟩]
      exact ⟨_, rfl, enterConfig_enters dropped, enterConfig_counters dropped⟩

end Sys2Proof.Machine

/-! SUPPORT. The receiver and the line monitor (R32, R33, R42 to R46): the link's timers, a start mark at its deciding
sample, a message that ends short, a stray run, and a message that fails its checks. -/

namespace Sys2Proof.Machine

/-! ### The link's timers (R42, R43) -/

theorem allowsRun_iff (l : Link) (t : Nat) :
    l.allowsRun t = true ↔
      l.busy = false ∧ (l.dominant = true ∧ l.since = t ∨ l.dominant = false ∧ l.since ≤ t) := by
  unfold Link.allowsRun
  cases l.dominant <;> simp

theorem stuckTime_ns : Config.stuckTime * Config.bitTime = 8000 := rfl

theorem stuckDue_iff (s : State) :
    s.stuckDue = true ↔ 8000 ≤ s.now ∧ s.slc.allowsRun (s.now - 8000) = true := by
  rw [State.stuckDue, stuckTime_ns, Bool.and_eq_true, decide_eq_true_iff]

theorem takeStuck_eq (s : State) :
    takeStuck s = { s with
      slc := { s.slc with condition := .stuck, dominant := true, since := s.now - 8000 },
      svp := if s.slc.condition = .normal then { s.svp with causes := { s.svp.causes with fault := true } }
        else s.svp } := by
  unfold takeStuck
  rw [stuckTime_ns]
  by_cases normal : s.slc.condition = .normal
  · simp [normal, raiseFault, setLine, State.modSlc, State.modSvp]
  · simp [normal, setLine, State.modSlc]

/-- Settles O28: each event where it is due. -/
theorem linkTimers : Obligations.LinkTimers := by
  unfold Obligations.LinkTimers
  intro dt s live n
  refine ⟨fun m slot late => ?_, fun idle passed run => ?_, fun stuck quiet => ?_⟩
  · have due : (s.advance dt).expiryDue = true := by
      rw [State.expiryDue, State.advance_slc, slot, Option.any_some, pulseOverdue_iff]
      exact late
    show execPulseExpired dt s = _
    rw [execPulseExpired, eventWhen_due dt s _ _ live due]
    rfl
  · have due : (s.advance dt).stuckDue = true := by
      exact (stuckDue_iff _).mpr ⟨passed, (allowsRun_iff _ _).mpr ⟨idle, run⟩⟩
    show execStuck dt s = _
    rw [execStuck, eventWhen_due dt s _ _ live due, takeStuck_eq]
    rfl
  · have due : (s.advance dt).linkNormalDue = true := by
      simp only [State.linkNormalDue, Bool.and_eq_true, beq_iff_eq]
      exact ⟨stuck, quiet⟩
    exact eventWhen_due dt s _ _ live due

/-! ### A start mark (R33, R44) -/

theorem markDecidedAfter_eq (c2 c3 : Bool) :
    markDecidedAfter c2 c3 = if c2 = false then 1500 else if c3 = false then 2500 else 3500 := by
  cases c2 <;> cases c3 <;> rfl

theorem takesMark_iff (after : Nat) (s : State) :
    s.takesMark after = true ↔ s.running = true ∧ s.slc.condition = .normal ∧ s.slc.receiver = .waiting ∧
      s.slc.listenFrom + after ≤ s.now + 1000 := by
  simp only [State.takesMark, Bool.and_eq_true, beq_iff_eq, decide_eq_true_iff, and_assoc]
  rfl

theorem markPasses_iff (c2 c3 c4 : Bool) : markPasses c2 c3 c4 = true ↔ c2 = true ∧ c3 = true ∧ c4 = false := by
  simp [markPasses, and_assoc]

theorem startMarkSeen_iff (c2 c3 c4 : Bool) (run : Nat) (s : State) :
    s.startMarkSeen c2 c3 c4 run = true ↔
      markDecidedAfter c2 c3 ≤ s.now ∧ s.slc.allowsRun (s.now - markDecidedAfter c2 c3) = true ∧
        run ≤ markDecidedAfter c2 c3 ∧ (markLevel c2 c3 c4 = true ∨ run + 1000 ≤ markDecidedAfter c2 c3) := by
  simp only [State.startMarkSeen, Bool.and_eq_true, Bool.or_eq_true, decide_eq_true_iff, and_assoc]
  rfl

theorem released_eq (r : Receiver) : r.released = if r = .spent then .waiting else r := by
  cases r <;> rfl

/-- A mark that the receiver takes no notice of moves the line monitor, and a recessive sample releases a receiver that
waits for one (R33). -/
theorem takeStartMarkSeen_of_not_takes {c2 c3 c4 : Bool} {run : Nat} {s : State}
    (h : ¬s.takesMark (markDecidedAfter c2 c3) = true) :
    takeStartMarkSeen c2 c3 c4 run s = { s with slc := { s.slc with
      dominant := markLevel c2 c3 c4, since := s.now - run,
      receiver := if markLevel c2 c3 c4 = false ∧ s.slc.receiver = .spent then .waiting else s.slc.receiver } } := by
  unfold takeStartMarkSeen
  dsimp only
  rw [if_neg h]
  cases level : markLevel c2 c3 c4
  · simp [State.modSlc, setLine, released_eq]
  · simp [State.modSlc, setLine]

/-- Settles O29: the mark is seen (`startMarkSeen_iff`); a receiver that takes it opens the message or counts it, and one
that does not is `takeStartMarkSeen_of_not_takes`. -/
theorem startMarkRecognised : Obligations.StartMarkRecognised := by
  unfold Obligations.StartMarkRecognised
  intro dt after run c2 c3 c4 s live idle decided past within began level stands takes line n
  rw [← markDecidedAfter_eq] at decided
  subst decided
  have seen : (s.advance dt).startMarkSeen c2 c3 c4 run = true :=
    (startMarkSeen_iff ..).mpr ⟨past, (allowsRun_iff ..).mpr ⟨idle, began⟩, within, stands⟩
  have exec_eq : exec (.startMarkRecognised dt c2 c3 c4 run) s =
      .next (takeStartMarkSeen c2 c3 c4 run (s.advance dt)) := eventWhen_due dt s _ _ live seen
  have takes_iff : (s.advance dt).takesMark (markDecidedAfter c2 c3) = true ↔ takes := takesMark_iff ..
  rw [exec_eq]
  refine ⟨fun taken h2 h3 h4 => ?_, fun taken malformed => ?_, fun untaken => ?_⟩
  · have good := (markPasses_iff c2 c3 c4).mpr ⟨h2, h3, h4⟩
    unfold takeStartMarkSeen takeMark
    dsimp only
    rw [if_pos (takes_iff.mpr taken), if_pos good]
    rfl
  · have bad := malformed ∘ (markPasses_iff c2 c3 c4).mp
    unfold takeStartMarkSeen takeMark
    dsimp only
    rw [if_pos (takes_iff.mpr taken), if_neg bad]
    rfl
  · rw [takeStartMarkSeen_of_not_takes (untaken ∘ takes_iff.mp)]
    rfl

/-! ### A message that ends short (R39, R44) -/

theorem runIsSpentMark_iff (c : ShortCause) (run : Nat) :
    runIsSpentMark c run = true ↔ c = .tailDominant ∧ 3500 ≤ run := by
  cases c <;> simp [runIsSpentMark, shortLevel, markDecidedAfter_eq]

theorem shortLevel_eq (c : ShortCause) : shortLevel c = decide (c = .tailDominant) := by
  cases c <;> rfl

/-- A run that has passed its samples leaves the receiver waiting for a recessive line; one that began after `t0` is
counted as a malformed mark (R33, R36). -/
theorem takeSpentMark_eq {t0 run : Nat} {s : State} (long : 3500 ≤ run) :
    takeSpentMark t0 run s = { s with
      slc := { s.slc with
        receiver := .spent, lastWon := if t0 + run < s.now then false else s.slc.lastWon },
      counters := { s.counters with
        checkFail := if t0 + run < s.now then count s.counters.checkFail else s.counters.checkFail } } := by
  have after : markDecidedAfter true true ≤ run := long
  unfold takeSpentMark
  by_cases own : s.now ≤ t0 + run
  · simp [own, Nat.not_lt_of_le own, State.modSlc]
  · simp [own, Nat.lt_of_not_le own, takeMark, markPasses, markLevel, after, countCheckFail, State.modSlc,
      State.modCounters]

/-- What a message that ends short leaves, with the run that ended it judged as a start mark where its samples have
passed (R33, R44). -/
theorem takeShort_eq {c : ShortCause} {run t0 : Nat} {own : Bool} {s : State}
    (receiving : s.slc.receiver = .receiving t0 own) :
    let spent : Prop := c = .tailDominant ∧ 3500 ≤ run
    let foreign : Prop := spent ∧ t0 + run < s.now
    let once := if own = true then s.counters.checkFail else count s.counters.checkFail
    takeShort c run s = { s with
      slc := { s.slc with
        receiver := if spent then .spent else .waiting, dominant := decide (c = .tailDominant),
        since := s.now - run, lastWon := if foreign then false else s.slc.lastWon },
      counters := { s.counters with checkFail := if foreign then count once else once } } := by
  intro spent foreign once
  unfold takeShort
  rw [receiving]
  dsimp only
  by_cases passed : spent
  · have foreign_iff : foreign ↔ t0 + run < s.now := and_iff_right passed
    rw [if_pos ((runIsSpentMark_iff c run).mpr passed), takeSpentMark_eq passed.2, shortLevel_eq]
    simp only [foreign_iff, if_pos passed]
    cases own <;> rfl
  · have domestic : ¬foreign := fun h => passed h.1
    rw [if_neg (passed ∘ (runIsSpentMark_iff c run).mp), shortLevel_eq]
    simp only [if_neg passed, if_neg domestic]
    cases own <;> rfl

end Sys2Proof.Machine

/-! SUPPORT. The end of a message, a stray run and the link over RESET (R32, R33, R39, R44 to R46). -/

namespace Sys2Proof.Machine

/-! ### A message that ends short, at its instant (R44) -/

/-- The instants at which a message that began at `t0` can end short (R31, R44). -/
theorem shortFoundAt_iff (c : ShortCause) (t0 now : Nat) :
    shortFoundAt c t0 now = true ↔
      match c with
      | .leadRecessive => ∃ cell, 4 ≤ cell ∧ now = t0 + cell * 1000 + 125
      | .tailDominant => ∃ cell, 4 ≤ cell ∧ now = t0 + cell * 1000 + 875
      | .kindThree => now = t0 + 6000 := by
  have sampled : ∀ offset < 1000, t0 + 4000 ≤ now ∧ (now - t0) % 1000 = offset ↔
      ∃ cell, 4 ≤ cell ∧ now = t0 + cell * 1000 + offset := fun offset ho =>
    ⟨fun h => ⟨(now - t0) / 1000, by omega, by omega⟩, by rintro ⟨cell, first, rfl⟩; omega⟩
  cases c with
  | leadRecessive =>
    simp only [shortFoundAt, Bool.and_eq_true, decide_eq_true_iff, beq_iff_eq]
    exact sampled 125 (by decide)
  | tailDominant =>
    simp only [shortFoundAt, Bool.and_eq_true, decide_eq_true_iff, beq_iff_eq]
    exact sampled 875 (by decide)
  | kindThree => exact beq_iff_eq

theorem shortDue_of_receiving {c : ShortCause} {run t0 : Nat} {own : Bool} {s : State} (running : s.running = true)
    (receiving : s.slc.receiver = .receiving t0 own) (within : run ≤ s.now) (found : shortFoundAt c t0 s.now = true) :
    s.shortDue c run = true := by
  simp [State.shortDue, receiving, running, within, found]

/-! ### A stray run (R32, R33) -/

theorem strayDue_iff (width : Nat) (s : State) :
    s.strayDue width = true ↔
      s.slc.inCells s.now = false ∧
      (s.slc.dominant = true ∧ s.slc.since + width = s.now ∨ s.slc.dominant = false ∧ s.slc.since + width ≤ s.now) ∧
      (width < 1000 ∨ ¬s.takesMark width = true) := by
  unfold State.strayDue Config.bitTime
  cases s.slc.dominant <;> simp [and_assoc]

theorem passesGlitch_iff (p : Profile) (width : Nat) : passesGlitch p width = true ↔ p.glitchWidth * 50 ≤ width :=
  decide_eq_true_iff

theorem takeStray_eq (width : Nat) (s : State) :
    takeStray width s =
      if s.slc.dominant = true ∨ s.slc.busy = true ∨ s.profile.glitchWidth * 50 ≤ width then
        { s with slc := { s.slc with
          dominant := false, since := s.now,
          receiver := if s.slc.receiver = .spent then .waiting else s.slc.receiver } }
      else s := by
  unfold takeStray
  simp only [Bool.or_eq_true, or_assoc, passesGlitch_iff, ← released_eq]
  rfl

/-! ### RESET (R16, R32, R46) -/

/-- RESET ends a message on the line, and the line monitor goes on from what SEAM shows (R32, R46). -/
theorem softReset_slc (line : LineLevel) (s : State) :
    (softReset line s).slc =
      linkToConfig (if s.slc.busy = true then setLine line.dominant (s.now - line.run) s.slc else s.slc) := by
  obtain ⟨-, -, slc, -⟩ := enterConfig_enters (s.modSlc fun l =>
    if l.busy then setLine line.dominant (s.now - line.run) l else l)
  exact slc

/-- Settles O30: the message that ends short (`takeShort_eq`), the run that opens a mark and the one that does not
(`strayDue_iff`, `takeStray_eq`), and the link over RESET (`softReset_slc`). -/
theorem messageEndedShort : Obligations.MessageEndedShort := by
  unfold Obligations.MessageEndedShort
  intro dt run width t0 cause own s live n
  have takes_iff : (s.advance dt).takesMark width = true ↔ s.running = true ∧ s.slc.condition = .normal ∧
      s.slc.receiver = .waiting ∧ s.slc.listenFrom + width ≤ s.now + dt + 1000 := takesMark_iff ..
  refine ⟨fun running receiving within found => ?_, fun opens => ?_, fun line action => ?_, fun cells closed level => ?_⟩
  · have due : (s.advance dt).shortDue cause run = true :=
      shortDue_of_receiving running receiving within ((shortFoundAt_iff cause t0 _).mpr found)
    show execMessageEndedShort dt cause run s = _
    rw [execMessageEndedShort, eventWhen_due dt s _ _ live due, takeShort_eq (s := s.advance dt) receiving]
    rfl
  · obtain ⟨long, taken⟩ := opens
    have idle : (s.advance dt).strayDue width = false := by
      refine Bool.eq_false_iff.mpr fun due => ?_
      obtain ⟨-, -, short | untaken⟩ := (strayDue_iff ..).mp due
      · omega
      · exact untaken (takes_iff.mpr taken)
    exact eventWhen_not_due dt s _ _ idle
  · have exec_eq : exec (.reset ⟨dt, line⟩) s =
        .next (setResult .ok 0 (softReset line (endTransaction (s.advance dt)))) :=
      actionCommand_open dt s (fun u => setResult .ok 0 (softReset line u)) action
    have slc : (setResult .ok 0 (softReset line (endTransaction (s.advance dt)))).slc =
        linkToConfig (if s.slc.busy = true then setLine line.dominant (s.now + dt - line.run) s.slc else s.slc) :=
      softReset_slc line (endTransaction (s.advance dt))
    refine ⟨_, exec_eq, ?_⟩
    rw [slc]
    cases s.slc.busy <;> exact ⟨rfl, rfl⟩
  · have due : (s.advance dt).strayDue width = true := by
      refine (strayDue_iff ..).mpr ⟨cells, level, ?_⟩
      by_cases short : width < 1000
      · exact .inl short
      · exact .inr fun taken => closed ⟨by omega, takes_iff.mp taken⟩
    show execStrayPulse dt width s = _
    rw [execStrayPulse, eventWhen_due dt s _ _ live due, takeStray_eq]
    rfl

/-! ### A message that fails its checks (R45) -/

/-- A PULSE at its end, by the verdict on it (R45). -/
theorem exec_pulse_ended {dt t0 : Nat} {sender : StationNo} {p : BitVec 64} {crc : Byte} {s : State}
    (hears : s.hearsAt dt 82 t0) :
    exec (.pulse dt sender p crc) s =
      .next (takeMessage 82 crc
        (verdictOf s.profile.station sender (coveredBits 2 sender (bitsOf p)) crc
          (AnnouncedState.ofCode (readPulse p).state).isNone)
        (deliverPulse sender p (s.advance dt).receptionStart) (s.advance dt)) :=
  eventWhen_due dt s _ _ hears.1 (messageEndDue_of_hearsAt hears)

/-- A READY at its end, by the verdict on it (R45). -/
theorem exec_ready_ended {dt t0 : Nat} {sender : StationNo} {p : BitVec 16} {crc : Byte} {s : State}
    (hears : s.hearsAt dt 34 t0) :
    exec (.ready dt sender p crc) s =
      .next (takeMessage 34 crc (verdictOf s.profile.station sender (coveredBits 1 sender (bitsOf p)) crc false)
        (deliverMessage (actOnReady sender p) id) (s.advance dt)) :=
  eventWhen_due dt s _ _ hears.1 (messageEndDue_of_hearsAt hears)

/-- A LEAVE at its end, by the verdict on it (R45). -/
theorem exec_leave_ended {dt t0 : Nat} {sender : StationNo} {p : BitVec 8} {crc : Byte} {s : State}
    (hears : s.hearsAt dt 26 t0) :
    exec (.leave dt sender p crc) s =
      .next (takeMessage 26 crc (verdictOf s.profile.station sender (coveredBits 0 sender (bitsOf p)) crc false)
        (deliverMessage (actOnLeave sender (p.extractLsb' 4 4)) id) (s.advance dt)) :=
  eventWhen_due dt s _ _ hears.1 (messageEndDue_of_hearsAt hears)

theorem verdictOf_eq_checkFail {own sender : StationNo} {covered : List Bool} {crc : Byte} {badState : Bool}
    (h : crc8 covered ≠ crc ∨ badState = true) : verdictOf own sender covered crc badState = .checkFail := by
  unfold verdictOf
  by_cases hc : crc8 covered = crc
  · simp [hc, h.resolve_left (not_not_intro hc)]
  · simp [hc]

theorem verdictOf_eq_duplicate {own sender : StationNo} {covered : List Bool} {crc : Byte} {badState : Bool}
    (hc : crc8 covered = crc) (state : badState = false) (same : sender = own) :
    verdictOf own sender covered crc badState = .duplicate := by
  simp [verdictOf, hc, state, same]

theorem takeMessage_checkFail {dt length t0 : Nat} {crc : Byte} {deliver : State → State} {s : State}
    (hears : s.hearsAt dt length t0) :
    takeMessage length crc .checkFail deliver (s.advance dt) = countCheckFail (s.receivedAt dt length t0 crc) :=
  congrArg countCheckFail (endReception_of_hearsAt hears)

theorem takeMessage_duplicate {dt length t0 : Nat} {crc : Byte} {deliver : State → State} {s : State}
    (hears : s.hearsAt dt length t0) :
    takeMessage length crc .duplicate deliver (s.advance dt) =
      raiseFault (countDuplicate (s.receivedAt dt length t0 crc)) :=
  congrArg (fun t => raiseFault (countDuplicate t)) (endReception_of_hearsAt hears)

theorem isNone_ofCode_iff (c : BitVec 2) : (AnnouncedState.ofCode c).isNone = true ↔ c = 3 := by
  revert c; decide

/-- Settles O31: the verdict on each kind (`verdictOf_eq_checkFail`, `verdictOf_eq_duplicate`), and what either verdict
leaves (`takeMessage_checkFail`, `takeMessage_duplicate`). -/
theorem badMessages : Obligations.BadMessages := by
  unfold Obligations.BadMessages
  intro dt t0 sender p64 p16 p8 crc s own failed duplicated
  refine ⟨fun hears => ⟨fun bad => ?_, fun hc state same => ?_⟩, fun hears => ⟨fun bad => ?_, fun hc same => ?_⟩,
    fun hears => ⟨fun bad => ?_, fun hc same => ?_⟩⟩
  · rw [exec_pulse_ended hears, verdictOf_eq_checkFail (bad.imp_right (isNone_ofCode_iff _).mpr),
      takeMessage_checkFail hears]
    rfl
  · rw [exec_pulse_ended hears, verdictOf_eq_duplicate hc (isNone_ofCode state) same, takeMessage_duplicate hears]
    rfl
  · rw [exec_ready_ended hears, verdictOf_eq_checkFail (.inl bad), takeMessage_checkFail hears]
    rfl
  · rw [exec_ready_ended hears, verdictOf_eq_duplicate hc rfl same, takeMessage_duplicate hears]
    rfl
  · rw [exec_leave_ended hears, verdictOf_eq_checkFail (.inl bad), takeMessage_checkFail hears]
    rfl
  · rw [exec_leave_ended hears, verdictOf_eq_duplicate hc rfl same, takeMessage_duplicate hears]
    rfl

end Sys2Proof.Machine

/-! SUPPORT. The trailer (R156, R181): the two trailer pixels and the frame number they carry, a slot freed and a slot made
READY, and the judgement of a frame at the end of its trailer line. -/

namespace Sys2Proof.Machine

/-! ### The trailer pixels (R156, R181) -/

theorem red_pixelOf (r g b : Nat) : red (pixelOf r g b) = r % 1024 := by
  rw [red, pixelOf, BitVec.extractLsb'_append_eq_of_le (by decide : 10 ≤ 20), BitVec.extractLsb'_append_eq_left,
    BitVec.toNat_ofNat]

theorem green_pixelOf (r g b : Nat) : green (pixelOf r g b) = g % 1024 := by
  rw [green, pixelOf, BitVec.extractLsb'_append_eq_of_le (by decide : 10 ≤ 10), BitVec.extractLsb'_append_eq_right,
    BitVec.toNat_ofNat]

theorem blue_pixelOf (r g b : Nat) : blue (pixelOf r g b) = b % 1024 := by
  rw [blue, pixelOf, BitVec.extractLsb'_append_eq_right, BitVec.toNat_ofNat]

theorem red_lt (p : Pixel) : red p < 1024 := (p.extractLsb' 20 10).isLt

theorem green_lt (p : Pixel) : green p < 1024 := (p.extractLsb' 10 10).isLt

/-- A pixel is made of its three codes (R181). -/
theorem pixelOf_codes (p : Pixel) : pixelOf (red p) (green p) (blue p) = p := by
  simp only [pixelOf, red, green, blue, BitVec.ofNat_toNat, BitVec.setWidth_eq]
  rw [BitVec.extractLsb'_append_extractLsb'_eq_extractLsb' (by decide : 20 = 10 + 10),
    BitVec.extractLsb'_append_extractLsb'_eq_extractLsb' (by decide : 10 = 0 + 10)]
  exact BitVec.extractLsb'_eq_self

/-- A trailer is valid exactly where its two pixels carry a frame number as R181 writes it. -/
theorem trailerFrame_eq_some_iff (l : List Pixel) (n : FrameNo) :
    trailerFrame l = some n ↔ ∃ rest,
      l = pixelOf (n.toNat / 64) (n.toNat % 64 * 16) 707 ::
        pixelOf (1023 - n.toNat / 64) (1023 - n.toNat % 64 * 16) 707 :: rest := by
  have bound : n.toNat < 65536 := n.isLt
  constructor
  · intro valid
    match l, valid with
    | p :: q :: rest, valid =>
      simp only [trailerFrame, Option.ite_none_right_eq_some, Option.some.injEq] at valid
      obtain ⟨⟨blue_p, blue_q, low, red_q, green_q⟩, rfl⟩ := valid
      have high := red_lt p
      have width := green_lt p
      have number : (BitVec.ofNat 16 (red p * 64 + green p / 16)).toNat = red p * 64 + green p / 16 := by
        rw [BitVec.toNat_ofNat]
        omega
      have red_eq : (red p * 64 + green p / 16) / 64 = red p := by omega
      have green_eq : (red p * 64 + green p / 16) % 64 * 16 = green p := by omega
      rw [number, red_eq, green_eq, ← red_q, ← green_q]
      refine ⟨rest, ?_⟩
      have first := pixelOf_codes p
      have second := pixelOf_codes q
      rw [blue_p] at first
      rw [blue_q] at second
      exact (congrArg₂ (fun a b => a :: b :: rest) first second).symm
  · rintro ⟨rest, rfl⟩
    unfold trailerFrame
    dsimp only
    simp only [red_pixelOf, green_pixelOf, blue_pixelOf]
    have number : n.toNat / 64 % 1024 * 64 + n.toNat % 64 * 16 % 1024 / 16 = n.toNat := by omega
    rw [if_pos (by unfold Config.trailerMark; omega), number, BitVec.ofNat_toNat, BitVec.setWidth_eq]

/-! ### Slots (R151, R155, R156) -/

theorem slotAt_setSlot_same (i : SlotNo) (x : Slot) (l : List Slot) : slotAt (setSlot i x l) i = x := by
  rw [setSlot, slotAt_mapSlots, if_pos rfl]

theorem slotAt_setSlot_ne {i j : SlotNo} (h : j ≠ i) (x : Slot) (l : List Slot) :
    slotAt (setSlot i x l) j = slotAt l j := by
  rw [setSlot, slotAt_mapSlots, if_neg h]

/-- A slot with its rank, where it is READY, replaced. -/
def Slot.withRank (q : Nat) : Slot → Slot
  | .ready f _ c => .ready f q c
  | x => x

/-- Renumbering changes the ranks of the READY slots alone (R151). -/
theorem slotAt_renumber (l : List Slot) (j : SlotNo) : ∃ q, slotAt (renumber l) j = (slotAt l j).withRank q := by
  unfold renumber slotAt
  rw [List.getD_eq_getElem?_getD, List.getElem?_map, List.getD_eq_getElem?_getD]
  cases l[j.val]? with
  | none => exact ⟨0, rfl⟩
  | some x =>
    cases x with
    | ready f r c => exact ⟨readyBelow r l + 1, rfl⟩
    | free => exact ⟨0, rfl⟩
    | filling => exact ⟨0, rfl⟩
    | shown f => exact ⟨0, rfl⟩

theorem slotAt_freeSlot_same (i : SlotNo) (f : FrameStore) : slotAt (freeSlot i f).slots i = .free := by
  obtain ⟨q, h⟩ := slotAt_renumber (setSlot i .free f.slots) i
  rw [slotAt_setSlot_same] at h
  exact h

theorem slotAt_freeSlot_ne {i j : SlotNo} (h : j ≠ i) (f : FrameStore) :
    ∃ q, slotAt (freeSlot i f).slots j = (slotAt f.slots j).withRank q := by
  rw [← slotAt_setSlot_ne h .free f.slots]
  exact slotAt_renumber ..

/-- A frame number newer than those of all four slots (R156). -/
theorem newerThanAll_iff {l : List Slot} (full : l.length = 4) (n : FrameNo) :
    newerThanAll l n = true ↔ ∀ j f, (slotAt l j).frame? = some f → newer n f = true := by
  have slots : ∀ {P : Slot → Prop}, (∀ x ∈ l, P x) ↔ ∀ j : SlotNo, P (slotAt l j) := by
    intro P
    have at_eq : ∀ (j : Nat) (h : j < l.length), l.getD j .free = l[j] := fun j h => List.getD_eq_getElem l .free h
    rw [List.forall_mem_iff_forall_getElem]
    have inside (j : SlotNo) : j.val < l.length := full.symm ▸ j.isLt
    exact ⟨fun h j => by rw [slotAt, at_eq j (inside j)]; exact h _ _,
      fun h j hj => at_eq j hj ▸ h ⟨j, full ▸ hj⟩⟩
  rw [newerThanAll, List.all_eq_true, slots]
  refine forall_congr' fun j => ?_
  cases (slotAt l j).frame? <;> simp

/-! ### The judgement of a frame (R156) -/

/-- The part after a frame that is not taken: its slot freed with its pending pixels, the counters as `tally` makes them,
the port DONE, and the store brought up to date (R130, R155, R156, R162). -/
def State.frameRefused (slot : SlotNo) (tally : Counters → Counters) (s : State) : State :=
  settleStore (((s.modFs (freeSlot slot)).modCounters tally).modFs fun f => { f with port := .done })

/-- The part after a frame that is taken: its slot READY, a READY message requested, the port DONE, and the store brought
up to date (R130, R156, R162). -/
def State.frameTaken (slot : SlotNo) (n : FrameNo) (s : State) : State :=
  settleStore ((makeReady slot n s).modFs fun f => { f with port := .done })

section

variable {dt : Nat} {slot : SlotNo} {s : State} (filling : fillingSlot s.fs.slots = some slot)

include filling

theorem takeTrailerEnd_filling :
    takeTrailerEnd s = settleStore ((judgeFrame slot s).modFs fun f => { f with port := .done }) := by
  rw [takeTrailerEnd, filling]

theorem takeTrailerEnd_damaged (damaged : s.fs.damaged = true) :
    takeTrailerEnd s = s.frameRefused slot fun c => { c with overrun := count c.overrun } := by
  rw [takeTrailerEnd_filling filling, judgeFrame, if_pos damaged]
  rfl

theorem takeTrailerEnd_untagged (damaged : s.fs.damaged = false) (invalid : trailerFrame s.fs.trailer = none) :
    takeTrailerEnd s = s.frameRefused slot fun c => { c with untagged := count c.untagged } := by
  rw [takeTrailerEnd_filling filling, judgeFrame, if_neg (by simp [damaged]), invalid]
  rfl

theorem takeTrailerEnd_stale {n : FrameNo} (damaged : s.fs.damaged = false)
    (valid : trailerFrame s.fs.trailer = some n) (old : ¬newerThanAll s.fs.slots n = true) :
    takeTrailerEnd s = s.frameRefused slot fun c => { c with stale := count c.stale } := by
  rw [takeTrailerEnd_filling filling, judgeFrame, if_neg (by simp [damaged]), valid]
  dsimp only
  rw [if_neg old]
  rfl

theorem takeTrailerEnd_ready {n : FrameNo} (damaged : s.fs.damaged = false)
    (valid : trailerFrame s.fs.trailer = some n) (new : newerThanAll s.fs.slots n = true) :
    takeTrailerEnd s = s.frameTaken slot n := by
  rw [takeTrailerEnd_filling filling, judgeFrame, if_neg (by simp [damaged]), valid]
  dsimp only
  rw [if_pos new]
  rfl

end

theorem frameRefused_frame (slot : SlotNo) (tally : Counters → Counters) (s : State) :
    s.frameRefused slot tally = { s with
      fs := { s.fs with
        slots := (freeSlot slot s.fs).slots, port := .done, fifo := s.fs.fifo.filter fun p => p.slot != slot,
        sequence := (s.frameRefused slot tally).fs.sequence, arb := (s.frameRefused slot tally).fs.arb },
      counters := tally s.counters,
      wbp := { s.wbp with nextLine := (s.frameRefused slot tally).wbp.nextLine } } := by
  conv_lhs => rw [State.frameRefused, settleStore_frame]
  rfl

theorem frameTaken_frame (slot : SlotNo) (n : FrameNo) (s : State) :
    s.frameTaken slot n = { s with
      fs := { s.fs with
        slots := setSlot slot (.ready n (readyCount s.fs.slots + 1) false) s.fs.slots, port := .done,
        sequence := (s.frameTaken slot n).fs.sequence, arb := (s.frameTaken slot n).fs.arb },
      slc := { s.slc with queue := { s.slc.queue with
        ready := some { msg := n, retries := 0, retried := false } } },
      wbp := { s.wbp with nextLine := (s.frameTaken slot n).wbp.nextLine } } := by
  conv_lhs => rw [State.frameTaken, settleStore_frame]
  rfl

/-- Settles O45: the trailer both ways (`trailerFrame_eq_some_iff`), and the outcomes of R156's table, three of which free
the slot (`frameRefused_frame`, `slotAt_freeSlot_ne`). -/
theorem trailerEnds : Obligations.TrailerEnds := by
  unfold Obligations.TrailerEnds
  refine ⟨fun n rest => (trailerFrame_eq_some_iff _ n).mpr ⟨rest, rfl⟩,
    fun l n => (trailerFrame_eq_some_iff l n).mp, ?_⟩
  intro dt i s live running port filling fresh freed full
  have due : (s.advance dt).trailerEndDue = true := by
    have running : (s.advance dt).running = true := running
    simp [State.trailerEndDue, State.portOpen, running, port]
  have exec_eq : exec (.trailerLineEnd dt) s = .next (takeTrailerEnd (s.advance dt)) := eventWhen_due dt s _ _ live due
  have filling : fillingSlot (s.advance dt).fs.slots = some i := filling
  have frees (tally : Counters → Counters) : freed ((s.advance dt).frameRefused i tally) := by
    refine ⟨?_, fun j hj => ?_, ?_, ?_⟩
    · rw [frameRefused_frame]
      exact slotAt_freeSlot_same ..
    · have slot : ∃ q, slotAt ((s.advance dt).frameRefused i tally).fs.slots j = (slotAt s.fs.slots j).withRank q := by
        rw [frameRefused_frame]
        exact slotAt_freeSlot_ne hj s.fs
      obtain ⟨q, slot⟩ := slot
      rw [slot]
      cases slotAt s.fs.slots j with
      | ready f r c => exact ⟨q, rfl⟩
      | free => rfl
      | filling => rfl
      | shown f => rfl
    · rw [frameRefused_frame]; rfl
    · rw [frameRefused_frame]; rfl
  have counted (tally : Counters → Counters) : ((s.advance dt).frameRefused i tally).counters = tally s.counters := by
    rw [frameRefused_frame]; rfl
  refine ⟨_, exec_eq, fun damaged => ?_, fun damaged invalid => ?_, fun n damaged valid old => ?_,
    fun n damaged valid new => ?_⟩
  · rw [takeTrailerEnd_damaged filling damaged]
    exact ⟨frees _, counted _⟩
  · rw [takeTrailerEnd_untagged filling damaged invalid]
    exact ⟨frees _, counted _⟩
  · rw [takeTrailerEnd_stale filling damaged valid (old ∘ (newerThanAll_iff full n).mp)]
    exact ⟨frees _, counted _⟩
  · rw [takeTrailerEnd_ready filling damaged valid ((newerThanAll_iff full n).mpr new), frameTaken_frame]
    exact ⟨slotAt_setSlot_same .., fun j hj => slotAt_setSlot_ne hj .., rfl, rfl⟩

end Sys2Proof.Machine

/-! SUPPORT. The cutoff (R72, R90, R91): the slot that holds a frame, the chosen mark, and what each outcome of the
decision leaves. -/

namespace Sys2Proof.Machine

/-! ### Slots (R90, R91) -/

/-- A slot that `readySlotOf` finds is READY with the frame asked for. -/
theorem readySlotOf_eq_some {l : List Slot} {f : FrameNo} {i : SlotNo} (h : readySlotOf l f = some i) :
    ∃ r c, slotAt l i = .ready f r c := by
  have found := List.find?_some h
  cases slot : slotAt l i with
  | ready g r c =>
    simp only [slot, beq_iff_eq] at found
    exact ⟨r, c, by rw [found]⟩
  | free => simp [slot] at found
  | filling => simp [slot] at found
  | shown g => simp [slot] at found

theorem readySlotOf_eq_none_iff {l : List Slot} {f : FrameNo} :
    readySlotOf l f = none ↔ ∀ i r c, slotAt l i ≠ .ready f r c := by
  refine ⟨fun none_found i r c slot => ?_, fun none_ready => ?_⟩
  · have passed := List.find?_eq_none.mp none_found i (List.mem_finRange i)
    simp [slot] at passed
  · cases found : readySlotOf l f with
    | none => rfl
    | some i =>
      obtain ⟨r, c, slot⟩ := readySlotOf_eq_some found
      exact absurd slot (none_ready i r c)

theorem slotAt_chooseSlot_same {l : List Slot} {i : SlotNo} {f : FrameNo} {r : Nat} {c : Bool}
    (h : slotAt l i = .ready f r c) : slotAt (chooseSlot i l) i = .ready f r true := by
  rw [chooseSlot, slotAt_mapSlots, h]
  simp

theorem slotAt_chooseSlot_ne {l : List Slot} {i j : SlotNo} (h : j ≠ i) :
    slotAt (chooseSlot i l) j = slotAt l j := by
  rw [chooseSlot, slotAt_mapSlots]
  cases slotAt l j <;> simp [h]

/-- A target calls for a swap where it is newer than the SHOWN frame, if one is SHOWN (R90). -/
theorem targetCalls_iff (shown : Option FrameNo) (target : FrameNo) :
    targetCalls shown target = true ↔ ∀ g, shown = some g → newer target g = true := by
  cases shown <;> simp [targetCalls]

/-! ### The decision (R90, R91) -/

section

variable {s : State} {f : FrameNo}

theorem decideSwap_of_no_target (target : s.swapTarget = none) : decideSwap s = { s with swu := .hold } := by
  rw [decideSwap, target]
  rfl

theorem decideSwap_of_not_calls (target : s.swapTarget = some f)
    (stale : ¬targetCalls (shownFrame s.fs.slots) f = true) : decideSwap s = { s with swu := .hold } := by
  rw [decideSwap, target]
  exact if_neg stale

theorem decideSwap_of_missing (target : s.swapTarget = some f) (calls : targetCalls (shownFrame s.fs.slots) f = true)
    (missing : readySlotOf s.fs.slots f = none) :
    decideSwap s = { s with
      swu := .hold, counters := { s.counters with swapMiss := min 65535 (s.counters.swapMiss + 1) } } := by
  rw [decideSwap, target]
  dsimp only
  rw [if_pos calls, missing]
  rfl

theorem decideSwap_of_ready {i : SlotNo} (target : s.swapTarget = some f)
    (calls : targetCalls (shownFrame s.fs.slots) f = true) (ready : readySlotOf s.fs.slots f = some i) :
    decideSwap s = { s with swu := .swap f i, fs := { s.fs with slots := chooseSlot i s.fs.slots } } := by
  rw [decideSwap, target]
  dsimp only
  rw [if_pos calls, ready]
  rfl

end

/-! ### The cutoff (R72) -/

/-- The part `dt` ns on, its cutoff taken and nothing decided yet (R72). -/
def State.cutAt (dt : Nat) (s : State) : State := { s with now := s.now + dt, cu := { s.cu with cutoffTaken := true } }

/-- A due cutoff decides in a running state, and in CONFIG is noted alone (R72, R90). -/
theorem exec_cutoff_due {dt e : Nat} {s : State} (live : s.rstnLow = false) (timer : s.cu.running = true)
    (first : s.cu.cutoffTaken = false) (period : s.cu.periodEnd = some e)
    (due : toNs e = s.now + dt + toNs s.profile.cutoffLead) :
    exec (.cutoff dt) s = .next (if s.running = true then decideSwap (s.cutAt dt) else s.cutAt dt) := by
  have due : (s.advance dt).cutoffDue = true := by
    show (s.cu.running && !s.cu.cutoffTaken && s.cu.periodEnd.any fun e =>
      toNs e == s.now + dt + toNs s.profile.cutoffLead) = true
    simp [timer, first, period, due]
  exact eventWhen_due dt s _ _ live due

/-- Settles O18: the cutoff where it is due (`exec_cutoff_due`), and the decision by its target, by whether the target
calls for a swap and by the slot that holds it. -/
theorem cutoffDecides : Obligations.CutoffDecides := by
  unfold Obligations.CutoffDecides
  intro dt e s live timer first period due cut calls
  have calls_iff (f : FrameNo) : targetCalls (shownFrame s.fs.slots) f = true ↔ calls f := targetCalls_iff _ f
  rw [exec_cutoff_due live timer first period due]
  refine ⟨fun config => ?_, fun running => ?_⟩
  · rw [if_neg (by simp [config])]
    rfl
  · rw [if_pos running]
    refine ⟨fun target => ?_, fun f target stale => ?_, fun f target newer missing => ?_,
      fun f target newer ready => ?_⟩
    · exact congrArg _ (decideSwap_of_no_target (s := s.cutAt dt) target)
    · exact congrArg _ (decideSwap_of_not_calls (s := s.cutAt dt) target (mt (calls_iff f).mp stale))
    · exact congrArg _ (decideSwap_of_missing (s := s.cutAt dt) target ((calls_iff f).mpr newer)
        (readySlotOf_eq_none_iff.mpr missing))
    · obtain ⟨i, found⟩ : ∃ i, readySlotOf s.fs.slots f = some i := Option.ne_none_iff_exists'.mp fun none_found => by
        obtain ⟨i, r, c, slot⟩ := ready
        exact readySlotOf_eq_none_iff.mp none_found i r c slot
      obtain ⟨r, c, slot⟩ := readySlotOf_eq_some found
      have decided := decideSwap_of_ready (s := s.cutAt dt) target ((calls_iff f).mpr newer) found
      exact ⟨_, i, r, c, congrArg _ decided, slot, slotAt_chooseSlot_same slot,
        fun j other => slotAt_chooseSlot_ne other, rfl⟩

end Sys2Proof.Machine

/-! SUPPORT. The completion of a pass (R105 to R109): the greatest coverage count, the pass brought up to its end, and
the view recomputed from what it found. -/

namespace Sys2Proof.Machine

/-! ### The greatest coverage count (R106) -/

/-- The pass maximum is the greatest of 1 and the coverage counts found (R106). -/
theorem passMaximumOf_greatest (l : List VertexResult) :
    passMaximumOf l ∈ 1 :: l.map VertexResult.k ∧ ∀ k ∈ 1 :: l.map VertexResult.k, k ≤ passMaximumOf l :=
  List.max?_eq_some_iff.mp List.max?_cons'

theorem one_le_passMaximumOf (l : List VertexResult) : 1 ≤ passMaximumOf l :=
  (passMaximumOf_greatest l).2 1 List.mem_cons_self

theorem le_passMaximumOf {l : List VertexResult} {r : VertexResult} (h : r ∈ l) : r.k ≤ passMaximumOf l :=
  (passMaximumOf_greatest l).2 _ (List.mem_cons_of_mem _ (List.mem_map_of_mem h))

theorem passMaximumOf_attained (l : List VertexResult) : passMaximumOf l = 1 ∨ ∃ r ∈ l, r.k = passMaximumOf l :=
  (List.mem_cons.mp (passMaximumOf_greatest l).1).imp_right List.mem_map.mp

/-! ### The results of a pass (R107) -/

/-- What the pass finds at a vertex (R100 to R105). -/
def State.resultAt (s : State) (i : Nat) : VertexResult := computeVertex s.profile s.we.copy (s.mt.vertex i)

theorem mem_passResults {s : State} {r : VertexResult} :
    r ∈ passResults s ↔ ∃ i < s.sc.vertexCount, s.resultAt i = r := by
  simp [passResults, State.resultAt]

theorem getElem?_passResults {s : State} {i : Nat} (h : i < s.sc.vertexCount) :
    (passResults s)[i]? = some (s.resultAt i) := by
  simp [passResults, State.resultAt, h]

/-! ### The end of a pass (R107, R108) -/

/-- The saturated vertices that a pass has not counted yet, from its position on (R105). -/
def State.saturatedAhead (s : State) : Nat :=
  (((List.range s.sc.vertexCount).drop s.we.position).filter fun i => (s.resultAt i).saturated).length

/-- The part once a pass has ended at the present instant, before the view is recomputed (R105, R106, R108). -/
def State.passEnded (s : State) : State :=
  let k := passMaximumOf (passResults s)
  { s with
    we := { s.we with
      work := (passResults s).map VertexResult.weight, engine := .pending, passStart := none,
      position := s.sc.vertexCount, passMaximum := k, kLocal := k,
      saturated := s.we.saturated || s.saturatedAhead != 0 },
    counters := { s.counters with saturated := min 65535 (s.counters.saturated + s.saturatedAhead) } }

theorem passPosition_at_end {s : State} {p : Nat} (start : s.we.passStart = some p)
    (ends : s.now = p + s.sc.vertexCount * 40) : s.passPosition = s.sc.vertexCount := by
  simp only [State.passPosition, start, ends, Config.vertexTime]
  omega

theorem saturatedCount_computedSince {s : State} (h : s.passPosition = s.sc.vertexCount) :
    saturatedCount (computedSince s) = s.saturatedAhead := by
  simp only [saturatedCount, computedSince, h, List.filter_map, List.length_map]
  rfl

theorem takePassComplete_eq {s : State} {p : Nat} (computing : s.we.engine = .computing)
    (start : s.we.passStart = some p) (ends : s.now = p + s.sc.vertexCount * 40) :
    takePassComplete s = recomputeView s.passEnded := by
  have counted := saturatedCount_computedSince (passPosition_at_end start ends)
  unfold takePassComplete runPass
  dsimp only
  rw [if_pos computing, counted]
  rfl

theorem exec_passComplete_due {dt p : Nat} {s : State} (live : s.rstnLow = false) (running : s.running = true)
    (computing : s.we.engine = .computing) (start : s.we.passStart = some p)
    (ends : s.now + dt = p + s.sc.vertexCount * 40) :
    exec (.passComplete dt) s = .next (recomputeView (s.advance dt).passEnded) := by
  have running : (s.advance dt).running = true := running
  have due : (s.advance dt).passCompleteDue = true := by
    simp [State.passCompleteDue, passEnd, running, computing, start, ends, Config.vertexTime]
  rw [← takePassComplete_eq (s := s.advance dt) computing start ends]
  exact eventWhen_due dt s _ _ live due

/-- Settles O38: the pass's end (`takePassComplete_eq`), its maximum by the coverage counts it found, and the view as
they form it (`recomputeView_view`), of which a PENDING engine is told by its again flag (`recomputeView_told`). -/
theorem passCompletes : Obligations.PassCompletes := by
  unfold Obligations.PassCompletes
  intro dt p s live running computing start ends size result saturated
  rw [exec_passComplete_due live running computing start ends]
  let u : State := (s.advance dt).passEnded
  let t : State := recomputeView u
  let k := passMaximumOf (passResults s)
  have view : t.pt.view = u.formedView (if u.formedView s.pt.view.serial = s.pt.view then s.pt.view.serial
      else s.pt.view.serial + 1) := recomputeView_view u
  have told : t.we = if t.pt.view = s.pt.view then u.we else { u.we with again := true } := recomputeView_told u
  have we : t.we = { u.we with again := s.we.again || t.pt.view != s.pt.view } := by
    rw [told]
    split
    · next same => rw [same, bne_self_eq_false, Bool.or_false]; rfl
    · next other => rw [bne_iff_ne.mpr other, Bool.or_true]
  have frame : t = { u with pt := { u.pt with view := t.pt.view }, we := t.we } := recomputeView_frame u
  have kLocal : t.we.kLocal = k := by rw [we]; rfl
  have work : t.we.work = (passResults s).map VertexResult.weight := by rw [we]; rfl
  have formed (n : BitVec 8) : t.formedView n = u.formedView n :=
    formedView_congr u t n (by rw [frame]) (by rw [frame]; rfl) (by rw [frame]) kLocal
  refine ⟨t, rfl, ?_, fun i inside => ?_, ?_, fun i inside => ?_, ?_, ?_, ?_, ?_, ?_⟩
  · simp [work, passResults, size]
  · rw [work, List.getElem?_map, getElem?_passResults inside]
    rfl
  · rw [kLocal]; exact one_le_passMaximumOf _
  · rw [kLocal]; exact le_passMaximumOf (mem_passResults.mpr ⟨i, inside, rfl⟩)
  · rw [kLocal]
    refine (passMaximumOf_attained (passResults s)).imp_right fun ⟨r, found, greatest⟩ => ?_
    obtain ⟨i, inside, rfl⟩ := mem_passResults.mp found
    exact ⟨i, inside, greatest⟩
  · rw [kLocal, work, we]; rfl
  · simp only [formed]
    have pt : t.pt = { s.pt with view := t.pt.view } := by rw [frame]; rfl
    rw [pt, view]
    split
    · next same => rw [same]
    · rfl
  · rw [frame]; rfl
  · rw [frame]; rfl

end Sys2Proof.Machine

/-! SUPPORT. READY (R55): the entry it writes, of which neither the choice of reference nor the view reads anything. -/

namespace Sys2Proof.Machine

/-! ### Entries that agree in what is read of them -/

/-- What is read of a written entry alike is read of every entry alike. -/
theorem entry_set_congr {α : Type} {read : PeerEntry → α} {n : StationNo} {e : PeerEntry} {t u : PeerTable}
    (entries : u.entries = t.entries.set n.val e) (h : read e = read (t.entry n)) (m : StationNo) :
    read (u.entry m) = read (t.entry m) := by
  simp only [PeerTable.entry, entries, List.getD_eq_getElem?_getD, List.getElem?_set] at h ⊢
  split
  · next here =>
    rw [← here]
    split
    · exact h
    · next beyond => rw [List.getElem?_eq_none (Nat.le_of_not_lt beyond)]
  · rfl

theorem peersWith_set_congr {test : PeerEntry → Bool} {n : StationNo} {e : PeerEntry} {s t : State}
    (station : t.profile.station = s.profile.station) (entries : t.pt.entries = s.pt.entries.set n.val e)
    (h : test e = test (s.pt.entry n)) : t.peersWith test = s.peersWith test := by
  unfold State.peersWith
  rw [station]
  exact List.filter_congr fun m _ => by rw [entry_set_congr entries h]

/-! ### READY -/

/-- A valid READY is delivered (R45). -/
theorem exec_ready_delivered {dt t0 : Nat} {sender : StationNo} {p : BitVec 16} {crc : Byte} {s : State}
    (hears : s.hearsAt dt 34 t0) (hc : crc8 (coveredBits 1 sender (bitsOf p)) = crc) (hs : sender ≠ s.profile.station) :
    exec (.ready dt sender p crc) s =
      .next (deliverMessage (actOnReady sender p) id (s.receivedAt dt 34 t0 crc)) := by
  rw [exec_ready_ended hears, verdictOf_eq_deliver hc hs, ← endReception_of_hearsAt hears]
  rfl

/-- The entries as a READY leaves them (R55). -/
def PeerTable.readied (n : StationNo) (frame : FrameNo) (t : PeerTable) : List PeerEntry :=
  if (t.entry n).status = .mismatch then t.entries
  else t.entries.set n.val { t.entry n with latestReady := some frame }

theorem actOnReady_acted (n : StationNo) (frame : FrameNo) (s : State) :
    actOnReady n frame (s.acted s.pt.entries s.svp) = s.acted (s.pt.readied n frame) s.svp := by
  have same : (s.acted s.pt.entries s.svp).pt.entry n = s.pt.entry n := rfl
  unfold actOnReady PeerTable.readied
  rw [same]
  dsimp only
  split <;> rfl

/-- Whatever reads nothing of the latest READY reads every entry as before. -/
theorem readied_congr {α : Type} {read : PeerEntry → α} {n : StationNo} {frame : FrameNo} {t u : PeerTable}
    (entries : u.entries = t.readied n frame)
    (h : ∀ e : PeerEntry, read { e with latestReady := some frame } = read e) (m : StationNo) :
    read (u.entry m) = read (t.entry m) := by
  unfold PeerTable.readied at entries
  split at entries
  · rw [PeerTable.entry, entries]; rfl
  · exact entry_set_congr entries (h _) m

/-- A READY leaves the choice of reference and the formed view (R62, R74). -/
theorem readied_peers_and_view (n : StationNo) (frame : FrameNo) (port : ServicePort) (s : State) (serial : BitVec 8) :
    (s.acted (s.pt.readied n frame) port).eligiblePeers = s.eligiblePeers ∧
      (s.acted (s.pt.readied n frame) port).formedView serial = s.formedView serial := by
  have reads {α : Type} {read : PeerEntry → α}
      (h : ∀ e : PeerEntry, read { e with latestReady := some frame } = read e) (m : StationNo) :
      read ((s.acted (s.pt.readied n frame) port).pt.entry m) = read (s.pt.entry m) := readied_congr rfl h m
  have peers (test : PeerEntry → Bool) (h : ∀ e : PeerEntry, test { e with latestReady := some frame } = test e) :
      (s.acted (s.pt.readied n frame) port).peersWith test = s.peersWith test :=
    List.filter_congr fun m _ => by rw [reads h]; rfl
  have alive : (s.acted (s.pt.readied n frame) port).alive = s.alive := peers _ fun _ => rfl
  refine ⟨peers _ fun _ => rfl, ?_⟩
  unfold State.formedView
  simp only [alive, reads (read := PeerEntry.level) fun _ => rfl, reads (read := PeerEntry.depth) fun _ => rfl]
  rfl

/-- Settles O35: the entry written (`actOnReady_acted`), of which neither the choice of reference nor the view reads
anything (`readied_peers_and_view`). -/
theorem readyStored : Obligations.ReadyStored := by
  unfold Obligations.ReadyStored
  intro dt t0 sender p crc s hears hcrc other normal follows
  rw [exec_ready_delivered hears hcrc other]
  let u : State := s.receivedAt dt 34 t0 crc
  obtain ⟨peers, formed⟩ := readied_peers_and_view sender p s.svp u s.pt.view.serial
  have delivered : deliverMessage (actOnReady sender p) id u = u.weighed (u.pt.readied sender p) s.svp :=
    deliverMessage_of_same_peers normal (actOnReady_acted sender p u) peers
  obtain ⟨view, engine⟩ := weighed_of_same_view (s := u) (port := s.svp)
    (entries := u.pt.readied sender p) (formed.trans (follows.1 hears.2.1).symm)
  have pt : (u.weighed (u.pt.readied sender p) s.svp).pt =
      { s.pt with unheard := 0, entries := s.pt.readied sender p } := by
    have frame : (u.weighed (u.pt.readied sender p) s.svp).pt = { u.pt with
        unheard := 0, entries := u.pt.readied sender p,
        view := (u.weighed (u.pt.readied sender p) s.svp).pt.view } := rfl
    rw [frame, view]
    rfl
  rw [delivered, weighed_of_same_peers peers, pt, engine]
  rfl

end Sys2Proof.Machine

/-! SUPPORT. A reference PULSE (R77 to R80): the phase error, the tests on Δ, the correction and the lock count as one
change of the Cadence Unit, and the choice of reference that a moved lock weighs. -/

namespace Sys2Proof.Machine

/-! ### The phase error (R78) -/

/-- The phase error is the raw error brought into half a period by whole periods (R78). -/
theorem foldError_spec {period : Nat} (h : 0 < period) (raw : Int) :
    -(period : Int) < 2 * foldError period raw ∧ 2 * foldError period raw ≤ period ∧
      ∃ k : Int, foldError period raw = raw + k * period := by
  have positive : (0 : Int) < period := by exact_mod_cast h
  have low := Int.emod_nonneg raw positive.ne'
  have high := Int.emod_lt_of_pos raw positive
  have whole := Int.emod_add_mul_ediv raw period
  unfold foldError
  dsimp only
  split
  · exact ⟨by omega, by omega, -(raw / period), by linarith⟩
  · exact ⟨by omega, by omega, -(raw / period) - 1, by linarith⟩

/-! ### One change of the Cadence Unit (R77 to R80) -/

/-- The correction of a PULSE taken at `now`, with the cutoff where it now occurs at once, and the lock count (R78,
R79). -/
def Cadence.corrected (p : Profile) (now : Nat) (e : Int) (c : Cadence) : Cadence :=
  let a := applyCorrection p now e c
  lockRule p e { a.1 with cutoffTaken := a.2 || a.1.cutoffTaken }

/-- The Cadence Unit as a reference PULSE moves it, before the choice is weighed on a moved lock (R77 to R80). -/
def Cadence.moved (p : Profile) (now : Nat) (tRef : Int) (beat : BitVec 8) (c : Cadence) : Cadence :=
  let f := freeTest p (beatDelta c tRef beat) c
  { (if f.lock = .seeking ∨ f.lock = .locked then f.corrected p now (phaseError p.period c tRef) else f) with
    previous := some { tRef := tRef, beat := beat } }

/-- A corrected timer takes the cutoff where it now occurs at once, and the profile and the peers stay (R78). -/
theorem correctedTimer_eq (a : Cadence × Bool) (s : State) :
    let t := if a.2 = true then takeCutoff { s with cu := a.1 } else { s with cu := a.1 }
    t.cu = { a.1 with cutoffTaken := a.2 || a.1.cutoffTaken } ∧ t.profile = s.profile ∧
      t.eligiblePeers = s.eligiblePeers := by
  obtain ⟨c, atOnce⟩ := a
  cases atOnce
  · exact ⟨rfl, rfl, rfl⟩
  · dsimp only
    rw [if_pos rfl, takeCutoff_frame]
    exact ⟨rfl, rfl, rfl⟩

/-- A reference PULSE moves the Cadence Unit, and a moved lock weighs the choice of reference (R74, R77). -/
theorem takeReferencePulse_cu (tRef : Int) (beat : BitVec 8) (s : State) :
    (takeReferencePulse tRef beat s).cu =
      let moved := s.cu.moved s.profile s.now tRef beat
      if moved.lock = s.cu.lock then moved
      else chooseReference s.profile.station s.eligiblePeers s.profile.period moved := by
  have weighs (l : LockState) (t : State) : (if t.cu.lock = l then t else weighReference t).cu =
      if t.cu.lock = l then t.cu else chooseReference t.profile.station t.eligiblePeers t.profile.period t.cu := by
    split <;> rfl
  unfold takeReferencePulse Cadence.moved Cadence.corrected
  dsimp only
  rw [weighs]
  let f := freeTest s.profile (beatDelta s.cu tRef beat) s.cu
  by_cases corrects : f.lock = .seeking ∨ f.lock = .locked
  · have corrects' : (s.modCu fun c => freeTest s.profile (beatDelta c tRef beat) c).cu.lock = .seeking ∨
        (s.modCu fun c => freeTest s.profile (beatDelta c tRef beat) c).cu.lock = .locked := corrects
    rw [if_pos corrects, if_pos corrects']
    let a := applyCorrection s.profile s.now (phaseError s.profile.period s.cu tRef) f
    let t : State := if a.2 = true then takeCutoff { s with cu := a.1 } else { s with cu := a.1 }
    obtain ⟨cu, profile, peers⟩ : t.cu = _ ∧ t.profile = _ ∧ t.eligiblePeers = _ := correctedTimer_eq a s
    let taken (c : Cadence) : Cadence :=
      { lockRule s.profile (phaseError s.profile.period s.cu tRef) c with
        previous := some { tRef := tRef, beat := beat } }
    show (if (taken t.cu).lock = s.cu.lock then taken t.cu
      else chooseReference t.profile.station t.eligiblePeers t.profile.period (taken t.cu)) = _
    rw [cu, profile, peers]
  · have stands : ¬((s.modCu fun c => freeTest s.profile (beatDelta c tRef beat) c).cu.lock = .seeking ∨
        (s.modCu fun c => freeTest s.profile (beatDelta c tRef beat) c).cu.lock = .locked) := corrects
    rw [if_neg corrects, if_neg stands]
    rfl

/-! ### The tests on Δ (R80) -/

/-- A PULSE that makes the station FREE: Δ lies beyond free enter (R80). -/
abbrev Cadence.freed (p : Profile) (delta : Option Int) (c : Cadence) : Prop :=
  c.lock ≠ .free ∧ ∃ d ∈ delta, p.freeEnter < (d - (p.period : Int)).natAbs

/-- A PULSE that leaves the station FREE: no Δ lies within free exit (R80). -/
abbrev Cadence.staysFree (p : Profile) (delta : Option Int) (c : Cadence) : Prop :=
  c.lock = .free ∧ ¬∃ d ∈ delta, (d - (p.period : Int)).natAbs < p.freeExit

section

variable {p : Profile} {delta : Option Int} {c : Cadence}

theorem freeTest_of_freed (lock : c.lock = .seeking ∨ c.lock = .locked ∨ c.lock = .free) (h : c.freed p delta) :
    freeTest p delta c = toFree p.period c := by
  obtain ⟨other, d, rfl, beyond⟩ := h
  obtain lock | lock | lock := lock
  · simp [freeTest, lock, beyond]
  · simp [freeTest, lock, beyond]
  · exact absurd lock other

theorem freeTest_of_staysFree (h : c.staysFree p delta) : freeTest p delta c = c := by
  obtain ⟨lock, outside⟩ := h
  cases delta with
  | none => rfl
  | some d =>
    have outside : ¬(d - (p.period : Int)).natAbs < p.freeExit := fun within => outside ⟨d, rfl, within⟩
    simp only [freeTest, lock, if_neg outside]

/-- A PULSE that is to correct finds the station SEEKING or LOCKED, a FREE one having left for SEEKING (R80). -/
theorem freeTest_of_corrects (lock : c.lock = .seeking ∨ c.lock = .locked ∨ c.lock = .free) (enters : ¬c.freed p delta)
    (stays : ¬c.staysFree p delta) :
    freeTest p delta c = { c with
      lock := if c.lock = .free then .seeking else c.lock,
      lockCount := if c.lock = .free then 0 else c.lockCount } := by
  by_cases free : c.lock = .free
  · obtain ⟨d, rfl, within⟩ := not_not.mp fun none_within => stays ⟨free, none_within⟩
    simp [freeTest, free, within, toSeeking]
  · rw [if_neg free, if_neg free]
    cases delta with
    | none => rfl
    | some d =>
      have near : ¬p.freeEnter < (d - (p.period : Int)).natAbs := fun beyond => enters ⟨free, d, rfl, beyond⟩
      show freeTest p (some d) c = c
      obtain lock | lock | lock := lock
      · simp [freeTest, lock, near]
      · simp [freeTest, lock, near]
      · exact absurd lock free

end

/-! ### The correction and the lock count (R78, R79) -/

/-- What a correction makes of the timer: after the cutoff the coming period's length, before it the period end, and the
cutoff where that end calls for it at once (R78). -/
theorem applyCorrection_eq (p : Profile) (now : Nat) (e : Int) (c : Cadence) :
    let length := correctedLength p.period (correction p.slew e)
    let finish := c.latestFrameStart.getD 0 + length
    let atOnce : Prop := c.cutoffTaken = false ∧ toNs (finish - p.cutoffLead) ≤ now
    let a := applyCorrection p now e c
    ({ a.1 with cutoffTaken := a.2 || a.1.cutoffTaken } : Cadence) = { c with
      cutoffTaken := if atOnce then true else c.cutoffTaken,
      periodEnd :=
        if c.cutoffTaken = true then c.periodEnd
        else if atOnce then some (now / 1000 + p.cutoffLead)
        else some finish,
      baseLength := if c.cutoffTaken = true then length else c.baseLength } := by
  intro length finish atOnce a
  by_cases taken : c.cutoffTaken = true
  · have stands : ¬atOnce := fun h => absurd taken (by simp [h.1])
    have a_eq : a = ({ c with baseLength := length }, false) := if_pos taken
    simp [a_eq, stands, taken]
  · by_cases due : toNs (finish - p.cutoffLead) ≤ now
    · have occurs : atOnce := ⟨Bool.eq_false_of_not_eq_true taken, due⟩
      have a_eq : a = ({ c with periodEnd := some (now / 1000 + p.cutoffLead) }, true) :=
        (if_neg taken).trans (if_pos due)
      simp [a_eq, occurs, taken]
    · have stands : ¬atOnce := fun h => due h.2
      have a_eq : a = ({ c with periodEnd := some finish }, false) := (if_neg taken).trans (if_neg due)
      simp [a_eq, stands, taken]

/-- What the lock count rule makes of the lock state (R79). -/
theorem lockRule_eq (p : Profile) (e : Int) (c : Cadence) :
    let count := if e.natAbs ≤ p.lockTolerance then min 4 (c.lockCount + 1) else 0
    let locks : Prop := c.lock = .seeking ∧ e.natAbs ≤ p.lockTolerance ∧ count = 4
    let loses : Prop := c.lock = .locked ∧ p.lockTolerance < e.natAbs ∧ p.unlockThreshold < e.natAbs
    lockRule p e c = { c with
      lock := if locks then .locked else if loses then .seeking else c.lock, lockCount := count,
      orphanCount := if locks then 0 else c.orphanCount } := by
  intro count locks loses
  unfold lockRule
  by_cases near : e.natAbs ≤ p.lockTolerance
  · have keeps : ¬loses := fun h => absurd h.2.1 (Nat.not_lt_of_le near)
    have count_eq : count = min Config.lockFrames (c.lockCount + 1) := if_pos near
    rw [if_pos near, ← count_eq, if_neg keeps]
    by_cases full : c.lock = .seeking ∧ count = 4
    · have lock : locks := ⟨full.1, near, full.2⟩
      rw [if_pos lock, if_pos lock]
      exact if_pos full
    · have short : ¬locks := fun h => full ⟨h.1, h.2.2⟩
      rw [if_neg short, if_neg short]
      exact if_neg full
  · have short : ¬locks := fun h => near h.2.1
    have count_eq : count = 0 := if_neg near
    rw [if_neg near, if_neg short, if_neg short, count_eq]
    by_cases lost : c.lock = .locked ∧ p.unlockThreshold < e.natAbs
    · have lose : loses := ⟨lost.1, Nat.lt_of_not_le near, lost.2⟩
      rw [if_pos lost, if_pos lose]
      rfl
    · have keep : ¬loses := fun h => lost ⟨h.1, h.2.2⟩
      rw [if_neg lost, if_neg keep]

/-! ### A reference PULSE by the tests on Δ (R77 to R82) -/

section

variable {p : Profile} {now : Nat} {tRef : Int} {beat : BitVec 8} {c : Cadence}

theorem moved_of_freed (lock : c.lock = .seeking ∨ c.lock = .locked ∨ c.lock = .free)
    (h : c.freed p (beatDelta c tRef beat)) :
    c.moved p now tRef beat = { c with
      lock := .free, lockCount := 0, baseLength := p.period, orphanCount := 0,
      previous := some { tRef := tRef, beat := beat } } := by
  unfold Cadence.moved
  rw [freeTest_of_freed lock h]
  rfl

theorem moved_of_staysFree (h : c.staysFree p (beatDelta c tRef beat)) :
    c.moved p now tRef beat = { c with previous := some { tRef := tRef, beat := beat } } := by
  unfold Cadence.moved
  rw [freeTest_of_staysFree h]
  dsimp only
  rw [if_neg (by simp [h.1])]

/-- A PULSE that corrects: the correction and the lock count as R78 and R79 give them. -/
theorem moved_of_corrects (known : c.lock = .seeking ∨ c.lock = .locked ∨ c.lock = .free)
    (enters : ¬c.freed p (beatDelta c tRef beat)) (stays : ¬c.staysFree p (beatDelta c tRef beat)) :
    let e := phaseError p.period c tRef
    let lock : LockState := if c.lock = .free then .seeking else c.lock
    let before : Nat := if c.lock = .free then 0 else c.lockCount
    let length : Nat := correctedLength p.period (correction p.slew e)
    let count := if e.natAbs ≤ p.lockTolerance then min 4 (before + 1) else 0
    let locks : Prop := lock = .seeking ∧ e.natAbs ≤ p.lockTolerance ∧ count = 4
    let loses : Prop := lock = .locked ∧ p.lockTolerance < e.natAbs ∧ p.unlockThreshold < e.natAbs
    let finish := c.latestFrameStart.getD 0 + length
    let atOnce : Prop := c.cutoffTaken = false ∧ toNs (finish - p.cutoffLead) ≤ now
    c.moved p now tRef beat = { c with
      lock := if locks then .locked else if loses then .seeking else lock,
      lockCount := count,
      orphanCount := if locks then 0 else c.orphanCount,
      cutoffTaken := if atOnce then true else c.cutoffTaken,
      periodEnd :=
        if c.cutoffTaken = true then c.periodEnd
        else if atOnce then some (now / 1000 + p.cutoffLead)
        else some finish,
      baseLength := if c.cutoffTaken = true then length else c.baseLength,
      previous := some { tRef := tRef, beat := beat } } := by
  intro e lock before length count locks loses finish atOnce
  have corrects : lock = .seeking ∨ lock = .locked := by
    obtain known | known | known := known <;> simp [lock, known]
  unfold Cadence.moved Cadence.corrected
  rw [freeTest_of_corrects known enters stays]
  dsimp only
  rw [if_pos corrects, applyCorrection_eq, lockRule_eq]

theorem moved_reference (known : c.lock = .seeking ∨ c.lock = .locked ∨ c.lock = .free) :
    (c.moved p now tRef beat).reference = c.reference := by
  by_cases enters : c.freed p (beatDelta c tRef beat)
  · rw [moved_of_freed known enters]
  · by_cases stays : c.staysFree p (beatDelta c tRef beat)
    · rw [moved_of_staysFree stays]
    · rw [moved_of_corrects known enters stays]

end

/-- A LOCKED station that finds no lower number than its own eligible becomes REFERENCE (R74, R82). -/
theorem chooseReference_of_locked {own n : StationNo} {peers : List StationNo} {period : Nat} {c : Cadence}
    (lock : c.lock = .locked) (low : lowest peers = some n) (higher : own < n) :
    chooseReference own peers period c = toReference own period c := by
  unfold chooseReference
  rw [lock, low]
  exact if_neg (not_lt_of_gt higher)

/-- A SEEKING station takes the lowest eligible peer as its reference, with base length P where it had one and has none
left (R74). -/
theorem chooseReference_of_seeking {own : StationNo} {peers : List StationNo} {period : Nat} {c : Cadence}
    (h : c.lock = .seeking) :
    chooseReference own peers period c =
      if lowest peers = none ∧ c.reference ≠ none then { setReference (lowest peers) c with baseLength := period }
      else setReference (lowest peers) c := by
  rw [chooseReference, h]

/-- The choice of reference leaves the period in progress (R74). -/
theorem chooseReference_timer (own : StationNo) (peers : List StationNo) (period : Nat) (c : Cadence) :
    (chooseReference own peers period c).periodEnd = c.periodEnd ∧
      (chooseReference own peers period c).latestFrameStart = c.latestFrameStart := by
  unfold chooseReference toReference toSeeking setReference
  dsimp only
  (repeat' split) <;> exact ⟨rfl, rfl⟩

/-- Settles O33: the PULSE is taken as the state its delivery has reached takes it (`deliverPulse_stored`,
`takeReferencePulse_cu`), its phase error is folded (`foldError_spec`), and the tests on Δ part the three cases
(`moved_of_freed`, `moved_of_staysFree`, `moved_of_corrects`). -/
theorem referencePulse : Obligations.ReferencePulse := by
  unfold Obligations.ReferencePulse
  intro dt t0 sender p crc a s hears hcrc other normal full positive f state tag own stored peers w reference lock tRef
    period anchor delta freed stays timing
  have known : (AnnouncedState.ofCode (readPulse p).state).isNone = false := by rw [state]; rfl
  rw [exec_pulse_delivered hears hcrc other known]
  let u : State := s.receivedAt dt 82 t0 crc
  let z : State := u.pulseWeighed sender f a
  let t : State := lockTest u (u.pulseTaken sender f a t0)
  let moved : Cadence := w.moved s.profile (s.now + dt) tRef f.beat
  have delivered : deliverPulse sender p t0 u = t := deliverPulse_stored sender a t0 u normal tag state
  have peers_eq : z.eligiblePeers = peers := by
    have written : EntryWritten sender _ s stored := ⟨full, other, rfl, rfl⟩
    exact peersWith_set_congr (s := stored) (e := (s.pt.entry sender).pulsed s.profile.tMin f a) rfl
      (List.set_set ..).symm (written.entry_same.symm ▸ rfl)
  have w_eq : z.cu = w := by
    show (if z.eligiblePeers = s.eligiblePeers then s.cu else
      chooseReference own z.eligiblePeers s.profile.period s.cu) = w
    rw [peers_eq]
  have cu : t.cu = if moved.lock = w.lock then moved else chooseReference own peers s.profile.period moved := by
    have takes : z.cu.takesPulse sender = true := (takesPulse_iff ..).mpr (w_eq ▸ ⟨reference, lock⟩)
    have timed : t.cu = (takeReferencePulse tRef f.beat z).cu := by
      have handed : u.pulseTimed sender f a t0 = takeReferencePulse tRef f.beat z := if_pos takes
      have taken : t.cu = (u.pulseTimed sender f a t0).cu := lockTest_cu ..
      rw [taken, handed]
    rw [timed, takeReferencePulse_cu, w_eq, peers_eq]
    rfl
  have timer : w.cutoffTaken = s.cu.cutoffTaken ∧ w.periodEnd = s.cu.periodEnd ∧
      w.latestFrameStart = s.cu.latestFrameStart := by
    by_cases same : peers = s.eligiblePeers
    · rw [show w = s.cu from if_pos same]
      exact ⟨rfl, rfl, rfl⟩
    · rw [show w = _ from if_neg same]
      exact ⟨chooseReference_cutoffTaken .., chooseReference_timer ..⟩
  obtain ⟨taken, finish, begun⟩ := timer
  have anchored : w.anchor = anchor := by rw [Cadence.anchor, taken, finish, begun]
  obtain ⟨above, below, whole⟩ := foldError_spec positive ((w.anchor : Int) - tRef)
  refine ⟨t, phaseError s.profile.period w tRef, moved, congrArg _ delivered, above, below, anchored ▸ whole,
    fun enters => moved_of_freed lock enters, fun still => moved_of_staysFree still, fun enters still => ?_, cu,
    fun locked seeking low higher => ?_, fun seeking low => ?_⟩
  · have corrected := moved_of_corrects (p := s.profile) (now := s.now + dt) lock enters still
    rw [← taken, ← finish, ← begun]
    exact corrected
  · have leads : t.cu = toReference own s.profile.period moved := by
      rw [cu, if_neg (by rw [locked, seeking]; nofun), chooseReference_of_locked locked low higher]
    have another : moved.reference ≠ some own := by
      rw [moved_reference lock, reference]
      exact fun same => other (Option.some.inj same)
    rw [leads, toReference, setReference, if_neg another]
    exact ⟨rfl, rfl, rfl, rfl⟩
  · have kept : setReference (lowest peers) moved = moved := if_pos (by rw [moved_reference lock, reference, low])
    have chosen : chooseReference own peers s.profile.period moved = moved := by
      rw [chooseReference_of_seeking seeking, kept]
      exact if_neg (by simp [low])
    rw [cu, chosen]
    exact ite_self _

end Sys2Proof.Machine

/-! SUPPORT. The end of ISOLATED at a peer's first message, of any kind (R61, R81): the Cadence Unit leaves HOLD, and
the delivery is then that of a part whose table is NORMAL. -/

namespace Sys2Proof.Machine

/-! ### The end of ISOLATED (R61, R81) -/

/-- The Cadence Unit once it has left HOLD and chosen its reference among the eligible peers (R74, R81). -/
def Cadence.leftHold (period : Nat) (peers : List StationNo) (c : Cadence) : Cadence := { c with
  lock := .seeking, lockCount := 0, baseLength := period, reference := lowest peers,
  previous := if c.reference = lowest peers then c.previous else none,
  orphanCount := if c.reference = lowest peers ∨ peers = [] then c.orphanCount else 0 }

/-- The part once a peer has been heard in ISOLATED, before its message is acted on (R61, R81). -/
def State.isolationEnded (s : State) : State := { s with
  pt := { s.pt with condition := .normal, unheard := 0 }, cu := s.cu.leftHold s.profile.period s.eligiblePeers }

theorem lowest_eq_none_iff (l : List StationNo) : lowest l = none ↔ l = [] := by
  cases l with
  | nil => simp [lowest]
  | cons a l => unfold lowest; split <;> simp

theorem chooseReference_of_left_hold (own : StationNo) (peers : List StationNo) (period : Nat) (c : Cadence) :
    chooseReference own peers period { toSeeking c with baseLength := period } = c.leftHold period peers := by
  have chosen : setReference (lowest peers) { toSeeking c with baseLength := period } = c.leftHold period peers := by
    unfold setReference toSeeking Cadence.leftHold
    by_cases same : c.reference = lowest peers
    · simp [same]
    · by_cases alone : peers = []
      · simp_all [lowest]
      · have some_low : (lowest peers).isSome = true :=
          Option.isSome_iff_ne_none.mpr (mt (lowest_eq_none_iff peers).mp alone)
        simp [same, alone, some_low]
  rw [chooseReference_of_seeking rfl, chosen]
  exact ite_self _

theorem hearPeer_of_isolated {s : State} (isolated : s.pt.condition = .isolated) (hold : s.cu.lock = .hold) :
    hearPeer s = s.isolationEnded := by
  unfold hearPeer
  dsimp only
  rw [if_pos isolated, if_pos hold]
  exact congrArg (fun c : Cadence => { s with pt := { s.pt with condition := .normal, unheard := 0 }, cu := c })
    (chooseReference_of_left_hold ..)

/-! ### The lock state after a message (R74, R77, R81) -/

theorem setReference_lock (r : Option StationNo) (c : Cadence) : (setReference r c).lock = c.lock := by
  unfold setReference; split <;> rfl

/-- The choice of reference never leads into HOLD (R74, R81). -/
theorem chooseReference_ne_hold {own : StationNo} {peers : List StationNo} {period : Nat} {c : Cadence}
    (h : c.lock ≠ .hold) : (chooseReference own peers period c).lock ≠ .hold := by
  unfold chooseReference
  cases lock : c.lock with
  | hold => exact absurd lock h
  | idle => exact h
  | reference =>
    dsimp only
    (repeat' split) <;> simp [setReference_lock, toSeeking, lock]
  | seeking =>
    dsimp only
    split <;> simp [setReference_lock, lock]
  | locked =>
    dsimp only
    (repeat' split) <;> simp [setReference_lock, toReference, lock]
  | free =>
    dsimp only
    split <;> simp [setReference_lock, toSeeking, lock]

theorem moved_ne_hold {p : Profile} {now : Nat} {tRef : Int} {beat : BitVec 8} {c : Cadence}
    (known : c.lock = .seeking ∨ c.lock = .locked ∨ c.lock = .free) : (c.moved p now tRef beat).lock ≠ .hold := by
  have other : c.lock ≠ .hold := by obtain known | known | known := known <;> simp [known]
  by_cases enters : c.freed p (beatDelta c tRef beat)
  · rw [moved_of_freed known enters]
    nofun
  · by_cases stays : c.staysFree p (beatDelta c tRef beat)
    · rw [moved_of_staysFree stays]
      exact other
    · rw [moved_of_corrects known enters stays]
      have out {q : Prop} [Decidable q] {a b : LockState} (ha : a ≠ .hold) (hb : b ≠ .hold) :
          (if q then a else b) ≠ .hold := by split <;> assumption
      exact out nofun (out nofun (out nofun other))

theorem timed_ne_hold {n : StationNo} {ts : Int} {beat : BitVec 8} {s : State} (h : s.cu.lock ≠ .hold) :
    (s.timed n ts beat).cu.lock ≠ .hold := by
  unfold State.timed
  split
  · next takes =>
    have moved := moved_ne_hold (p := s.profile) (now := s.now) (tRef := ts) (beat := beat)
      ((takesPulse_iff n s.cu).mp takes).2
    rw [takeReferencePulse_cu]
    dsimp only
    split
    · exact moved
    · exact chooseReference_ne_hold moved
  · exact h

/-! ### What every part of a delivery keeps -/

/-- What each part of a delivery keeps, from `s` to `t`, of what its JOINING test reads, and of a table that has heard a
peer: it stays NORMAL, and the Cadence Unit out of HOLD. -/
structure KeepsHeard (s t : State) : Prop where
  sc : t.sc = s.sc
  promoted : t.we.promoted = s.we.promoted
  condition : t.pt.condition = s.pt.condition
  unheard : t.pt.unheard = s.pt.unheard
  lock : s.cu.lock ≠ .hold → t.cu.lock ≠ .hold

namespace KeepsHeard

theorem refl (s : State) : KeepsHeard s s := ⟨rfl, rfl, rfl, rfl, id⟩

theorem trans {s t u : State} (h : KeepsHeard s t) (k : KeepsHeard t u) : KeepsHeard s u where
  sc := k.sc.trans h.sc
  promoted := k.promoted.trans h.promoted
  condition := k.condition.trans h.condition
  unheard := k.unheard.trans h.unheard
  lock := k.lock ∘ h.lock

end KeepsHeard

theorem changeEntry_keepsHeard (n : StationNo) (e : PeerEntry) (s : State) : KeepsHeard s (changeEntry n e s) := by
  rw [changeEntry_eq]
  exact ⟨rfl, rfl, rfl, rfl, id⟩

theorem recomputeView_keepsHeard (s : State) : KeepsHeard s (recomputeView s) where
  sc := recomputeView_sc s
  promoted := (recomputeView_engine s).1
  condition := recomputeView_pt_condition s
  unheard := recomputeView_pt_unheard s
  lock h := by rw [recomputeView_cu]; exact h

theorem weighIfChanged_keepsHeard (b s : State) : KeepsHeard s (weighIfChanged b s) := by
  unfold weighIfChanged
  split
  · exact .refl s
  · exact ⟨rfl, rfl, rfl, rfl, chooseReference_ne_hold⟩

theorem actOnPulse_keepsHeard (n : StationNo) (f : PulseFields) (s : State) : KeepsHeard s (actOnPulse n f s) := by
  unfold actOnPulse mismatchPulse storePulse
  dsimp only
  split
  · split
    · exact changeEntry_keepsHeard ..
    · exact .refl s
  · split
    · exact changeEntry_keepsHeard ..
    · exact (changeEntry_keepsHeard ..).trans ⟨rfl, rfl, rfl, rfl, id⟩

theorem handPulseOn_keepsHeard (n : StationNo) (f : PulseFields) (t0 : Nat) (s : State) :
    KeepsHeard s (handPulseOn n f t0 s) := by
  by_cases tag : f.tag = s.sc.domeTag
  · have timed : KeepsHeard s (s.timed n (senderFrameStart t0 f.delay) f.beat) := by
      refine ⟨?_, ?_, ?_, ?_, timed_ne_hold⟩ <;> rw [timed_frame]
    rw [handPulseOn_stored tag]
    exact timed.trans ⟨rfl, rfl, rfl, rfl, id⟩
  · rw [handPulseOn, if_neg tag]
    exact .refl s

theorem actOnReady_keepsHeard (n : StationNo) (frame : FrameNo) (s : State) : KeepsHeard s (actOnReady n frame s) := by
  unfold actOnReady
  dsimp only
  split
  · exact .refl s
  · exact ⟨rfl, rfl, rfl, rfl, id⟩

theorem actOnLeave_keepsHeard (n : StationNo) (reason : BitVec 4) (s : State) :
    KeepsHeard s (actOnLeave n reason s) := by
  unfold actOnLeave
  dsimp only
  split
  · exact .refl s
  · exact changeEntry_keepsHeard ..

/-! ### A delivery in ISOLATED -/

/-- A message acted on, the view recomputed, the choice weighed and the timings handed on (R52), of a part that has
heard its sender. -/
def State.handedOn (act handOn : State → State) (s : State) : State :=
  handOn (weighIfChanged s (recomputeView (act s)))

section

variable {act handOn : State → State} (hact : ∀ u, KeepsHeard u (act u)) (hand : ∀ u, KeepsHeard u (handOn u))

include hact hand

theorem handedOn_keepsHeard (s : State) : KeepsHeard s (s.handedOn act handOn) :=
  (((hact s).trans (recomputeView_keepsHeard _)).trans (weighIfChanged_keepsHeard s _)).trans (hand _)

/-- A delivery to a part that has just heard a peer leaves it so, the Cadence Unit out of HOLD. -/
theorem deliverMessage_isolationEnded (s : State) :
    let t := deliverMessage act handOn s.isolationEnded
    t.pt.condition = .normal ∧ t.pt.unheard = 0 ∧ t.cu.lock ≠ .hold := by
  intro t
  have keeps := handedOn_keepsHeard hact hand s.isolationEnded
  have pt : t.pt = (s.isolationEnded.handedOn act handOn).pt := lockTest_pt ..
  have cu : t.cu = (s.isolationEnded.handedOn act handOn).cu := lockTest_cu ..
  rw [pt, cu]
  exact ⟨keeps.condition, keeps.unheard, keeps.lock nofun⟩

/-- The first message of a peer ends ISOLATED and is then delivered as to a part that had not been ISOLATED: the JOINING
test that the end of HOLD adds finds nothing, since a transition it could make has been made before (R3, R61). -/
theorem deliverMessage_isolated {s : State} (isolated : s.pt.condition = .isolated) (hold : s.cu.lock = .hold)
    (transitions : TransitionsMade s) :
    deliverMessage act handOn s = deliverMessage act handOn s.isolationEnded := by
  let y : State := s.isolationEnded.handedOn act handOn
  obtain ⟨sc, promoted, -, -, lock⟩ : KeepsHeard s.isolationEnded y := handedOn_keepsHeard hact hand s.isolationEnded
  have heard : deliverMessage act handOn s = lockTest s y := by
    rw [deliverMessage, hearPeer_of_isolated isolated hold]
    rfl
  have ended : deliverMessage act handOn s.isolationEnded = lockTest s.isolationEnded y := rfl
  have tested : lockTest s y = joiningTest y := if_neg fun same => lock nofun (same.symm.trans hold)
  rw [heard, ended, tested, lockTest]
  split
  · next same =>
    have waived (t : State) (l : t.cu.lock = .hold ∨ t.cu.lock = .seeking) : t.lockMet = t.sc.lockWaived := by
      obtain l | l := l <;> simp [State.lockMet, l]
    refine if_neg fun ⟨joining, met, table⟩ => transitions (sc ▸ joining) ⟨?_, promoted ▸ table⟩
    rw [waived y (.inr same.symm), sc] at met
    rw [waived s (.inl hold)]
    exact met
  · rfl

end

/-- A LEAVE changes the entries and PEER, and leaves the choice of reference as it stands (R56, R67, R74). -/
theorem actOnLeave_acted_peers (n : StationNo) (reason : BitVec 4) (s : State) :
    ∃ entries port, actOnLeave n reason (s.acted s.pt.entries s.svp) = s.acted entries port ∧
      port.causes = { s.svp.causes with peer := port.causes.peer } ∧
      (s.acted entries port).eligiblePeers = s.eligiblePeers := by
  by_cases mismatch : (s.pt.entry n).status = .mismatch
  · exact ⟨_, _, if_pos mismatch, rfl, rfl⟩
  · exact ⟨_, _, actOnLeave_acted mismatch, rfl, peersWith_set_congr rfl rfl (PeerEntry.left_eligible ..)⟩

/-- Settles O37: each kind is delivered as to the part that has left ISOLATED (`deliverMessage_isolated`), where a
READY is stored (`readyStored`) and a LEAVE leaves the cadence (`actOnLeave_acted_peers`). -/
theorem isolationEnds : Obligations.IsolationEnds := by
  unfold Obligations.IsolationEnds
  intro dt t0 sender crc s other isolated hold follows transitions ended
  have same (length : Nat) {act handOn : State → State} (hact : ∀ u, KeepsHeard u (act u))
      (hand : ∀ u, KeepsHeard u (handOn u)) :
      deliverMessage act handOn (s.receivedAt dt length t0 crc) =
        deliverMessage act handOn (ended.receivedAt dt length t0 crc) :=
    deliverMessage_isolated (s := s.receivedAt dt length t0 crc) hact hand isolated hold transitions
  refine ⟨fun p hears hcrc state => ?_, fun p hears hcrc => ?_, fun p hears hcrc => ?_⟩
  · have known := isNone_ofCode state
    have act := actOnPulse_keepsHeard sender (readPulse p)
    have hand := handPulseOn_keepsHeard sender (readPulse p) t0
    have delivered := same 82 act hand
    have stays := deliverMessage_isolationEnded act hand (s.receivedAt dt 82 t0 crc)
    rw [exec_pulse_delivered hears hcrc other known, exec_pulse_delivered (s := ended) hears hcrc other known]
    exact ⟨congrArg _ delivered, _, congrArg _ delivered, stays⟩
  · have delivered := same 34 (handOn := id) (actOnReady_keepsHeard sender p) KeepsHeard.refl
    have stored := readyStored dt t0 sender p crc ended hears hcrc other rfl follows
    rw [exec_ready_delivered (s := ended) hears hcrc other] at stored
    rw [exec_ready_delivered hears hcrc other, delivered]
    exact stored
  · have delivered := same 26 (handOn := id) (actOnLeave_keepsHeard sender (p.extractLsb' 4 4)) KeepsHeard.refl
    rw [exec_leave_delivered hears hcrc other, exec_leave_delivered (s := ended) hears hcrc other, delivered]
    obtain ⟨entries, port, act, causes, peers⟩ :=
      actOnLeave_acted_peers sender (p.extractLsb' 4 4) (ended.receivedAt dt 26 t0 crc)
    rw [deliverMessage_of_same_peers rfl act peers]
    refine ⟨rfl, _, rfl, ?_, rfl, causes⟩
    rw [weighed_of_same_peers peers]
    rfl

end Sys2Proof.Machine

/-! SUPPORT. Two consequences of an own frame start (R57, R59): what the order of the blocks carries to the PULSE and
to the output frame, a peer that becomes SILENT, and the table that becomes ISOLATED. -/

namespace Sys2Proof.Machine

/-! ### The order of the blocks at a frame start (R47, R120) -/

/-- A requested PULSE depends on the Cadence Unit, the station, the lamp, the engine and the slots alone (R47). -/
theorem pulseRequestOf_congr {s t : State} (cu : t.cu = s.cu) (sc : t.sc = s.sc) (ls : t.ls = s.ls) (we : t.we = s.we)
    (slots : t.fs.slots = s.fs.slots) : pulseRequestOf t = pulseRequestOf s := by
  simp only [pulseRequestOf, announcedCode, State.ownEntry, cu, sc, ls, we, slots]

section

variable (order : SameInstant) (before after : State)

/-- The order of the blocks touches the PULSE, the output frame and the reader alone (R47, R120). -/
theorem applyOrder_rest :
    applyOrder order before after = { after with
      slc := (applyOrder order before after).slc, wbp := (applyOrder order before after).wbp,
      fs := (applyOrder order before after).fs } := by
  apply State.ext <;> simp

theorem applyOrder_fs :
    (applyOrder order before after).fs = { after.fs with
      sequence := (applyOrder order before after).fs.sequence, prefetch := (applyOrder order before after).fs.prefetch,
      arb := (applyOrder order before after).fs.arb } := by
  apply FrameStore.ext <;> simp

/-- A PULSE still queued from this frame start is requested afresh where the PULSE is taken after the change (R47). -/
theorem applyOrder_slc :
    (applyOrder order before after).slc = { after.slc with queue := { after.slc.queue with
      pulse := if order.pulseAfter = true then
          after.slc.queue.pulse.map fun m =>
            if m.msg.frameStart = after.cu.latestFrameStart.getD 0 then { m with msg := pulseRequestOf after } else m
        else after.slc.queue.pulse } } := by
  have begun (t : State) (c : Prop) [Decidable c] : (if c then beginOutputFrame t else t).slc = t.slc := by
    split <;> simp
  unfold applyOrder
  rw [begun]
  split <;> rfl

/-- The output frame begins over, where the station has moved into SHOWING and the output is taken after it (R120). -/
abbrev BeginsOver : Prop := order.outputAfter = true ∧ before.sc.state ≠ .showing ∧ after.sc.state = .showing

end

section

variable {order : SameInstant} {before after : State}

theorem applyOrder_of_not_beginsOver (h : ¬BeginsOver order before after) :
    (applyOrder order before after).wbp = after.wbp ∧ (applyOrder order before after).fs = after.fs := by
  unfold applyOrder
  rw [if_neg h]
  split <;> exact ⟨rfl, rfl⟩

theorem applyOrder_of_beginsOver (h : BeginsOver order before after) :
    (applyOrder order before after).wbp.mode = .picture ∧
      (applyOrder order before after).wbp.frameSlot = shownSlot after.fs.slots ∧
      (applyOrder order before after).wbp.position = some (0, 0) := by
  have showing (t : State) (ht : t.sc.state = .showing) :
      (beginOutputFrame t).wbp.mode = .picture ∧ (beginOutputFrame t).wbp.frameSlot = shownSlot t.fs.slots ∧
        (beginOutputFrame t).wbp.position = some (0, 0) := by
    rw [beginOutputFrame_frame, ht]
    exact ⟨rfl, rfl, rfl⟩
  unfold applyOrder
  rw [if_pos h]
  split <;> exact showing _ h.2.2

/-- A consequence of a frame start that moves at most the station state, its output turned BLACK as that asks, is
carried to the PULSE and the output frame by the order of the blocks (R47, R120). -/
theorem applyOrder_carried (slc : after.slc = before.slc)
    (begun : after.cu.latestFrameStart = before.cu.latestFrameStart) (turns : TurnsBlack before after) :
    CarriedByOrder order before (applyOrder order before after) := by
  obtain ⟨wbp, fs⟩ := turns
  have afresh : pulseRequestOf (applyOrder order before after) = pulseRequestOf after :=
    pulseRequestOf_congr (by simp) (by simp) (by simp) (by simp) (by simp)
  have frame : after.fs = { before.fs with
      sequence := after.fs.sequence, prefetch := after.fs.prefetch, arb := after.fs.arb } := by
    rw [fs]; split <;> rfl
  have kept (starts : ¬BeginsOver order before after)
      (stays : after.sc.state = before.sc.state ∨ after.sc.state = .showing) :
      (applyOrder order before after).wbp = before.wbp ∧ (applyOrder order before after).fs = before.fs := by
    obtain ⟨wbp_kept, fs_kept⟩ := applyOrder_of_not_beginsOver starts
    rw [wbp_kept, fs_kept, wbp, fs]
    obtain same | showing := stays
    · simp [same]
    · simp [showing]
  unfold CarriedByOrder
  rw [applyOrder_sc, afresh]
  refine ⟨?_, fun same => kept (fun starts => starts.2.1 (same ▸ starts.2.2)) (.inl same),
    fun first showing => kept (fun starts => absurd starts.1 (by simp [first])) (.inr showing),
    fun last hidden showing => ?_, ?_⟩
  · rw [applyOrder_slc, slc, begun]
  · obtain ⟨mode, slot, position⟩ := applyOrder_of_beginsOver (order := order) ⟨last, hidden, showing⟩
    exact ⟨mode, by rw [slot, frame], position⟩
  · rw [applyOrder_fs, frame]

end

/-! ### ISOLATED (R59, R81) -/

/-- The part as the table enters ISOLATED: FAULT raised, the Cadence Unit in HOLD with its last period (R59, R81). -/
def State.isolatedAt (s : State) : State := { s with
  pt := { s.pt with condition := .isolated }, cu := toHold s.profile.period s.cu,
  svp := { s.svp with causes := { s.svp.causes with fault := true } } }

/-- A station that enters HOLD makes no transition that it could not have made before (R3, R10). -/
theorem lockTest_isolatedAt {s : State} (transitions : TransitionsMade s) :
    lockTest s s.isolatedAt = s.isolatedAt := by
  unfold lockTest
  split
  · rfl
  · refine if_neg fun ⟨joining, met, table⟩ => transitions joining ⟨?_, table⟩
    have waived : s.sc.lockWaived = true := met
    simp [State.lockMet, waived]

theorem exec_isolated_due {dt f : Nat} {order : SameInstant} {s : State} (live : s.rstnLow = false)
    (running : s.running = true) (begun : s.cu.latestFrameStart = some f) (now : s.now + dt = toNs f)
    (normal : s.pt.condition = .normal) (unheard : s.pt.unheard = s.profile.silenceLimit)
    (heard : s.somePeerHeard = true) :
    exec (.isolated dt order) s = .next (takeIsolated order (s.advance dt)) := by
  have running : (s.advance dt).running = true := running
  have heard : (s.advance dt).somePeerHeard = true := heard
  have limit : (s.advance dt).profile = s.profile := rfl
  have due : (s.advance dt).isolatedDue = true := by
    simp [State.isolatedDue, State.atFrameStart, running, heard, begun, now, normal, unheard, limit]
  exact eventWhen_due dt s _ _ live due

/-- Settles O21: the table, the cadence and FAULT (`State.isolatedAt`), of which the JOINING test makes nothing
(`lockTest_isolatedAt`), and the PULSE by the order of the blocks (`applyOrder_carried`). -/
theorem isolatedTaken : Obligations.IsolatedTaken := by
  unfold Obligations.IsolatedTaken
  intro dt f order s live running begun now normal unheard heard transitions
  rw [exec_isolated_due live running begun now normal unheard heard]
  let u : State := s.advance dt
  let x : State := u.isolatedAt
  have taken : takeIsolated order u = applyOrder order u x :=
    congrArg (applyOrder order u) (lockTest_isolatedAt (s := u) transitions)
  have carried : CarriedByOrder order u (applyOrder order u x) :=
    applyOrder_carried rfl rfl (by simp [TurnsBlack, x, State.isolatedAt])
  have same : (applyOrder order u x).sc.state = u.sc.state := congrArg Station.state (applyOrder_sc ..)
  obtain ⟨wbp, fs⟩ := carried.2.1 same
  refine ⟨_, congrArg _ taken, ?_, ?_, ?_, carried, ?_⟩
  · rw [applyOrder_pt]; rfl
  · rw [applyOrder_cu]
    have base : s.cu.lastPeriod.getD s.profile.period = match s.cu.lastPeriod with
        | some n => n
        | none => s.profile.period := by cases s.cu.lastPeriod <;> rfl
    exact congrArg (fun n : Nat => ({ s.cu with
      lock := .hold, lockCount := 0, previous := none, orphanCount := 0, baseLength := n } : Cadence)) base
  · rw [applyOrder_svp]; rfl
  · rw [applyOrder_pt, applyOrder_cu, applyOrder_svp]
    conv_lhs => rw [applyOrder_rest, wbp, fs]
    rfl

end Sys2Proof.Machine

/-! SUPPORT. A peer that becomes SILENT (R57): its entry, the view and the choice of reference without it. -/

namespace Sys2Proof.Machine

/-! ### The view and the choice of reference at a frame start (R57, R63, R74) -/

/-- The part with another unheard count. -/
def State.unheardFor (n : Nat) (s : State) : State := { s with pt := { s.pt with unheard := n } }

/-- The view has been recomputed and a change of eligibility weighed, no message having been heard (R63, R65, R74). -/
def State.reweighed (entries : List PeerEntry) (port : ServicePort) (s : State) : State :=
  (s.weighed entries port).unheardFor s.pt.unheard

theorem engineViewChange_unheardFor (n : Nat) (s : State) :
    engineViewChange (s.unheardFor n) = (engineViewChange s).unheardFor n := by
  have engine : (s.unheardFor n).we = s.we := rfl
  have now : (s.unheardFor n).now = s.now := rfl
  unfold engineViewChange
  rw [engine, now, apply_ite (State.unheardFor n), apply_ite (State.unheardFor n)]
  rfl

theorem recomputeView_changed {s : State} (h : s.formedView s.pt.view.serial ≠ s.pt.view) :
    recomputeView s =
      engineViewChange { s with pt := { s.pt with view := s.formedView (s.pt.view.serial + 1) } } := if_neg h

/-- The view follows from the entries whatever the unheard count is (R62, R63). -/
theorem recomputeView_unheardFor (n : Nat) (s : State) :
    recomputeView (s.unheardFor n) = (recomputeView s).unheardFor n := by
  by_cases same : s.formedView s.pt.view.serial = s.pt.view
  · rw [recomputeView_same s same]
    exact recomputeView_same (s.unheardFor n) same
  · have changed : (s.unheardFor n).formedView (s.unheardFor n).pt.view.serial ≠ (s.unheardFor n).pt.view := same
    rw [recomputeView_changed same, recomputeView_changed changed, ← engineViewChange_unheardFor]
    rfl

theorem weighIfChanged_recomputeView (entries : List PeerEntry) (port : ServicePort) (s : State) :
    weighIfChanged s (recomputeView { s with pt := { s.pt with entries := entries }, svp := port }) =
      s.reweighed entries port := by
  have viewed : recomputeView { s with pt := { s.pt with entries := entries }, svp := port } =
      (recomputeView (s.acted entries port)).unheardFor s.pt.unheard :=
    recomputeView_unheardFor s.pt.unheard (s.acted entries port)
  have frame := recomputeView_frame (s.acted entries port)
  rw [viewed]
  unfold State.reweighed State.weighed weighIfChanged weighReference
  dsimp only
  generalize recomputeView (s.acted entries port) = v at frame ⊢
  generalize v.pt.view = view, v.we = we at frame ⊢
  subst frame
  by_cases same : (s.acted entries port).eligiblePeers = s.eligiblePeers
  · rw [if_pos ⟨same.symm, rfl⟩, if_pos same]
    rfl
  · rw [if_neg fun h => same h.1.symm, if_neg same]
    rfl

/-- An entry that is eligible no more leaves the choice of reference, which is weighed where it was eligible (R65,
R74). -/
theorem weighed_cu_of_ineligible {n : StationNo} {e : PeerEntry} {entries : List PeerEntry} {port : ServicePort}
    {s : State} (written : EntryWritten n e s (s.acted entries port)) (ineligible : e.eligible = false) :
    (s.weighed entries port).cu =
      if (s.pt.entry n).eligible = true then
        chooseReference s.profile.station (s.eligiblePeers.filter fun m => m != n) s.profile.period s.cu
      else s.cu := by
  by_cases eligible : (s.pt.entry n).eligible = true
  · have without : (s.acted entries port).eligiblePeers = s.eligiblePeers.filter fun m => m != n :=
      written.peersWith_without ineligible
    have differ : (s.acted entries port).eligiblePeers ≠ s.eligiblePeers := fun same => by
      have listed : n ∈ s.eligiblePeers := written.mem_peersWith.mpr eligible
      rw [← same, without] at listed
      simp at listed
    rw [if_pos eligible, ← without]
    exact if_neg differ
  · have same : (s.acted entries port).eligiblePeers = s.eligiblePeers :=
      written.peersWith_same (ineligible.trans (Bool.eq_false_of_not_eq_true eligible).symm)
    rw [if_neg eligible]
    exact if_pos same

/-- A LIVE entry that is LIVE no more changes the formed view (R62). -/
theorem EntryWritten.formedView_ne {n : StationNo} {e : PeerEntry} {s t : State} (h : EntryWritten n e s t)
    (follows : s.pt.view = s.formedView s.pt.view.serial) (live : (s.pt.entry n).status = .live)
    (after : e.status ≠ .live) (serial : BitVec 8) : t.formedView serial ≠ s.pt.view := by
  intro same
  have listed : n ∈ s.alive := h.mem_peersWith.mpr (by simp [live])
  have alive_same : t.alive = s.alive := (congrArg View.alive same).trans (congrArg View.alive follows)
  have without : t.alive = s.alive.filter fun m => m != n := h.peersWith_without (by simp [after])
  rw [← alive_same, without] at listed
  simp at listed

/-! ### SILENT (R57) -/

/-- The entry of a peer that has become SILENT (R57). -/
def PeerEntry.silenced (e : PeerEntry) : PeerEntry := { e with status := .silent }

theorem exec_silent_due {dt f : Nat} {peer : StationNo} {order : SameInstant} {s : State} (live : s.rstnLow = false)
    (running : s.running = true) (begun : s.cu.latestFrameStart = some f) (now : s.now + dt = toNs f)
    (normal : s.pt.condition = .normal) (other : peer ≠ s.profile.station)
    (heard : (s.pt.entry peer).status.heard = true) (silence : (s.pt.entry peer).silence = s.profile.silenceLimit) :
    exec (.silent dt peer order) s = .next (takeSilent peer order (s.advance dt)) := by
  have running : (s.advance dt).running = true := running
  have profile : (s.advance dt).profile = s.profile := rfl
  have due : (s.advance dt).silentDue peer = true := by
    simp [State.silentDue, State.atFrameStart, running, heard, begun, now, normal, other, silence, profile]
  exact eventWhen_due dt s _ _ live due

/-- A peer that becomes SILENT, its entry and PEER written, in the order of its consequences (R57, R63, R65, R67,
R83). -/
theorem takeSilent_eq (peer : StationNo) (order : SameInstant) (s : State) :
    takeSilent peer order s = applyOrder order s (lockTest s (s.reweighed
      (s.pt.entries.set peer.val (s.pt.entry peer).silenced)
      (s.svp.followingLive (s.mt.neighbours.contains peer) ((s.pt.entry peer).status == .live) false))) := by
  rw [takeSilent, changeEntry_eq, ← weighIfChanged_recomputeView]
  rfl

/-- Settles O20: the entry written and the order of the blocks (`takeSilent_eq`, `applyOrder_carried`), the view and
the engine as they follow from it, the choice of reference without the peer (`weighed_cu_of_ineligible`), and the
JOINING test (`lockTest_sc`). -/
theorem silentTaken : Obligations.SilentTaken := by
  unfold Obligations.SilentTaken
  intro dt f peer order s live running begun now normal other heard silence full follows
  rw [exec_silent_due live running begun now normal other heard silence]
  let u : State := s.advance dt
  let before : PeerEntry := s.pt.entry peer
  let entries : List PeerEntry := s.pt.entries.set peer.val before.silenced
  let port : ServicePort := s.svp.followingLive (s.mt.neighbours.contains peer) (before.status == .live) false
  let w : State := u.weighed entries port
  let x : State := u.reweighed entries port
  let t : State := applyOrder order u (lockTest u x)
  have taken : takeSilent peer order u = t := takeSilent_eq peer order u
  have acted : EntryWritten peer before.silenced u (u.acted entries port) := ⟨full, other, rfl, rfl⟩
  have view : s.pt.view = u.formedView s.pt.view.serial := follows.1 running
  have silent : before.silenced.status ≠ .live := nofun
  have t_pt : t.pt = x.pt := by rw [applyOrder_pt, lockTest_pt]
  have t_we : t.we = w.we := by rw [applyOrder_we, lockTest_we]; rfl
  have t_cu : t.cu = w.cu := by rw [applyOrder_cu, lockTest_cu]; rfl
  have t_sc : t.sc = (lockTest u x).sc := applyOrder_sc ..
  have t_ls : t.ls = s.ls := by rw [applyOrder_ls, lockTest_ls]; rfl
  have t_now : t.now = s.now + dt := by rw [applyOrder_now, lockTest_now]; rfl
  have profile : t.profile = s.profile := by rw [State.profile, t_sc, lockTest_sc_profile]; rfl
  have kLocal : w.we.kLocal = s.we.kLocal := (weighed_engine entries port u).2
  have promoted : w.we.promoted = s.we.promoted := (weighed_engine entries port u).1
  have written : EntryWritten peer before.silenced s t :=
    ⟨full, other, congrArg Profile.station profile, by rw [t_pt]; rfl⟩
  have cu : w.cu = _ := weighed_cu_of_ineligible acted rfl
  refine ⟨t, congrArg _ taken, ?_, written.entry_same, written.peersWith_without (by simp [silent]), fun quiet => ?_,
    fun was_live => ?_, ?_, t_cu.trans cu, ?_, ?_, ?_⟩
  · rw [t_pt]; rfl
  · have formed : (u.acted entries port).formedView s.pt.view.serial = s.pt.view := by
      rw [acted.formedView_same rfl rfl quiet silent, ← view]
    obtain ⟨sameView, sameEngine⟩ := weighed_of_same_view (s := u) formed
    exact ⟨(congrArg PeerTable.view t_pt).trans sameView, t_we.trans sameEngine⟩
  · have formed : w.pt.view = _ := weighed_view entries port u (t := t) (by rw [t_pt]; rfl)
      (congrArg Profile.station profile) (congrArg Lamp.lAnn t_ls) (by rw [t_we]; exact kLocal)
    have changed : t.formedView s.pt.view.serial ≠ s.pt.view := written.formedView_ne view was_live silent _
    refine ⟨(congrArg PeerTable.view t_pt).trans (formed.trans (if_neg changed)), ?_⟩
    have told := weighed_told entries port u
    unfold ViewTold at told ⊢
    rw [t_we, t_pt, t_now]
    exact told
  · have follows_live : port = { s.svp with causes := { s.svp.causes with
        peer := s.svp.causes.peer || ((before.status == .live) && s.mt.neighbours.contains peer) } } := by
      simp only [port, ServicePort.followingLive, Bool.bne_false]
    have x_svp : x.svp = port := rfl
    rw [applyOrder_svp, lockTest_svp, t_sc, x_svp, follows_live]
    rfl
  · have lockMet : t.lockMet = x.lockMet := by
      rw [State.lockMet, t_cu, t_sc, lockTest_sc_lockWaived]; rfl
    rw [lockMet, t_cu, ← promoted, t_sc]
    exact lockTest_sc u x
  · have timer : w.cu.latestFrameStart = s.cu.latestFrameStart := by
      rw [cu]
      split
      · exact (chooseReference_timer ..).2
      · rfl
    exact applyOrder_carried (lockTest_slc u x) ((congrArg Cadence.latestFrameStart (lockTest_cu u x)).trans timer)
      (lockTest_turnsBlack u x)
  · have ordered : t = { lockTest u x with slc := t.slc, wbp := t.wbp, fs := t.fs } := applyOrder_rest ..
    have t_svp : t.svp = (lockTest u x).svp := applyOrder_svp ..
    rw [t_pt, t_we, t_svp, t_cu, t_sc]
    refine ordered.trans ?_
    conv_lhs => rw [lockTest_rest]
    rfl

end Sys2Proof.Machine

/-! SUPPORT. The cold-start test and the orphan test (R75, R76): who rivals a station, and a station that becomes
REFERENCE. -/

namespace Sys2Proof.Machine

/-! ### Rivals (R75, R76) -/

/-- Some peer of a test has a lower number than the own one. -/
abbrev State.rivalled (s : State) (test : PeerEntry → Bool) : Prop :=
  ∃ n, n ≠ s.profile.station ∧ test (s.pt.entry n) = true ∧ n < s.profile.station

theorem lowestAmong_peersWith_iff (s : State) (test : PeerEntry → Bool) :
    s.lowestAmong (s.peersWith test) = true ↔ ¬s.rivalled test := by
  simp only [State.lowestAmong, State.peersWith, List.all_eq_true, List.mem_filter, List.mem_finRange, true_and,
    Bool.and_eq_true, bne_iff_ne, decide_eq_true_eq, State.rivalled, not_exists, not_and, and_imp]
  exact forall_congr' fun n => forall_congr' fun other => forall_congr' fun _ =>
    ⟨fun higher => not_lt.mpr higher.le, fun below => lt_of_le_of_ne (not_lt.mp below) (Ne.symm other)⟩

theorem leaderless_iff (s : State) :
    s.leaderless = true ↔ s.cu.lock = .seeking ∧ s.cu.reference = none ∧ s.eligiblePeers = [] := by
  simp [State.leaderless, and_assoc]

/-- A station does not take the lead: it is not SEEKING, has or may choose a reference, or has a rival (R75, R76). -/
abbrev State.staysSeeking (s : State) (test : PeerEntry → Bool) : Prop :=
  s.cu.lock ≠ .seeking ∨ s.cu.reference ≠ none ∨ s.eligiblePeers ≠ [] ∨ s.rivalled test

theorem leads_iff (s : State) (test : PeerEntry → Bool) :
    (s.leaderless && s.lowestAmong (s.peersWith test)) = true ↔ ¬s.staysSeeking test := by
  rw [Bool.and_eq_true, leaderless_iff, lowestAmong_peersWith_iff]
  simp only [State.staysSeeking, not_or, ne_eq, not_not, and_assoc]

/-! ### Becoming REFERENCE (R82, R83) -/

/-- From `s` to `t` the station becomes REFERENCE, its lock count as it stood, makes its JOINING test, and carries the
state to the PULSE and the output frame by the order of the blocks. -/
structure TakesLead (order : SameInstant) (s t : State) : Prop where
  cu : t.cu = { s.cu with
    lock := .reference, reference := some s.profile.station, baseLength := s.profile.period, previous := none,
    orphanCount := 0 }
  sc : t.sc = { s.sc with
    state :=
      if s.sc.state = .joining ∧ s.we.promoted = true then
        (if s.profile.tMin ≤ s.ls.lAnn then .showing else .dark)
      else s.sc.state,
    leftJoining := if t.sc.state = s.sc.state then s.sc.leftJoining else some s.now }
  svp : t.svp = { s.svp with causes := { s.svp.causes with
    state := s.svp.causes.state || t.sc.state != s.sc.state } }
  carried : CarriedByOrder order s t
  rest : t = { s with cu := t.cu, sc := t.sc, svp := t.svp, slc := t.slc, wbp := t.wbp, fs := t.fs }

theorem toReference_of_no_reference {c : Cadence} (h : c.reference = none) (own : StationNo) (period : Nat) :
    toReference own period c = { c with
      lock := .reference, reference := some own, baseLength := period, previous := none, orphanCount := 0 } := by
  simp [toReference, setReference, h]

/-- A station without a reference becomes REFERENCE (R75, R76, R82, R83). -/
theorem becomeReference_takesLead (order : SameInstant) {s : State} (seeking : s.cu.lock = .seeking)
    (unled : s.cu.reference = none) : TakesLead order s (becomeReference order s) := by
  let x : State := s.modCu (toReference s.profile.station s.profile.period)
  have taken : becomeReference order s = applyOrder order s (lockTest s x) := rfl
  have cu : x.cu = _ := toReference_of_no_reference unled s.profile.station s.profile.period
  have moved : x.cu.lock ≠ s.cu.lock := by rw [cu, seeking]; nofun
  have lockMet : x.lockMet = true := by simp [State.lockMet, cu]
  have sc := lockTest_sc s x
  simp only [moved, lockMet, ne_eq, not_false_eq_true, true_and] at sc
  have timer : x.cu.latestFrameStart = s.cu.latestFrameStart := by rw [cu]
  rw [taken]
  constructor
  case cu => rw [applyOrder_cu, lockTest_cu, cu]
  case sc => rw [applyOrder_sc]; exact sc
  case svp => rw [applyOrder_svp, applyOrder_sc]; exact lockTest_svp s x
  case carried =>
    exact applyOrder_carried (lockTest_slc s x) ((congrArg Cadence.latestFrameStart (lockTest_cu s x)).trans timer)
      (lockTest_turnsBlack s x)
  case rest => apply State.ext <;> simp [x]

/-! ### The tests where they are due (R75, R76) -/

section

variable {dt f : Nat} {order : SameInstant} {s : State}

/-- An own frame start of a running station is recognised at its instant. -/
theorem atFrameStart_running (running : s.running = true) (begun : s.cu.latestFrameStart = some f)
    (now : s.now + dt = toNs f) : ((s.advance dt).atFrameStart && (s.advance dt).running) = true := by
  have running : (s.advance dt).running = true := running
  simp [State.atFrameStart, running, begun, now]

theorem exec_coldStartTest_due (live : s.rstnLow = false) (running : s.running = true)
    (begun : s.cu.latestFrameStart = some f) (now : s.now + dt = toNs f) (fourth : s.cu.windowCount = 4) :
    exec (.coldStartTest dt order) s = .next (takeColdStartTest order (s.advance dt)) := by
  have due : (s.advance dt).coldStartDue = true := by
    rw [State.coldStartDue, atFrameStart_running running begun now]
    simp [fourth, Config.joinWindowFrames]
  exact eventWhen_due dt s _ _ live due

theorem exec_orphanTest_due (live : s.rstnLow = false) (running : s.running = true)
    (begun : s.cu.latestFrameStart = some f) (now : s.now + dt = toNs f) (orphaned : s.cu.orphanCount = 4) :
    exec (.orphanTest dt order) s = .next (takeOrphanTest order (s.advance dt)) := by
  have due : (s.advance dt).orphanDue = true := by
    rw [State.orphanDue, atFrameStart_running running begun now]
    simp [orphaned, Config.lockFrames]
  exact eventWhen_due dt s _ _ live due

end

/-- Either test makes the station REFERENCE, or leaves the part as it is. -/
theorem leaderlessTest_cases (order : SameInstant) (s : State) (test : PeerEntry → Bool) :
    let t := if (s.leaderless && s.lowestAmong (s.peersWith test)) = true then becomeReference order s else s
    (s.staysSeeking test → t = s) ∧ (¬s.staysSeeking test → TakesLead order s t) := by
  refine ⟨fun stays => if_neg fun leads => (leads_iff s test).mp leads stays, fun leads => ?_⟩
  have taken := (leads_iff s test).mpr leads
  obtain ⟨seeking, unled, -⟩ := (leaderless_iff s).mp (Bool.and_eq_true_iff.mp taken).1
  rw [if_pos taken]
  exact becomeReference_takesLead order seeking unled

/-- Settles O22: each test where it is due, its condition as the tests name it (`leads_iff`), and the station that
becomes REFERENCE (`becomeReference_takesLead`). -/
theorem leaderlessTests : Obligations.LeaderlessTests := by
  unfold Obligations.LeaderlessTests
  intro dt f order s live running begun now rivals stays leads
  have taken {t : State} (h : TakesLead order (s.advance dt) t) : leads t := ⟨h.cu, h.sc, h.svp, h.carried, h.rest⟩
  refine ⟨fun fourth => ?_, fun orphaned => ?_⟩
  · rw [exec_coldStartTest_due live running begun now fourth]
    obtain ⟨same, lead⟩ := leaderlessTest_cases order (s.advance dt) fun e => e.status == .joining
    exact ⟨fun h => congrArg _ (same h), fun h => ⟨_, rfl, taken (lead h)⟩⟩
  · rw [exec_orphanTest_due live running begun now orphaned]
    obtain ⟨same, lead⟩ := leaderlessTest_cases order (s.advance dt) fun e => e.status.heard
    exact ⟨fun h => congrArg _ (same h), fun h => ⟨_, rfl, taken (lead h)⟩⟩

end Sys2Proof.Machine

/-! SUPPORT. An own frame start (R70, R73): the timer and the enactment, the counts of a running state, and the PULSE it
requests (R47). -/

namespace Sys2Proof.Machine

/-! ### The parts of a frame start (R70, R71, R73) -/

/-- An instant of whole microseconds is its own. -/
theorem micros_toNs (us : Nat) : micros (toNs us) = us := by simp [micros, toNs, Config.nsPerMicro]

/-- The part with the timer set for the next period, the decision record enacted and the marks latched (R70, R92, R93,
R165). -/
def State.periodBegun (s : State) : State :=
  (enactDecision (s.modCu (timerFrameStart s.profile.period (micros s.now)))).modFs latchMarks

/-- The part with the counts of a frame start in a running state advanced (R11, R57, R58, R73, R76, R138). -/
def State.frameCounted (s : State) : State :=
  ((silenceTick (s.modCu frameCounts)).modLs (lampFrameStart s.now)).modSc joinTick

/-- The part with a pending table promoted and the JOINING test made (R10, R110), before or after its output frame
begins. -/
def State.frameTested (order : SameInstant) (s : State) : State :=
  joiningTest (promote (if order.outputAfter = true then s.frameCounted else beginOutputFrame s.frameCounted))

/-- The part as the PULSE of a frame start announces it, by the order of the blocks (R47). -/
def State.announcing (order : SameInstant) (s : State) : State :=
  if order.pulseAfter = true then s.frameTested order else s.frameCounted

/-- A frame start in a running state: the PULSE is requested of the announced part, and the output frame begins where it
has not begun (R47, R119). -/
theorem frameStartRunning_eq (order : SameInstant) (s : State) :
    frameStartRunning order s =
      if order.outputAfter = true then
        beginOutputFrame (requestPulse (pulseRequestOf (s.announcing order)) (s.frameTested order))
      else requestPulse (pulseRequestOf (s.announcing order)) (s.frameTested order) := rfl

theorem exec_frameStart_due {dt e : Nat} {order : SameInstant} {s : State} (live : s.rstnLow = false)
    (timed : s.cu.running = true) (ends : s.cu.periodEnd = some e) (now : s.now + dt = toNs e) :
    exec (.frameStart dt order) s = .next (takeFrameStart order (s.advance dt)) := by
  have due : (s.advance dt).frameStartDue = true := by simp [State.frameStartDue, timed, ends, now]
  exact eventWhen_due dt s _ _ live due

theorem takeFrameStart_of_running {s : State} (order : SameInstant) (h : s.running = true) :
    takeFrameStart order s = frameStartRunning order s.periodBegun := if_pos (by simpa [State.running] using h)

theorem takeFrameStart_of_not_running {s : State} (order : SameInstant) (h : s.running = false) :
    takeFrameStart order s = beginOutputFrame s.periodBegun := if_neg (by simpa [State.running] using h)

/-! ### What the parts leave (R47) -/

section

variable (s : State)

theorem periodBegun_cu : s.periodBegun.cu = timerFrameStart s.profile.period (micros s.now) s.cu := by
  simp [State.periodBegun]

theorem periodBegun_slc : s.periodBegun.slc = s.slc := by simp [State.periodBegun]

theorem periodBegun_sc : s.periodBegun.sc = s.sc := by simp [State.periodBegun]

theorem periodBegun_ls : s.periodBegun.ls = s.ls := by simp [State.periodBegun]

theorem periodBegun_we : s.periodBegun.we = s.we := by simp [State.periodBegun]

end

/-- From `s` to `t` stay the seam link and what a PULSE says of the station, but for the announced state (R47). -/
structure SaysAlike (s t : State) : Prop where
  cu : t.cu = s.cu
  slc : t.slc = s.slc
  slots : t.fs.slots = s.fs.slots
  lAnn : t.ls.lAnn = s.ls.lAnn
  kLocal : t.we.kLocal = s.we.kLocal
  domeTag : t.sc.domeTag = s.sc.domeTag

theorem SaysAlike.trans {s t u : State} (h : SaysAlike s t) (k : SaysAlike t u) : SaysAlike s u :=
  ⟨k.cu.trans h.cu, k.slc.trans h.slc, k.slots.trans h.slots, k.lAnn.trans h.lAnn, k.kLocal.trans h.kLocal,
    k.domeTag.trans h.domeTag⟩

theorem promote_kLocal (s : State) : (promote s).we.kLocal = s.we.kLocal := by
  unfold promote
  dsimp only
  (repeat' split) <;> rfl

theorem joinTick_kept (c : Station) : (joinTick c).domeTag = c.domeTag ∧ (joinTick c).state = c.state := by
  unfold joinTick
  (repeat' split) <;> exact ⟨rfl, rfl⟩

theorem lampFrameStart_lAnn (now : Nat) (l : Lamp) : (lampFrameStart now l).lAnn = l.lAnn := by
  unfold lampFrameStart
  split <;> rfl

theorem frameCounted_alike (s : State) : SaysAlike (s.modCu frameCounts) s.frameCounted where
  cu := by simp [State.frameCounted]
  slc := by simp [State.frameCounted]
  slots := by simp [State.frameCounted]
  lAnn := by simp [State.frameCounted, lampFrameStart_lAnn]
  kLocal := by simp [State.frameCounted]
  domeTag := by simp [State.frameCounted, joinTick_kept]

theorem frameCounted_state (s : State) : s.frameCounted.sc.state = s.sc.state := by
  simp [State.frameCounted, joinTick_kept]

theorem beginOutputFrame_alike (s : State) : SaysAlike s (beginOutputFrame s) :=
  ⟨by simp, by simp, by simp, by simp, by simp, by simp⟩

theorem joiningTest_promote_alike (s : State) : SaysAlike s (joiningTest (promote s)) :=
  ⟨by simp, by simp, by simp, by simp, by simp [promote_kLocal], by simp⟩

theorem frameTested_alike (order : SameInstant) (s : State) : SaysAlike s.frameCounted (s.frameTested order) := by
  unfold State.frameTested
  split
  · exact joiningTest_promote_alike _
  · exact (beginOutputFrame_alike _).trans (joiningTest_promote_alike _)

theorem announcing_alike (order : SameInstant) (s : State) :
    SaysAlike (s.modCu frameCounts) (s.announcing order) := by
  unfold State.announcing
  split
  · exact (frameCounted_alike s).trans (frameTested_alike order s)
  · exact frameCounted_alike s

section

variable (order : SameInstant) (s : State)

/-- A frame start of a running state adds its counts to the timer's record (R70, R73). -/
theorem frameStartRunning_cu : (frameStartRunning order s).cu = frameCounts s.cu := by
  have cu := ((frameCounted_alike s).trans (frameTested_alike order s)).cu
  rw [frameStartRunning_eq]
  refine Eq.trans ?_ cu
  split
  · exact beginOutputFrame_cu _
  · rfl

/-- A frame start of a running state requests the PULSE in its slot (R35, R47). -/
theorem frameStartRunning_slc : (frameStartRunning order s).slc = { s.slc with queue := { s.slc.queue with
    pulse := some (fresh (pulseRequestOf (s.announcing order))) } } := by
  have slc : (s.frameTested order).slc = s.slc := ((frameCounted_alike s).trans (frameTested_alike order s)).slc
  rw [frameStartRunning_eq, ← slc]
  split
  · exact beginOutputFrame_slc _
  · rfl

theorem frameStartRunning_sc : (frameStartRunning order s).sc = (s.frameTested order).sc := by
  rw [frameStartRunning_eq]
  split
  · exact beginOutputFrame_sc _
  · rfl

theorem frameStartRunning_slots : (frameStartRunning order s).fs.slots = s.fs.slots := by
  have slots := ((frameCounted_alike s).trans (frameTested_alike order s)).slots
  rw [frameStartRunning_eq]
  refine Eq.trans ?_ slots
  split
  · exact beginOutputFrame_fs_slots _
  · rfl

/-- The state that the PULSE announces, by the order of the blocks (R47). -/
theorem announcing_state : (s.announcing order).sc.state =
    if order.pulseAfter = true then (frameStartRunning order s).sc.state else s.sc.state := by
  rw [frameStartRunning_sc]
  unfold State.announcing
  split
  · rfl
  · exact frameCounted_state s

/-- A frame start touches neither the queue of commands, the time, the reset line nor the mesh. -/
theorem takeFrameStart_rest : takeFrameStart order s = { takeFrameStart order s with
    pending := s.pending, now := s.now, rstnLow := s.rstnLow, mt := s.mt } := by
  have pulsed (p : PulseRequest) (u : State) : requestPulse p u = { u with slc := (requestPulse p u).slc } := rfl
  cases running : s.running with
  | false =>
    rw [takeFrameStart_of_not_running order running]
    apply State.ext <;> simp [State.periodBegun]
  | true =>
    rw [takeFrameStart_of_running order running, frameStartRunning_eq, pulsed, State.frameTested]
    cases order.outputAfter <;>
      apply State.ext <;> simp [State.frameCounted, State.periodBegun]

end

/-! ### The requested PULSE (R47) -/

/-- The code that a PULSE gives a running state (R2, R47). -/
def ShowState.pulseCode : ShowState → BitVec 2
  | .joining => 0
  | .showing => 1
  | _ => 2

theorem announcedCode_eq {s : State} (announced : s.sc.state ≠ .config) : announcedCode s = s.sc.state.pulseCode := by
  unfold announcedCode
  cases state : s.sc.state with
  | config => exact absurd state announced
  | joining => rfl
  | showing => rfl
  | dark => rfl
  | stopping => rfl

/-- The own entry names the SHOWN frame in SHOWING alone (R51). -/
theorem ownEntry_shown (s : State) :
    s.ownEntry.shown = if s.sc.state = .showing then shownFrame s.fs.slots else none := by
  unfold State.ownEntry
  cases state : s.sc.state <;> rfl

/-- What a PULSE requested in a running state says of the station (R47). -/
theorem pulseRequestOf_eq {s : State} (announced : s.sc.state ≠ .config) :
    pulseRequestOf s =
      { beat := s.cu.frameCount.truncate 8,
        shown := if s.sc.state = .showing then (shownFrame s.fs.slots).getD 0 else 0,
        level := BitVec.ofNat 16 s.ls.lAnn, depth := BitVec.ofNat 2 (s.we.kLocal - 1),
        state := s.sc.state.pulseCode,
        lock := BitVec.ofNat 3 s.cu.lock.code, tag := s.sc.domeTag,
        frameStart := s.cu.latestFrameStart.getD 0 } := by
  rw [pulseRequestOf, announcedCode_eq announced, ownEntry_shown, apply_ite (Option.getD · 0)]
  rfl

/-- The timer's record after a frame start, with the counts of a running state (R70, R71, R73, R76). -/
theorem takeFrameStart_cu (order : SameInstant) (s : State) :
    (takeFrameStart order s).cu =
      if s.running = true then frameCounts (timerFrameStart s.profile.period (micros s.now) s.cu)
      else timerFrameStart s.profile.period (micros s.now) s.cu := by
  cases running : s.running with
  | false => rw [takeFrameStart_of_not_running order running, beginOutputFrame_cu, periodBegun_cu]; rfl
  | true => rw [takeFrameStart_of_running order running, frameStartRunning_cu, periodBegun_cu]; rfl

/-- What the PULSE of a frame start says (R47, R73), by the announced state and the slots after the enactment. -/
theorem pulseRequestOf_announcing {order : SameInstant} {s : State} {announced : ShowState}
    (state : (s.periodBegun.announcing order).sc.state = announced) (known : announced ≠ .config) :
    pulseRequestOf (s.periodBegun.announcing order) =
      { beat := (s.cu.frameCount + 1).truncate 8,
        shown := if announced = .showing then (shownFrame s.periodBegun.fs.slots).getD 0 else 0,
        level := BitVec.ofNat 16 s.ls.lAnn, depth := BitVec.ofNat 2 (s.we.kLocal - 1),
        state := announced.pulseCode,
        lock := BitVec.ofNat 3 s.cu.lock.code, tag := s.sc.domeTag, frameStart := micros s.now } := by
  have alike := announcing_alike order s.periodBegun
  have told := pulseRequestOf_eq (s := s.periodBegun.announcing order) (by rwa [state])
  rw [state, alike.cu, alike.slots, alike.lAnn, alike.kLocal, alike.domeTag] at told
  simp only [State.modCu_cu, State.modCu_fs, State.modCu_ls, State.modCu_we, State.modCu_sc, periodBegun_cu,
    periodBegun_ls, periodBegun_we, periodBegun_sc] at told
  exact told

/-- Settles O13: the timer's record with the counts of a running state (`takeFrameStart_cu`), and the PULSE that its
announced part requests (`frameStartRunning_slc`, `pulseRequestOf_announcing`). -/
theorem frameStartTimer : Obligations.FrameStartTimer := by
  unfold Obligations.FrameStartTimer
  intro dt e order s live timed ends now
  rw [exec_frameStart_due live timed ends now]
  let u : State := s.advance dt
  let t : State := takeFrameStart order u
  have instant : micros u.now = e := (congrArg micros now).trans (micros_toNs e)
  refine ⟨t, rfl, ?_, fun idle => ?_, fun running => ?_, takeFrameStart_rest order u⟩
  · have cu : t.cu = _ := takeFrameStart_cu order u
    have counts : u.running = s.running := rfl
    rw [cu, instant, counts]
    cases s.running with
    | false => rfl
    | true =>
      rw [if_pos rfl, if_pos rfl, if_pos rfl, if_congr (and_iff_right rfl) rfl rfl]
      rfl
  · have taken : t = beginOutputFrame u.periodBegun := takeFrameStart_of_not_running order idle
    rw [taken, beginOutputFrame_slc, periodBegun_slc]
    rfl
  · have taken : t = frameStartRunning order u.periodBegun := takeFrameStart_of_running order running
    intro announced pulse known
    have state : (u.periodBegun.announcing order).sc.state = announced := by
      rw [announcing_state, ← taken, periodBegun_sc]
      rfl
    have slots : t.fs.slots = u.periodBegun.fs.slots := by rw [taken, frameStartRunning_slots]
    have requested : pulseRequestOf (u.periodBegun.announcing order) = pulse := by
      have told := pulseRequestOf_announcing state known
      rw [instant, ← slots] at told
      exact told
    rw [taken, frameStartRunning_slc, requested, periodBegun_slc]
    rfl

end Sys2Proof.Machine

/-! SUPPORT. The slots by their places (R151): what the counts over the slot list say of its four places, the ranks of
the READY slots as the numbers from 1 on, and what the rewrites of a slot make of both. -/

namespace Sys2Proof.Machine

/-! ### The slot list by its places -/

theorem eq_map_slotAt {l : List Slot} (full : l.length = 4) : l = (List.finRange 4).map (slotAt l) := by
  refine List.ext_getElem (by simp [full]) fun i hi _ => ?_
  simp [slotAt, List.getD_eq_getElem?_getD, hi]

theorem length_mapSlots (f : SlotNo → Slot → Slot) (l : List Slot) : (mapSlots f l).length = 4 := by simp [mapSlots]

theorem length_renumber (l : List Slot) : (renumber l).length = l.length := by simp [renumber]

theorem mem_slots_iff {l : List Slot} (full : l.length = 4) (x : Slot) : x ∈ l ↔ ∃ i, slotAt l i = x := by
  rw [eq_map_slotAt full]
  simp [slotAt]

/-- At most one slot passes a test exactly where no two places do. -/
theorem countP_slots_le_one_iff {l : List Slot} (full : l.length = 4) (test : Slot → Bool) :
    l.countP test ≤ 1 ↔ ∀ i j, test (slotAt l i) = true → test (slotAt l j) = true → i = j := by
  have places : l.countP test = (Finset.univ.filter fun i => test (slotAt l i) = true).card := by
    conv_lhs => rw [eq_map_slotAt full]
    rw [List.countP_map, List.countP_eq_length_filter, ← List.toFinset_card_of_nodup ((List.nodup_finRange 4).filter _)]
    congr 1
    ext i
    simp
  rw [places, Finset.card_le_one]
  simp only [Finset.mem_filter, Finset.mem_univ, true_and]
  exact forall_congr' fun i => ⟨fun h j hi hj => h hi j hj, fun h hi j hj => h j hi hj⟩

theorem isFilling_iff (x : Slot) : x.isFilling = true ↔ x = .filling := by cases x <;> simp [Slot.isFilling]

theorem isShown_iff (x : Slot) : x.isShown = true ↔ ∃ f, x = .shown f := by cases x <;> simp [Slot.isShown]

theorem rank?_eq_some_iff (x : Slot) (r : Nat) : x.rank? = some r ↔ ∃ f c, x = .ready f r c := by
  cases x <;> simp [Slot.rank?]

theorem any_isFilling_iff {l : List Slot} (full : l.length = 4) :
    l.any Slot.isFilling = true ↔ ∃ i, slotAt l i = .filling := by
  simp [List.any_eq_true, mem_slots_iff full, isFilling_iff]

theorem slotAt_replicate_free (i : SlotNo) : slotAt (List.replicate 4 .free) i = .free := by
  rw [slotAt, List.getD_eq_getElem?_getD, List.getElem?_replicate, if_pos i.isLt, Option.getD_some]

/-! ### The SHOWN frame (R151) -/

theorem shownSlot_eq_some {l : List Slot} {i : SlotNo} (h : shownSlot l = some i) : ∃ f, slotAt l i = .shown f := by
  have found := List.find?_some h
  cases slot : slotAt l i <;> simp_all

/-- The SHOWN frame is that of the one slot which is SHOWN. -/
theorem shownFrame_eq_some_iff {l : List Slot}
    (single : ∀ i j f g, slotAt l i = .shown f → slotAt l j = .shown g → i = j) (f : FrameNo) :
    shownFrame l = some f ↔ ∃ i, slotAt l i = .shown f := by
  constructor
  · intro shown
    obtain ⟨i, found, frame⟩ := Option.bind_eq_some_iff.mp shown
    obtain ⟨g, slot⟩ := shownSlot_eq_some found
    rw [slot] at frame
    obtain rfl : g = f := Option.some.inj frame
    exact ⟨i, slot⟩
  · rintro ⟨i, slot⟩
    obtain ⟨j, found⟩ : ∃ j, shownSlot l = some j := Option.isSome_iff_exists.mp <| by
      rw [shownSlot, List.find?_isSome]
      exact ⟨i, List.mem_finRange i, by simp [slot]⟩
    obtain ⟨g, other⟩ := shownSlot_eq_some found
    obtain rfl := single i j f g slot other
    rw [shownFrame, found, Option.bind_some, slot]
    rfl

/-- Where the same places are SHOWN with the same frames, the SHOWN frame is the same. -/
theorem shownFrame_congr {l m : List Slot} (h : ∀ i f, slotAt m i = .shown f ↔ slotAt l i = .shown f) :
    shownFrame m = shownFrame l := by
  have test (i : SlotNo) : (match slotAt m i with | .shown _ => true | _ => false) =
      (match slotAt l i with | .shown _ => true | _ => false) := by
    have := h i
    cases hm : slotAt m i <;> cases hl : slotAt l i <;> simp_all
  have slots : shownSlot m = shownSlot l := congrArg (List.find? · _) (funext test)
  rw [shownFrame, shownFrame, slots]
  cases found : shownSlot l with
  | none => rfl
  | some i =>
    obtain ⟨f, slot⟩ := shownSlot_eq_some found
    rw [Option.bind_some, Option.bind_some, slot, (h i f).mpr slot]

/-! ### Ranks (R151) -/

/-- The ranks of the READY slots, in the order of their places. -/
def slotRanks (l : List Slot) : List Nat := l.filterMap Slot.rank?

/-- The READY slots' ranks are the numbers from 1 to their number, each used once (R151). -/
def RanksCounted (l : List Slot) : Prop := ∀ r < readyCount l, (slotRanks l).count (r + 1) = 1

theorem length_slotRanks (l : List Slot) : (slotRanks l).length = readyCount l := by
  induction l with
  | nil => rfl
  | cons x l ih =>
    unfold slotRanks readyCount at *
    cases h : x.rank? <;> simp [h, ih]

theorem mem_slotRanks {l : List Slot} (full : l.length = 4) (r : Nat) :
    r ∈ slotRanks l ↔ ∃ i f c, slotAt l i = .ready f r c := by
  simp only [slotRanks, List.mem_filterMap, mem_slots_iff full, rank?_eq_some_iff]
  exact ⟨fun ⟨_, ⟨i, hi⟩, f, c, hx⟩ => ⟨i, f, c, hi.trans hx⟩, fun ⟨i, f, c, h⟩ => ⟨_, ⟨i, rfl⟩, f, c, h⟩⟩

theorem slotRanks_eq_places {l : List Slot} (full : l.length = 4) :
    slotRanks l = (List.finRange 4).filterMap fun i => (slotAt l i).rank? := by
  conv_lhs => rw [slotRanks, eq_map_slotAt full, List.filterMap_map]
  rfl

/-- No rank is used twice exactly where no two places hold it. -/
theorem nodup_slotRanks_iff {l : List Slot} (full : l.length = 4) :
    (slotRanks l).Nodup ↔ ∀ i j f r c g d, slotAt l i = .ready f r c → slotAt l j = .ready g r d → i = j := by
  rw [slotRanks_eq_places full]
  constructor
  · intro nodup i j f r c g d hi hj
    have apart := List.pairwise_filterMap.mp nodup
    by_contra differ
    have anywhere := @List.Pairwise.forall _ _ _ ⟨fun a b h q hq p hp same => h p hp q hq same.symm⟩ apart
    exact anywhere (List.mem_finRange i) (List.mem_finRange j) differ r (by rw [hi]; rfl) r (by rw [hj]; rfl) rfl
  · intro single
    refine (List.nodup_finRange 4).filterMap fun i j r hi hj => ?_
    obtain ⟨f, c, hi⟩ := (rank?_eq_some_iff _ r).mp hi
    obtain ⟨g, d, hj⟩ := (rank?_eq_some_iff _ r).mp hj
    exact single i j f r c g d hi hj

theorem perm_range'_of_nodup {L : List Nat} (nodup : L.Nodup) (bound : ∀ r ∈ L, 1 ≤ r ∧ r ≤ L.length) :
    L.Perm (List.range' 1 L.length) := by
  refine (nodup.subperm fun r hr => ?_).perm_of_length_le (by simp)
  have := bound r hr
  rw [List.mem_range'_1]
  omega

/-- The ranks are counted exactly where they are the numbers from 1 to their number in some order. -/
theorem ranksCounted_iff (l : List Slot) : RanksCounted l ↔ (slotRanks l).Perm (List.range' 1 (readyCount l)) := by
  constructor
  · intro counted
    refine ((List.nodup_range' ..).subperm fun r hr => ?_).perm_of_length_le (by simp [length_slotRanks]) |>.symm
    obtain ⟨low, high⟩ := List.mem_range'_1.mp hr
    refine List.count_pos_iff.mp ?_
    have once := counted (r - 1) (by omega)
    rw [Nat.sub_add_cancel low] at once
    omega
  · intro perm r hr
    rw [perm.count_eq]
    exact List.count_eq_one_of_mem (List.nodup_range' ..) (List.mem_range'_1.mpr (by omega))

theorem RanksCounted.nodup {l : List Slot} (h : RanksCounted l) : (slotRanks l).Nodup :=
  ((ranksCounted_iff l).mp h).nodup_iff.mpr (List.nodup_range' ..)

theorem RanksCounted.mem_iff {l : List Slot} (h : RanksCounted l) (r : Nat) :
    r ∈ slotRanks l ↔ 1 ≤ r ∧ r ≤ readyCount l := by
  rw [((ranksCounted_iff l).mp h).mem_iff, List.mem_range'_1]
  omega

/-- Slots of the same ranks at every place. -/
theorem slotRanks_congr {l m : List Slot} (hm : m.length = 4) (hl : l.length = 4)
    (h : ∀ i, (slotAt m i).rank? = (slotAt l i).rank?) : slotRanks m = slotRanks l := by
  rw [slotRanks_eq_places hm, slotRanks_eq_places hl, funext h]

theorem ranksCounted_congr {l m : List Slot} (h : slotRanks m = slotRanks l) : RanksCounted m ↔ RanksCounted l := by
  rw [ranksCounted_iff, ranksCounted_iff, ← length_slotRanks, ← length_slotRanks, h]

/-- A slot list with one more READY slot, of the next rank, has its ranks counted. -/
theorem RanksCounted.succ {l m : List Slot} (h : RanksCounted l) (nodup : (slotRanks m).Nodup)
    (ranks : ∀ r, r ∈ slotRanks m ↔ r = readyCount l + 1 ∨ r ∈ slotRanks l) : RanksCounted m := by
  have next : readyCount l + 1 ∉ slotRanks l := fun hr => by have := (h.mem_iff _).mp hr; omega
  have perm : (slotRanks m).Perm ((readyCount l + 1) :: slotRanks l) :=
    (List.perm_ext_iff_of_nodup nodup (List.nodup_cons.mpr ⟨next, h.nodup⟩)).mpr (by simpa using ranks)
  have number : readyCount m = readyCount l + 1 := by
    rw [← length_slotRanks, perm.length_eq, List.length_cons, length_slotRanks]
  rw [ranksCounted_iff, number, List.range'_1_concat, Nat.add_comm 1]
  exact (perm.trans (((ranksCounted_iff l).mp h).cons _)).trans (List.perm_append_singleton ..).symm

/-! ### Renumbering (R151) -/

theorem readyBelow_eq (r : Nat) (l : List Slot) : readyBelow r l = (slotRanks l).countP (· < r) := by
  rw [readyBelow, slotRanks, List.countP_filterMap, ← List.countP_eq_length_filter]
  congr 1
  funext x
  cases x.rank? <;> simp

/-- A renumbered slot has the rank that follows those of the READY slots below it. -/
theorem slotAt_renumber_eq (l : List Slot) (j : SlotNo) :
    slotAt (renumber l) j = (slotAt l j).withRank (readyBelow ((slotAt l j).rank?.getD 0) l + 1) := by
  unfold renumber slotAt
  rw [List.getD_eq_getElem?_getD, List.getElem?_map, List.getD_eq_getElem?_getD]
  cases l[j.val]? with
  | none => rfl
  | some x => cases x <;> rfl

theorem slotRanks_renumber (l : List Slot) :
    slotRanks (renumber l) = (slotRanks l).map fun r => readyBelow r l + 1 := by
  rw [slotRanks, slotRanks, renumber, List.filterMap_map, List.map_filterMap]
  congr 1
  funext x
  cases x <;> rfl

theorem readyBelow_mono (l : List Slot) {q r : Nat} (h : q ≤ r) : readyBelow q l ≤ readyBelow r l := by
  rw [readyBelow_eq, readyBelow_eq]
  exact List.countP_mono_left fun x _ hx => by simp_all; omega

theorem readyBelow_lt {l : List Slot} {q r : Nat} (hq : q ∈ slotRanks l) (h : q < r) :
    readyBelow q l < readyBelow r l := by
  rw [readyBelow_eq, readyBelow_eq, (List.perm_cons_erase hq).countP_eq, (List.perm_cons_erase hq).countP_eq,
    List.countP_cons_of_neg (by simp), List.countP_cons_of_pos (by simpa using h), Nat.lt_succ_iff]
  exact List.countP_mono_left fun x _ hx => by simp_all; omega

/-- Renumbering counts ranks of which none is used twice. -/
theorem ranksCounted_renumber {l : List Slot} (nodup : (slotRanks l).Nodup) : RanksCounted (renumber l) := by
  rw [ranksCounted_iff, ← length_slotRanks]
  refine perm_range'_of_nodup ?_ ?_
  · rw [slotRanks_renumber]
    refine List.Nodup.map_on (fun q hq r hr same => ?_) nodup
    by_contra differ
    obtain below | below := Nat.lt_or_gt_of_ne differ
    · have := readyBelow_lt hq below; omega
    · have := readyBelow_lt hr below; omega
  · rw [slotRanks_renumber]
    intro r hr
    obtain ⟨q, hq, rfl⟩ := List.mem_map.mp hr
    refine ⟨Nat.le_add_left .., ?_⟩
    rw [List.length_map, readyBelow_eq, Nat.add_one_le_iff, List.countP_lt_length_iff]
    exact ⟨q, hq, by simp⟩

end Sys2Proof.Machine

/-! SUPPORT. Slots in order (R86, R91, R92, R151, R157): the invariant of the slot list, place by place, beside the decision
record, and that each rewrite of the slots keeps it. -/

namespace Sys2Proof.Machine

/-! ### A slot with another rank -/

section

variable (x : Slot) (q : Nat)

theorem withRank_eq_filling_iff : x.withRank q = .filling ↔ x = .filling := by cases x <;> simp [Slot.withRank]

theorem withRank_eq_shown_iff (f : FrameNo) : x.withRank q = .shown f ↔ x = .shown f := by
  cases x <;> simp [Slot.withRank]

theorem frame?_withRank : (x.withRank q).frame? = x.frame? := by cases x <;> rfl

theorem isChosen_withRank : (x.withRank q).isChosen = x.isChosen := by cases x <;> rfl

/-- Slots stay ordered under other ranks that stand in no other order. -/
theorem framesOrdered_withRank {x y : Slot} {p q : Nat}
    (mono : ∀ r ∈ x.rank?, ∀ r' ∈ y.rank?, r' ≤ r → q ≤ p) (h : framesOrdered x y = true) :
    framesOrdered (x.withRank p) (y.withRank q) = true := by
  cases x with
  | ready f r c =>
    cases y with
    | ready g r' d =>
      simp only [framesOrdered, Slot.withRank, Bool.or_eq_true, decide_eq_true_eq] at h ⊢
      exact h.imp_left (mono r rfl r' rfl)
    | _ => rfl
  | shown f => cases y <;> exact h
  | _ => rfl

end

/-! ### A slot with its chosen mark set -/

/-- A slot with the chosen mark set besides, where it is READY. -/
def Slot.marked (b : Bool) : Slot → Slot
  | .ready f r c => .ready f r (c || b)
  | x => x

theorem slotAt_chooseSlot (i : SlotNo) (l : List Slot) (j : SlotNo) :
    slotAt (chooseSlot i l) j = (slotAt l j).marked (j == i) := by
  rw [chooseSlot, slotAt_mapSlots]
  cases slotAt l j <;> rfl

section

variable (x : Slot) (b : Bool)

theorem marked_eq_filling_iff : x.marked b = .filling ↔ x = .filling := by cases x <;> simp [Slot.marked]

theorem marked_eq_shown_iff (f : FrameNo) : x.marked b = .shown f ↔ x = .shown f := by
  cases x <;> simp [Slot.marked]

theorem rank?_marked : (x.marked b).rank? = x.rank? := by cases x <;> rfl

theorem framesOrdered_marked (y : Slot) (c : Bool) : framesOrdered (x.marked b) (y.marked c) = framesOrdered x y := by
  cases x <;> cases y <;> rfl

end

/-! ### Slots that stand apart -/

/-- Four slots, at most one FILLING, at most one SHOWN, no rank used twice, and the frames rising with rank above the SHOWN
one (R92, R151): what renumbering needs. -/
structure SlotsApart (l : List Slot) : Prop where
  full : l.length = 4
  filling : ∀ i j, slotAt l i = .filling → slotAt l j = .filling → i = j
  shown : ∀ i j f g, slotAt l i = .shown f → slotAt l j = .shown g → i = j
  ranks : ∀ i j f r c g d, slotAt l i = .ready f r c → slotAt l j = .ready g r d → i = j
  rise : ∀ i j, framesOrdered (slotAt l i) (slotAt l j) = true

theorem framesRise_iff {l : List Slot} (full : l.length = 4) :
    FramesRise l ↔ ∀ i j, framesOrdered (slotAt l i) (slotAt l j) = true := by
  constructor
  · exact fun h i j => h _ ((mem_slots_iff full _).mpr ⟨i, rfl⟩) _ ((mem_slots_iff full _).mpr ⟨j, rfl⟩)
  · intro h x hx y hy
    obtain ⟨i, rfl⟩ := (mem_slots_iff full x).mp hx
    obtain ⟨j, rfl⟩ := (mem_slots_iff full y).mp hy
    exact h i j

/-- Of two READY slots the one of higher rank holds the newer frame (R151). -/
theorem SlotsApart.newer_of_rank {l : List Slot} (h : SlotsApart l) {i j : SlotNo} {f g : FrameNo} {r q : Nat}
    {c d : Bool} (hi : slotAt l i = .ready f r c) (hj : slotAt l j = .ready g q d) (below : r < q) :
    newer g f = true := by
  have rise := h.rise i j
  rw [hi, hj] at rise
  simpa [framesOrdered, Nat.not_le.mpr below] using rise

/-- A READY frame is newer than the SHOWN one (R92). -/
theorem SlotsApart.newer_of_shown {l : List Slot} (h : SlotsApart l) {i j : SlotNo} {f g : FrameNo} {q : Nat} {d : Bool}
    (hi : slotAt l i = .shown f) (hj : slotAt l j = .ready g q d) : newer g f = true := by
  have rise := h.rise i j
  rwa [hi, hj] at rise

/-- Slots stand apart where each has stayed, or has become FREE or FILLING, and at most one is FILLING. -/
theorem SlotsApart.emptied {l m : List Slot} (h : SlotsApart l) (full : m.length = 4)
    (places : ∀ j, slotAt m j = slotAt l j ∨ slotAt m j = .free ∨ slotAt m j = .filling)
    (filling : ∀ i j, slotAt m i = .filling → slotAt m j = .filling → i = j) : SlotsApart m where
  full := full
  filling := filling
  shown i j f g hi hj :=
    h.shown i j f g (by simpa [hi, eq_comm] using places i) (by simpa [hj, eq_comm] using places j)
  ranks i j f r c g d hi hj :=
    h.ranks i j f r c g d (by simpa [hi, eq_comm] using places i) (by simpa [hj, eq_comm] using places j)
  rise i j := by
    obtain hi | hi | hi := places i <;> obtain hj | hj | hj := places j <;> rw [hi, hj]
    case inl.inl => exact h.rise i j
    all_goals cases slotAt l i <;> cases slotAt l j <;> rfl

/-- A slot becomes FREE, or FILLING where no other is. -/
theorem SlotsApart.setSlot {l : List Slot} (h : SlotsApart l) {i : SlotNo} {x : Slot}
    (empty : x = .free ∨ x = .filling ∧ ∀ j, j ≠ i → slotAt l j ≠ .filling) : SlotsApart (setSlot i x l) := by
  refine h.emptied (length_mapSlots ..) (fun j => ?_) fun j k hj hk => ?_
  · by_cases same : j = i
    · rw [same, slotAt_setSlot_same]
      exact .inr (empty.imp_right And.left)
    · exact .inl (slotAt_setSlot_ne same ..)
  · rw [Machine.setSlot, slotAt_mapSlots] at hj hk
    obtain rfl | ⟨rfl, others⟩ := empty
    · exact h.filling j k (by split at hj <;> simp_all) (by split at hk <;> simp_all)
    · have only {n : SlotNo} (hn : (if n = i then Slot.filling else slotAt l n) = .filling) : n = i :=
        by_contra fun differ => others n differ (by rwa [if_neg differ] at hn)
      exact (only hj).trans (only hk).symm

/-- Renumbering slots that stand apart keeps them so and counts their ranks (R151). -/
theorem SlotsApart.renumber {l : List Slot} (h : SlotsApart l) : SlotsApart (renumber l) ∧ RanksCounted (renumber l) := by
  have full : (Machine.renumber l).length = 4 := (length_renumber l).trans h.full
  have counted := ranksCounted_renumber ((nodup_slotRanks_iff h.full).mpr h.ranks)
  refine ⟨⟨full, fun i j hi hj => ?_, fun i j f g hi hj => ?_, (nodup_slotRanks_iff full).mp counted.nodup,
    fun i j => ?_⟩, counted⟩
  · rw [slotAt_renumber_eq, withRank_eq_filling_iff] at hi hj
    exact h.filling i j hi hj
  · rw [slotAt_renumber_eq, withRank_eq_shown_iff] at hi hj
    exact h.shown i j f g hi hj
  · rw [slotAt_renumber_eq, slotAt_renumber_eq]
    refine framesOrdered_withRank (fun r hr q hq below => ?_) (h.rise i j)
    rw [hr, hq]
    exact Nat.add_le_add_right (readyBelow_mono l below) 1

/-! ### Slots in order beside a decision record -/

/-- The slots stand apart with their ranks counted, no slot is chosen but the one a SWAP names, and that one is READY with
the target (R86, R91, R92, R151). -/
structure SlotsHeld (d : Decision) (l : List Slot) : Prop where
  apart : SlotsApart l
  counted : RanksCounted l
  chosen : ∀ i, (slotAt l i).isChosen = true → d.slot? = some i
  stands : d.standsOn l = true

/-- Four FREE slots are in order (R166). -/
theorem SlotsHeld.of_free {l : List Slot} (full : l.length = 4) (free : ∀ i, slotAt l i = .free) :
    SlotsHeld .none l where
  apart := ⟨full, by simp [free], by simp [free], by simp [free], by simp [free, framesOrdered]⟩
  counted r hr := by
    obtain ⟨x, hx⟩ := List.exists_mem_of_length_pos (Nat.lt_of_le_of_lt (Nat.zero_le r) (length_slotRanks l ▸ hr))
    obtain ⟨i, f, c, ready⟩ := (mem_slotRanks full x).mp hx
    cases (free i).symm.trans ready
  chosen i hi := by rw [free] at hi; cases hi
  stands := rfl

theorem isChosen_and_frame_iff (x : Slot) (f : FrameNo) :
    (x.isChosen && x.frame? == some f) = true ↔ ∃ r, x = .ready f r true := by
  cases x <;> simp [Slot.isChosen, Slot.frame?, and_comm]

theorem standsOn_swap_iff (f : FrameNo) (i : SlotNo) (l : List Slot) :
    (Decision.swap f i).standsOn l = true ↔ ∃ r, slotAt l i = .ready f r true := isChosen_and_frame_iff ..

/-- A decision goes by the frame and the chosen mark of its slot alone. -/
theorem standsOn_congr {d : Decision} {l m : List Slot} (h : ∀ i, d.slot? = some i →
    (slotAt m i).isChosen = (slotAt l i).isChosen ∧ (slotAt m i).frame? = (slotAt l i).frame?) :
    d.standsOn m = d.standsOn l := by
  cases d with
  | swap f i =>
    obtain ⟨mark, frame⟩ := h i rfl
    simp only [Decision.standsOn, mark, frame]
  | none => rfl
  | hold => rfl

/-- Renumbering keeps what is in order but for the ranks. -/
theorem SlotsHeld.renumber {d : Decision} {l : List Slot} (apart : SlotsApart l)
    (chosen : ∀ i, (slotAt l i).isChosen = true → d.slot? = some i) (stands : d.standsOn l = true) :
    SlotsHeld d (renumber l) where
  apart := apart.renumber.1
  counted := apart.renumber.2
  chosen i hi := chosen i (by rwa [slotAt_renumber_eq, isChosen_withRank] at hi)
  stands := by
    rw [standsOn_congr fun i _ => ?_, stands]
    rw [slotAt_renumber_eq]
    exact ⟨isChosen_withRank .., frame?_withRank ..⟩

section

variable {d : Decision} {l : List Slot} {i : SlotNo} {x : Slot} (h : SlotsHeld d l)

include h

/-- Rewriting an unchosen slot by an unchosen one keeps the decision on its slot. -/
theorem SlotsHeld.decision_setSlot (before : (slotAt l i).isChosen = false) (after : x.isChosen = false) :
    (∀ j, (slotAt (setSlot i x l) j).isChosen = true → d.slot? = some j) ∧ d.standsOn (setSlot i x l) = true := by
  have other {j : SlotNo} (hj : j ≠ i) : slotAt (setSlot i x l) j = slotAt l j := slotAt_setSlot_ne hj ..
  constructor
  · intro j hj
    by_cases same : j = i
    · rw [same, slotAt_setSlot_same, after] at hj
      cases hj
    · exact h.chosen j (by rwa [other same] at hj)
  · have stands := h.stands
    cases d with
    | none => rfl
    | hold => rfl
    | swap f k =>
      obtain ⟨r, slot⟩ := (standsOn_swap_iff ..).mp stands
      have differ : k ≠ i := by
        rintro rfl
        rw [slot] at before
        cases before
      exact (standsOn_swap_iff ..).mpr ⟨r, (other differ).trans slot⟩

/-- An unchosen slot becomes FREE, or FILLING where no other is, and the rest are renumbered (R153, R155). -/
theorem SlotsHeld.vacated (unchosen : (slotAt l i).isChosen = false)
    (empty : x = .free ∨ x = .filling ∧ ∀ j, j ≠ i → slotAt l j ≠ .filling) :
    SlotsHeld d (Machine.renumber (setSlot i x l)) := by
  have after : x.isChosen = false := by obtain rfl | ⟨rfl, -⟩ := empty <;> rfl
  obtain ⟨chosen, stands⟩ := h.decision_setSlot unchosen after
  exact .renumber (h.apart.setSlot empty) chosen stands

/-- A FREE slot becomes FILLING where no slot is (R153). -/
theorem SlotsHeld.filled (free : slotAt l i = .free) (none_filling : ∀ j, slotAt l j ≠ .filling) :
    SlotsHeld d (setSlot i .filling l) := by
  obtain ⟨chosen, stands⟩ := h.decision_setSlot (i := i) (x := .filling) (by rw [free]; rfl) rfl
  have apart := h.apart.setSlot (i := i) (x := .filling) (.inr ⟨rfl, fun j _ => none_filling j⟩)
  have ranks : slotRanks (setSlot i .filling l) = slotRanks l := by
    refine slotRanks_congr apart.full h.apart.full fun j => ?_
    by_cases same : j = i
    · rw [same, slotAt_setSlot_same, free]; rfl
    · rw [slotAt_setSlot_ne same]
  exact ⟨apart, (ranksCounted_congr ranks).mpr h.counted, chosen, stands⟩

/-- The FILLING slot becomes READY with the next rank and a frame newer than every other (R156). -/
theorem SlotsHeld.readied {n : FrameNo} (filling : slotAt l i = .filling)
    (newest : ∀ j f, (slotAt l j).frame? = some f → newer n f = true) :
    SlotsHeld d (setSlot i (.ready n (readyCount l + 1) false) l) := by
  obtain ⟨chosen, stands⟩ := h.decision_setSlot (i := i) (x := .ready n (readyCount l + 1) false) (by rw [filling]; rfl) rfl
  have full : (setSlot i (.ready n (readyCount l + 1) false) l).length = 4 := length_mapSlots ..
  have own := slotAt_setSlot_same i (.ready n (readyCount l + 1) false) l
  have other {j : SlotNo} (hj : j ≠ i) := slotAt_setSlot_ne hj (.ready n (readyCount l + 1) false) l
  generalize setSlot i (.ready n (readyCount l + 1) false) l = m at *
  have stays {j : SlotNo} {x : Slot} (hx : slotAt m j = x) (differ : ∀ c, x ≠ .ready n (readyCount l + 1) c) :
      slotAt l j = x :=
    other (fun same : j = i => differ false ((same ▸ hx).symm.trans own)) ▸ hx
  have old {j : SlotNo} {f : FrameNo} {r : Nat} {c : Bool} (hj : slotAt l j = .ready f r c) : r ≤ readyCount l :=
    ((h.counted.mem_iff r).mp ((mem_slotRanks h.apart.full r).mpr ⟨j, f, c, hj⟩)).2
  have ranks : ∀ j k f r c g q, slotAt m j = .ready f r c → slotAt m k = .ready g r q → j = k := by
    intro j k f r c g q hj hk
    by_cases hji : j = i <;> by_cases hki : k = i
    · exact hji.trans hki.symm
    · rw [hji, own] at hj
      rw [other hki] at hk
      have := old hk
      cases hj
      omega
    · rw [hki, own] at hk
      rw [other hji] at hj
      have := old hj
      cases hk
      omega
    · exact h.apart.ranks j k f r c g q (other hji ▸ hj) (other hki ▸ hk)
  refine ⟨⟨full, fun j k hj hk => h.apart.filling j k (stays hj nofun) (stays hk nofun),
    fun j k f g hj hk => h.apart.shown j k f g (stays hj nofun) (stays hk nofun), ranks, fun j k => ?_⟩,
    h.counted.succ ((nodup_slotRanks_iff full).mpr ranks) fun r => ?_, chosen, stands⟩
  · by_cases hj : j = i <;> by_cases hk : k = i
    · rw [hj, hk, own]
      simp [framesOrdered]
    · rw [hj, own, other hk]
      cases slot : slotAt l k with
      | ready g q c => simp [framesOrdered, (old slot).trans (Nat.le_succ _)]
      | _ => rfl
    · rw [hk, own, other hj]
      cases slot : slotAt l j with
      | ready f r c => simp [framesOrdered, newest j f (by rw [slot]; rfl)]
      | shown f => exact newest j f (by rw [slot]; rfl)
      | _ => rfl
    · rw [other hj, other hk]
      exact h.apart.rise j k
  · rw [mem_slotRanks full, mem_slotRanks h.apart.full]
    constructor
    · rintro ⟨j, f, c, hj⟩
      by_cases hji : j = i
      · rw [hji, own] at hj
        cases hj
        exact .inl rfl
      · exact .inr ⟨j, f, c, other hji ▸ hj⟩
    · rintro (rfl | ⟨j, f, c, hj⟩)
      · exact ⟨i, n, false, own⟩
      · refine ⟨j, f, c, (other ?_).trans hj⟩
        rintro rfl
        rw [filling] at hj
        cases hj

/-- Where no decision stands, the READY slot of the target is chosen (R91). -/
theorem SlotsHeld.decided {f : FrameNo} {r : Nat} {c : Bool} (undecided : d.slot? = none)
    (ready : slotAt l i = .ready f r c) : SlotsHeld (.swap f i) (chooseSlot i l) := by
  have full : (chooseSlot i l).length = 4 := length_mapSlots ..
  have place := slotAt_chooseSlot i l
  have ranks : slotRanks (chooseSlot i l) = slotRanks l :=
    slotRanks_congr full h.apart.full fun j => by rw [place, rank?_marked]
  have counted : RanksCounted (chooseSlot i l) := (ranksCounted_congr ranks).mpr h.counted
  refine ⟨⟨full, fun j k hj hk => ?_, fun j k g g' hj hk => ?_, (nodup_slotRanks_iff full).mp counted.nodup,
    fun j k => ?_⟩, counted, fun j hj => ?_, (standsOn_swap_iff ..).mpr ⟨r, slotAt_chooseSlot_same ready⟩⟩
  · rw [place, marked_eq_filling_iff] at hj hk
    exact h.apart.filling j k hj hk
  · rw [place, marked_eq_shown_iff] at hj hk
    exact h.apart.shown j k g g' hj hk
  · rw [place, place, framesOrdered_marked]
    exact h.apart.rise j k
  · by_contra differ
    rw [slotAt_chooseSlot_ne fun same : j = i => differ (same ▸ rfl)] at hj
    cases undecided.symm.trans (h.chosen j hj)

end

/-! ### The enactment of a SWAP (R92) -/

/-- The slots after a SWAP are renumbered ones of which the chosen slot is SHOWN, and of the others the SHOWN one and every
READY one older than the target are FREE (R92). -/
theorem swappedSlots_eq (target : FrameNo) (slot : SlotNo) (l : List Slot) :
    ∃ m, swappedSlots target slot l = renumber m ∧ m.length = 4 ∧ slotAt m slot = .shown target ∧
      ∀ j, j ≠ slot →
        (slotAt m j = slotAt l j ∧ (∀ f, slotAt l j ≠ .shown f) ∧
          ∀ f r c, slotAt l j = .ready f r c → older f target = false) ∨
        (slotAt m j = .free ∧
          ((∃ f, slotAt l j = .shown f) ∨ ∃ f r c, slotAt l j = .ready f r c ∧ older f target = true)) := by
  refine ⟨_, rfl, length_mapSlots .., by rw [slotAt_mapSlots, if_pos rfl], fun j hj => ?_⟩
  rw [slotAt_mapSlots, if_neg hj]
  cases slotAt l j with
  | ready f r c => cases age : older f target <;> simp [age]
  | _ => simp

/-- An enacted SWAP shows the target, and leaves READY the newer frames alone (R92). -/
theorem SlotsHeld.swapped {target : FrameNo} {slot : SlotNo} {l : List Slot} (h : SlotsHeld (.swap target slot) l) :
    SlotsHeld .none (swappedSlots target slot l) := by
  obtain ⟨m, eq, full, shown, rest⟩ := swappedSlots_eq target slot l
  obtain ⟨rank, chosen⟩ := (standsOn_swap_iff ..).mp h.stands
  have kept {j : SlotNo} (hj : j ≠ slot) (present : slotAt m j ≠ .free) :
      slotAt m j = slotAt l j ∧ (∀ f, slotAt l j ≠ .shown f) ∧
        ∀ f r c, slotAt l j = .ready f r c → newer f target = true := by
    obtain ⟨same, hidden, young⟩ | ⟨freed, -⟩ := rest j hj
    · refine ⟨same, hidden, fun f r c ready => ?_⟩
      obtain below | equal | above := Nat.lt_trichotomy r rank
      · have old : older f target = true := h.apart.newer_of_rank ready chosen below
        rw [young f r c ready] at old
        cases old
      · exact absurd (h.apart.ranks j slot f r c target true ready (equal ▸ chosen)) hj
      · exact h.apart.newer_of_rank chosen ready above
    · exact absurd freed present
  have at_slot {j : SlotNo} {x : Slot} (hj : slotAt m j = x) (differ : x ≠ .shown target) : j ≠ slot := by
    rintro rfl
    exact differ (hj.symm.trans shown)
  have stays {j : SlotNo} {x : Slot} (hj : slotAt m j = x) (differ : x ≠ .shown target) (present : x ≠ .free) :
      slotAt l j = x := (kept (at_slot hj differ) (hj ▸ present)).1 ▸ hj
  have only {j : SlotNo} {f : FrameNo} (hj : slotAt m j = .shown f) : j = slot := by
    by_contra differ
    obtain ⟨same, hidden, -⟩ := kept differ (by rw [hj]; nofun)
    exact hidden f (same ▸ hj)
  rw [eq]
  refine .renumber ⟨full, fun j k hj hk => ?_, fun j k f g hj hk => (only hj).trans (only hk).symm,
    fun j k f r c g q hj hk => ?_, fun j k => ?_⟩ (fun j hj => ?_) rfl
  · exact h.apart.filling j k (stays hj nofun nofun) (stays hk nofun nofun)
  · exact h.apart.ranks j k f r c g q (stays hj nofun nofun) (stays hk nofun nofun)
  · by_cases hj : j = slot
    · rw [hj, shown]
      cases hk : slotAt m k with
      | ready g q c =>
        obtain ⟨same, -, young⟩ := kept (at_slot hk nofun) (by rw [hk]; nofun)
        exact young g q c (same ▸ hk)
      | _ => rfl
    · cases hj' : slotAt m j with
      | ready f r c =>
        cases hk : slotAt m k with
        | ready g q e =>
          have rise := h.apart.rise j k
          rwa [stays hj' nofun nofun, stays hk nofun nofun] at rise
        | _ => rfl
      | shown f => exact absurd (only hj') hj
      | _ => rfl
  · cases slot_j : slotAt m j with
    | ready f r c =>
      rw [slot_j] at hj
      obtain rfl : c = true := hj
      have old := stays slot_j nofun nofun
      have named : some slot = some j := h.chosen j (by rw [old]; rfl)
      exact absurd (Option.some.inj named).symm (at_slot slot_j nofun)
    | _ => rw [slot_j] at hj; cases hj

end Sys2Proof.Machine

/-! SUPPORT. The frame store over one step (R86, R90 to R92, R151 to R158): what keeps it in order without touching it, said
of one operation after another. What remains are the cutoff, the enactment, the input frames, START, PROFILE and the entry
to CONFIG. -/

namespace Sys2Proof.Machine

/-! ### The store in order -/

/-- The slots are in order beside the decision record, FILLING only while a frame is in progress; a decision stands only
after the cutoff; in CONFIG the port is off and no decision stands. -/
structure StoreSound (s : State) : Prop where
  held : SlotsHeld s.swu s.fs.slots
  filling : ∀ i, slotAt s.fs.slots i = .filling → s.fs.frameInProgress = true
  off : s.sc.state = .config → s.fs.port = .off
  timed : s.swu = .none ∨ s.cu.cutoffTaken = true
  idle : s.sc.state = .config → s.swu = .none

theorem storeInOrder_iff (s : State) : StoreInOrder s ↔ StoreSound s := by
  constructor
  · rintro ⟨⟨full, filling, shown, counted, progress, off⟩, rise, chosen, stands, timed, idle⟩
    have counted : RanksCounted s.fs.slots := counted
    have apart : SlotsApart s.fs.slots :=
      { full := full
        filling := fun i j hi hj =>
          (countP_slots_le_one_iff full _).mp filling i j ((isFilling_iff _).mpr hi) ((isFilling_iff _).mpr hj)
        shown := fun i j f g hi hj =>
          (countP_slots_le_one_iff full _).mp shown i j ((isShown_iff _).mpr ⟨f, hi⟩) ((isShown_iff _).mpr ⟨g, hj⟩)
        ranks := (nodup_slotRanks_iff full).mp counted.nodup
        rise := (framesRise_iff full).mp rise }
    exact ⟨⟨apart, counted, chosen, stands⟩, fun i hi => progress ((any_isFilling_iff full).mpr ⟨i, hi⟩), off, timed, idle⟩
  · rintro ⟨⟨apart, counted, chosen, stands⟩, progress, off, timed, idle⟩
    have full := apart.full
    refine ⟨⟨full, (countP_slots_le_one_iff full _).mpr fun i j hi hj => ?_,
      (countP_slots_le_one_iff full _).mpr fun i j hi hj => ?_, counted, fun h => ?_, off⟩,
      (framesRise_iff full).mpr apart.rise, chosen, stands, timed, idle⟩
    · exact apart.filling i j ((isFilling_iff _).mp hi) ((isFilling_iff _).mp hj)
    · obtain ⟨f, hi⟩ := (isShown_iff _).mp hi
      obtain ⟨g, hj⟩ := (isShown_iff _).mp hj
      exact apart.shown i j f g hi hj
    · obtain ⟨i, hi⟩ := (any_isFilling_iff full).mp h
      exact progress i hi

/-- The store stays in order where the slots are, with the decision record and the cutoff as they stood, in a running
state. -/
theorem StoreSound.of_slots {s t : State} (h : StoreSound s) (held : SlotsHeld s.swu t.fs.slots) (swu : t.swu = s.swu)
    (cutoff : t.cu.cutoffTaken = s.cu.cutoffTaken) (running : t.sc.state ≠ .config)
    (filling : ∀ i, slotAt t.fs.slots i = .filling → t.fs.frameInProgress = true) : StoreSound t where
  held := swu ▸ held
  filling := filling
  off config := absurd config running
  timed := swu ▸ cutoff ▸ h.timed
  idle config := absurd config running

/-- From `s` to `t` a store in order stays so, the SHOWN frame the same. -/
def CarriesStore (s t : State) : Prop :=
  StoreSound s → StoreSound t ∧ shownFrame t.fs.slots = shownFrame s.fs.slots

theorem CarriesStore.refl (s : State) : CarriesStore s s := fun h => ⟨h, rfl⟩

theorem CarriesStore.trans {s t u : State} (h : CarriesStore s t) (k : CarriesStore t u) : CarriesStore s u := by
  intro sound
  obtain ⟨sound, shown⟩ := h sound
  obtain ⟨sound, shown'⟩ := k sound
  exact ⟨sound, shown'.trans shown⟩

/-- From `s` to `t` nothing changes that the order of the store rests on; `t` is in CONFIG only where `s` was. -/
structure KeepsStore (s t : State) : Prop where
  slots : t.fs.slots = s.fs.slots
  port : t.fs.port = s.fs.port
  swu : t.swu = s.swu
  cutoff : t.cu.cutoffTaken = s.cu.cutoffTaken
  config : t.sc.state = .config → s.sc.state = .config

namespace KeepsStore

theorem refl (s : State) : KeepsStore s s := ⟨rfl, rfl, rfl, rfl, id⟩

theorem trans {s t u : State} (h : KeepsStore s t) (k : KeepsStore t u) : KeepsStore s u :=
  ⟨k.slots.trans h.slots, k.port.trans h.port, k.swu.trans h.swu, k.cutoff.trans h.cutoff, h.config ∘ k.config⟩

/-- What leaves the Station Controller, the Cadence Unit, the Swap Unit and the Frame Store alone keeps the store. -/
theorem of_blocks {s t : State} (sc : t.sc = s.sc) (cu : t.cu = s.cu) (swu : t.swu = s.swu) (fs : t.fs = s.fs) :
    KeepsStore s t :=
  ⟨by rw [fs], by rw [fs], swu, by rw [cu], fun h => sc ▸ h⟩

/-- What keeps the grid moves to CONFIG from CONFIG alone. -/
theorem of_grid {s t : State} (grid : KeepsGrid s t) (slots : t.fs.slots = s.fs.slots) (port : t.fs.port = s.fs.port)
    (swu : t.swu = s.swu) (cu : t.cu = s.cu) : KeepsStore s t :=
  ⟨slots, port, swu, by rw [cu], fun h => (grid.config h).1⟩

theorem sound {s t : State} (h : KeepsStore s t) (hs : StoreSound s) : StoreSound t where
  held := by rw [h.swu, h.slots]; exact hs.held
  filling := by rw [h.slots, FrameStore.frameInProgress, h.port]; exact hs.filling
  off config := h.port.trans (hs.off (h.config config))
  timed := by rw [h.swu, h.cutoff]; exact hs.timed
  idle config := h.swu.trans (hs.idle (h.config config))

theorem after {s t u : State} (k : KeepsStore t u) (h : KeepsStore s t) : KeepsStore s u := h.trans k

end KeepsStore

theorem CarriesStore.of_keeps {s t : State} (h : KeepsStore s t) : CarriesStore s t := fun hs =>
  ⟨h.sound hs, by rw [h.slots]⟩

/-! ### States, the view and the choice of reference -/

theorem setResult_keepsStore (r : ResultCode) (i : Nat) (s : State) : KeepsStore s (setResult r i s) :=
  ⟨rfl, rfl, rfl, rfl, id⟩

theorem runPass_keepsStore (s : State) : KeepsStore s (runPass s) :=
  .of_blocks (by simp) (by simp) (by simp) (by simp)

/-- A move to a running state keeps the store (R1). -/
theorem setState_keepsStore {st : ShowState} (h : st ≠ .config) (s : State) : KeepsStore s (setState st s) :=
  .of_grid (setState_keepsGrid h s) (by simp) (by simp) (by simp) (by simp)

theorem joiningTest_keepsStore (s : State) : KeepsStore s (joiningTest s) :=
  .of_grid (joiningTest_keepsGrid s) (by simp) (by simp) (by simp) (by simp)

theorem lockTest_keepsStore (b s : State) : KeepsStore s (lockTest b s) :=
  .of_grid (lockTest_keepsGrid b s) (by simp) (by simp) (by simp) (by simp)

theorem applyOrder_keepsStore (o : SameInstant) (b s : State) : KeepsStore s (applyOrder o b s) :=
  .of_grid (applyOrder_keepsGrid o b s) (by simp) (by simp) (by simp) (by simp)

theorem lampTest_keepsStore (s : State) : KeepsStore s (lampTest s) := by
  unfold lampTest
  split
  · exact setState_keepsStore (joiningExit_ne_config s) s
  · split
    · split
      · exact (setState_keepsStore (by nofun) s).trans (.of_blocks rfl rfl rfl rfl)
      · exact .refl s
    · split
      · exact setState_keepsStore (by nofun) s
      · exact .refl s
    · exact joiningTest_keepsStore s
    · exact .refl s
    · exact .refl s

theorem recomputeView_keepsStore (s : State) : KeepsStore s (recomputeView s) :=
  .of_blocks (by simp) (by simp) (by simp) (by simp)

theorem changeEntry_keepsStore (n : StationNo) (e : PeerEntry) (s : State) : KeepsStore s (changeEntry n e s) :=
  .of_blocks (by simp) (by simp) (by simp) (by simp)

theorem weighReference_keepsStore (s : State) : KeepsStore s (weighReference s) :=
  ⟨rfl, rfl, rfl, chooseReference_cutoffTaken .., id⟩

theorem weighIfChanged_keepsStore (b s : State) : KeepsStore s (weighIfChanged b s) := by
  unfold weighIfChanged
  split
  · exact .refl s
  · exact weighReference_keepsStore s

theorem toReference_cutoffTaken (own : StationNo) (period : Nat) (c : Cadence) :
    (toReference own period c).cutoffTaken = c.cutoffTaken := setReference_cutoffTaken ..

theorem hearPeer_keepsStore (s : State) : KeepsStore s (hearPeer s) := by
  unfold hearPeer
  dsimp only
  split
  · split
    · exact (weighReference_keepsStore _).after ⟨rfl, rfl, rfl, rfl, id⟩
    · exact .of_blocks rfl rfl rfl rfl
  · exact .of_blocks rfl rfl rfl rfl

/-! ### The seam link -/

theorem takeStartMark_keepsStore (joined : Nat) (s : State) : KeepsStore s (takeStartMark joined s) := by
  unfold takeStartMark beginOffer
  (repeat' split) <;> exact .of_blocks rfl rfl rfl rfl

theorem returnToQueue_keepsStore (m : OnLine) (n : Nat) (b : Bool) (s : State) :
    KeepsStore s (returnToQueue m n b s) := .of_blocks (by simp) (by simp) (by simp) (by simp)

theorem takeArbitrationLoss_keepsStore (s : State) : KeepsStore s (takeArbitrationLoss s) := by
  unfold takeArbitrationLoss
  split
  · exact (returnToQueue_keepsStore ..).after (.of_blocks rfl rfl rfl rfl)
  · exact .refl s

theorem takeStuck_keepsStore (s : State) : KeepsStore s (takeStuck s) := by
  rw [takeStuck_eq]; exact .of_blocks rfl rfl rfl rfl

theorem takeStartMarkSeen_keepsStore (c2 c3 c4 : Bool) (run : Nat) (s : State) :
    KeepsStore s (takeStartMarkSeen c2 c3 c4 run s) := by
  unfold takeStartMarkSeen takeMark
  dsimp only
  (repeat' split) <;> exact .of_blocks rfl rfl rfl rfl

theorem takeShort_keepsStore (c : ShortCause) (run : Nat) (s : State) : KeepsStore s (takeShort c run s) := by
  rw [takeShort_frame]; exact .of_blocks rfl rfl rfl rfl

theorem takeStray_keepsStore (width : Nat) (s : State) : KeepsStore s (takeStray width s) := by
  unfold takeStray; split <;> exact .of_blocks rfl rfl rfl rfl

/-! ### Messages -/

theorem actOnPulse_keepsStore (n : StationNo) (f : PulseFields) (s : State) : KeepsStore s (actOnPulse n f s) := by
  unfold actOnPulse storePulse mismatchPulse
  dsimp only
  split
  · split
    · exact changeEntry_keepsStore ..
    · exact .refl s
  · split
    · exact changeEntry_keepsStore ..
    · exact (changeEntry_keepsStore ..).trans (.of_blocks rfl rfl rfl rfl)

theorem actOnReady_keepsStore (n : StationNo) (f : FrameNo) (s : State) : KeepsStore s (actOnReady n f s) := by
  unfold actOnReady; dsimp only; split <;> exact .of_blocks rfl rfl rfl rfl

theorem actOnLeave_keepsStore (n : StationNo) (r : BitVec 4) (s : State) : KeepsStore s (actOnLeave n r s) := by
  unfold actOnLeave
  dsimp only
  split
  · exact .refl s
  · exact changeEntry_keepsStore ..

/-! ### Consequences of a frame start -/

theorem takeSilent_keepsStore (n : StationNo) (o : SameInstant) (s : State) : KeepsStore s (takeSilent n o s) :=
  ((((changeEntry_keepsStore ..).trans (recomputeView_keepsStore _)).trans (weighIfChanged_keepsStore s _)).trans
    (lockTest_keepsStore s _)).trans (applyOrder_keepsStore o s _)

theorem takeIsolated_keepsStore (o : SameInstant) (s : State) : KeepsStore s (takeIsolated o s) :=
  have held : KeepsStore s
      ((raiseFault (s.modPt fun t => { t with condition := .isolated })).modCu (toHold s.profile.period)) :=
    ⟨rfl, rfl, rfl, rfl, id⟩
  (held.trans (lockTest_keepsStore s _)).trans (applyOrder_keepsStore o s _)

theorem becomeReference_keepsStore (o : SameInstant) (s : State) : KeepsStore s (becomeReference o s) :=
  have led : KeepsStore s (s.modCu (toReference s.profile.station s.profile.period)) :=
    ⟨rfl, rfl, rfl, toReference_cutoffTaken .., id⟩
  (led.trans (lockTest_keepsStore s _)).trans (applyOrder_keepsStore o s _)

theorem takeColdStartTest_keepsStore (o : SameInstant) (s : State) : KeepsStore s (takeColdStartTest o s) := by
  unfold takeColdStartTest
  split
  · exact becomeReference_keepsStore o s
  · exact .refl s

theorem takeOrphanTest_keepsStore (o : SameInstant) (s : State) : KeepsStore s (takeOrphanTest o s) := by
  unfold takeOrphanTest
  split
  · exact becomeReference_keepsStore o s
  · exact .refl s

theorem takeLockTimeout_keepsStore (o : SameInstant) (s : State) : KeepsStore s (takeLockTimeout o s) :=
  have waived : KeepsStore s (s.modSc fun c => { c with lockWaived := true }) := ⟨rfl, rfl, rfl, rfl, id⟩
  (waived.trans (joiningTest_keepsStore _)).trans (applyOrder_keepsStore o s _)

theorem takePassComplete_keepsStore (s : State) : KeepsStore s (takePassComplete s) := by
  unfold takePassComplete
  exact (recomputeView_keepsStore _).after ((runPass_keepsStore s).trans (.of_blocks rfl rfl rfl rfl))

/-! ### Lamp -/

theorem announceLamp_keepsStore (before : Nat) (s : State) : KeepsStore s (announceLamp before s) := by
  unfold announceLamp
  split
  · exact .refl s
  · exact (recomputeView_keepsStore s).trans (lampTest_keepsStore _)

theorem formAverage_keepsStore (s : State) : KeepsStore s (formAverage s) := by
  unfold formAverage
  dsimp only
  split <;> exact (announceLamp_keepsStore ..).after (.of_blocks rfl rfl rfl rfl)

theorem takeSequenceCode_keepsStore (code : Nat) (s : State) : KeepsStore s (takeSequenceCode code s) := by
  unfold takeSequenceCode completeSequence
  split
  · exact .refl s
  · dsimp only
    split
    · exact .of_blocks rfl rfl rfl rfl
    · split
      · exact (formAverage_keepsStore _).after (.of_blocks rfl rfl rfl rfl)
      · exact .of_blocks rfl rfl rfl rfl

theorem takeManualCode_keepsStore (code : BitVec 12) (s : State) : KeepsStore s (takeManualCode code s) := by
  unfold takeManualCode; split <;> exact .of_blocks rfl rfl rfl rfl

/-! ### Bursts and output pixels -/

theorem settleStore_keepsStore (s : State) : KeepsStore s (settleStore s) :=
  ⟨by simp, by simp, by simp, by simp, by simp⟩

theorem endBurst_keepsStore (s : State) : KeepsStore s (endBurst s) := ⟨by simp, by simp, by simp, by simp, by simp⟩

theorem beginOutputFrame_keepsStore (s : State) : KeepsStore s (beginOutputFrame s) :=
  ⟨by simp, by simp, by simp, by simp, by simp⟩

theorem takeWriteBurst_keepsStore (s : State) : KeepsStore s (takeWriteBurst s) := by
  unfold takeWriteBurst
  split
  · split
    · exact (endBurst_keepsStore _).after ⟨rfl, rfl, rfl, rfl, id⟩
    · exact endBurst_keepsStore s
  · exact .refl s

theorem noteFailedBurst_keepsStore (n : Need) (s : State) : KeepsStore s (noteFailedBurst n s) := by
  unfold noteFailedBurst; dsimp only; split <;> exact ⟨rfl, rfl, rfl, rfl, id⟩

theorem takeReadBurst_keepsStore (u : List Upset) (s : State) : KeepsStore s (takeReadBurst u s) := by
  unfold takeReadBurst
  split
  · next n kept _ =>
    have fetched (bytes : List (Byte × Byte)) : KeepsStore s (if kept = true then s.modFs (fetchBurst n bytes) else s) := by
      split
      · exact ⟨rfl, rfl, rfl, rfl, id⟩
      · exact .refl s
    dsimp only
    split
    · exact ((fetched _).trans (noteFailedBurst_keepsStore n _)).trans (endBurst_keepsStore _)
    · exact (fetched _).trans (endBurst_keepsStore _)
  · exact .refl s

theorem noteUnderrun_keepsStore (s : State) : KeepsStore s (noteUnderrun s) := by
  unfold noteUnderrun; split <;> exact .of_blocks rfl rfl rfl rfl

theorem formPixel_keepsStore (y x : Nat) (s : State) : KeepsStore s (formPixel y x s) := by
  have sent (p : Pixel) : KeepsStore s (sendPixel p (s.modFs noteOccupancy)) := ⟨rfl, rfl, rfl, rfl, id⟩
  unfold formPixel
  split
  · unfold formPicturePixel
    dsimp only
    split
    · exact (sent _).trans (noteUnderrun_keepsStore _)
    · exact sent _
    · split
      · exact ⟨rfl, rfl, rfl, rfl, id⟩
      · exact sent _
  · exact .of_blocks rfl rfl rfl rfl
  · exact .of_blocks rfl rfl rfl rfl
  · exact .refl s

theorem takePixelDue_keepsStore (s : State) : KeepsStore s (takePixelDue s) := by
  unfold takePixelDue stepPosition
  split
  · next y x _ =>
    exact (settleStore_keepsStore _).after ((formPixel_keepsStore y x s).trans ⟨rfl, rfl, rfl, rfl, id⟩)
  · exact .refl s

end Sys2Proof.Machine

/-! SUPPORT. Input frames (R152 to R158) and the order of the store: a frame that ends short, a slot taken, a frame judged. -/

namespace Sys2Proof.Machine

/-! ### The slot being filled (R150) -/

theorem fillingSlot_eq_some {l : List Slot} {i : SlotNo} (h : fillingSlot l = some i) : slotAt l i = .filling := by
  simpa using List.find?_some h

theorem fillingSlot_eq_none {l : List Slot} (h : fillingSlot l = none) (i : SlotNo) : slotAt l i ≠ .filling := by
  simpa using List.find?_eq_none.mp h i (List.mem_finRange i)

theorem lowestFree_eq_some {l : List Slot} {i : SlotNo} (h : lowestFree l = some i) : slotAt l i = .free := by
  simpa using List.find?_some h

/-- The slot of lowest rank among the unchosen READY ones is one of these (R153). -/
theorem oldestUnchosen_eq_some {l : List Slot} {i : SlotNo} (h : oldestUnchosen l = some i) :
    ∃ f r, slotAt l i = .ready f r false := by
  obtain ⟨⟨q, j⟩, found, rfl⟩ := Option.map_eq_some_iff.mp h
  refine List.foldlRecOn (motive := fun acc => ∀ q j, acc = some (q, j) → ∃ f r, slotAt l j = .ready f r false)
    (List.finRange 4) _ (fun _ _ none_yet => by cases none_yet) (fun acc old k _ q j taken => ?_) q j found
  split at taken
  · next f r p i slot =>
    split at taken
    · cases taken
      exact ⟨f, _, slot⟩
    · exact old q j taken
  · next f r slot =>
    cases taken
    exact ⟨f, _, slot⟩
  · exact old q j taken

/-! ### The SHOWN frame over a rewritten slot -/

theorem shownFrame_renumber (l : List Slot) : shownFrame (renumber l) = shownFrame l :=
  shownFrame_congr fun i f => by rw [slotAt_renumber_eq, withRank_eq_shown_iff]

theorem shownFrame_setSlot {l : List Slot} {i : SlotNo} {x : Slot} (before : ∀ f, slotAt l i ≠ .shown f)
    (after : ∀ f, x ≠ .shown f) : shownFrame (setSlot i x l) = shownFrame l := by
  refine shownFrame_congr fun j f => ?_
  by_cases same : j = i
  · rw [same, slotAt_setSlot_same]
    exact iff_of_false (after f) (before f)
  · rw [slotAt_setSlot_ne same]

/-! ### Slots after an input frame (R153, R155 to R158) -/

/-- Slots in order with none FILLING, and the SHOWN frame of `l`: what the end of an input frame leaves. -/
structure FrameEnded (d : Decision) (l m : List Slot) : Prop where
  held : SlotsHeld d m
  filling : ∀ i, slotAt m i ≠ .filling
  shown : shownFrame m = shownFrame l

section

variable {d : Decision} {l : List Slot} {i : SlotNo} (h : SlotsHeld d l)

include h

theorem SlotsHeld.ended (none_filling : ∀ i, slotAt l i ≠ .filling) : FrameEnded d l l := ⟨h, none_filling, rfl⟩

/-- The slot of a frame that is not kept becomes FREE (R155 to R158). -/
theorem SlotsHeld.freed (filling : slotAt l i = .filling) : FrameEnded d l (Machine.renumber (setSlot i .free l)) where
  held := h.vacated (by rw [filling]; rfl) (.inl rfl)
  filling j hj := by
    rw [slotAt_renumber_eq, withRank_eq_filling_iff, setSlot, slotAt_mapSlots] at hj
    split at hj
    · cases hj
    · next differ => exact differ (h.apart.filling j i hj filling)
  shown := (shownFrame_renumber _).trans (shownFrame_setSlot (by rw [filling]; nofun) fun _ => nofun)

/-- The slot of a frame that is kept becomes READY (R156). -/
theorem SlotsHeld.stored {n : FrameNo} (filling : slotAt l i = .filling) (newest : newerThanAll l n = true) :
    FrameEnded d l (setSlot i (.ready n (readyCount l + 1) false) l) where
  held := h.readied filling ((newerThanAll_iff h.apart.full n).mp newest)
  filling j hj := by
    rw [setSlot, slotAt_mapSlots] at hj
    split at hj
    · cases hj
    · next differ => exact differ (h.apart.filling j i hj filling)
  shown := shownFrame_setSlot (by rw [filling]; nofun) fun _ => nofun

end

/-! ### A frame that ends short, and a frame judged (R156 to R158) -/

/-- From `s` to `t` an input frame ends: the slots are left as `FrameEnded` says, and nothing else of the store's order but
the port may change. -/
structure EndsFrame (s t : State) : Prop where
  slots : FrameEnded s.swu s.fs.slots t.fs.slots
  swu : t.swu = s.swu
  cutoff : t.cu.cutoffTaken = s.cu.cutoffTaken
  state : t.sc.state = s.sc.state

/-- A frame in progress ends short, and where none is nothing changes (R152, R157, R158). -/
theorem endFrameInProgress_ends {s : State} (h : StoreSound s) :
    EndsFrame s (if s.fs.frameInProgress then endFrameShort s else s) := by
  split
  · unfold endFrameShort
    split
    · next none_found => exact ⟨h.held.ended (fillingSlot_eq_none none_found), rfl, rfl, rfl⟩
    · next i found =>
      have freed := h.held.freed (fillingSlot_eq_some found)
      dsimp only
      split
      · exact ⟨freed, rfl, rfl, rfl⟩
      · exact ⟨freed, rfl, rfl, rfl⟩
  · next idle => exact ⟨h.held.ended fun i hi => idle (h.filling i hi), rfl, rfl, rfl⟩

/-- A judged frame leaves its slot FREE or READY (R156). -/
theorem judgeFrame_ends {s : State} {i : SlotNo} (h : StoreSound s) (filling : slotAt s.fs.slots i = .filling) :
    EndsFrame s (judgeFrame i s) := by
  have freed := h.held.freed filling
  unfold judgeFrame
  split
  · exact ⟨freed, rfl, rfl, rfl⟩
  · split
    · exact ⟨freed, rfl, rfl, rfl⟩
    · split
      · next newest => exact ⟨h.held.stored filling newest, rfl, rfl, rfl⟩
      · exact ⟨freed, rfl, rfl, rfl⟩

/-- An input frame that has ended leaves the store in order, whatever the port then is. -/
theorem EndsFrame.carries {s t u : State} (h : EndsFrame s t) (running : s.sc.state ≠ .config)
    (slots : u.fs.slots = t.fs.slots) (swu : u.swu = t.swu) (cutoff : u.cu.cutoffTaken = t.cu.cutoffTaken)
    (state : u.sc.state = t.sc.state) (hs : StoreSound s) :
    StoreSound u ∧ shownFrame u.fs.slots = shownFrame s.fs.slots := by
  refine ⟨hs.of_slots (slots ▸ h.slots.held) (swu.trans h.swu) (cutoff.trans h.cutoff)
    (by rwa [state, h.state]) fun i hi => ?_, slots ▸ h.slots.shown⟩
  rw [slots] at hi
  exact absurd hi (h.slots.filling i)

/-! ### A slot taken (R153) -/

/-- The writer takes a FREE slot or drops the oldest unchosen READY frame, where no slot is FILLING (R153). -/
theorem takeSlot_held {d : Decision} {s : State} (h : SlotsHeld d s.fs.slots)
    (none_filling : ∀ i, slotAt s.fs.slots i ≠ .filling) :
    SlotsHeld d (takeSlot s).fs.slots ∧ shownFrame (takeSlot s).fs.slots = shownFrame s.fs.slots := by
  unfold takeSlot
  split
  · next i found =>
    have free := lowestFree_eq_some found
    exact ⟨h.filled free none_filling, shownFrame_setSlot (by rw [free]; nofun) nofun⟩
  · split
    · next i found =>
      obtain ⟨f, r, ready⟩ := oldestUnchosen_eq_some found
      exact ⟨h.vacated (by rw [ready]; rfl) (.inr ⟨rfl, fun j _ => none_filling j⟩),
        (shownFrame_renumber _).trans (shownFrame_setSlot (by rw [ready]; nofun) nofun)⟩
    · exact ⟨h, rfl⟩

theorem takeSlot_rest (s : State) : (takeSlot s).swu = s.swu ∧ (takeSlot s).cu = s.cu ∧ (takeSlot s).sc = s.sc := by
  unfold takeSlot; (repeat' split) <;> exact ⟨rfl, rfl, rfl⟩

/-! ### The pixel rows that move slots (R152 to R158) -/

theorem takeInputFrameStart_carries {s : State} (running : s.sc.state ≠ .config) :
    CarriesStore s (takeInputFrameStart s) := by
  unfold takeInputFrameStart
  dsimp only
  refine .trans (fun hs => ?_) (.of_keeps (settleStore_keepsStore _))
  obtain ⟨slots, swu, cutoff, state⟩ := endFrameInProgress_ends hs
  generalize (if s.fs.frameInProgress then endFrameShort s else s) = ended at *
  obtain ⟨swu', cu', sc'⟩ := takeSlot_rest ended
  obtain ⟨held, shown⟩ := takeSlot_held slots.held slots.filling
  exact ⟨hs.of_slots held (swu'.trans swu) ((congrArg Cadence.cutoffTaken cu').trans cutoff)
    (by rw [← state, ← sc'] at running; exact running) fun _ _ => rfl, shown.trans slots.shown⟩

theorem takeTrailerEnd_carries {s : State} (running : s.sc.state ≠ .config) : CarriesStore s (takeTrailerEnd s) := by
  unfold takeTrailerEnd
  dsimp only
  refine .trans (fun hs => ?_) (.of_keeps (settleStore_keepsStore _))
  split
  · next i found => exact (judgeFrame_ends hs (fillingSlot_eq_some found)).carries running rfl rfl rfl rfl hs
  · next none_found =>
    have ended : EndsFrame s s := ⟨hs.held.ended (fillingSlot_eq_none none_found), rfl, rfl, rfl⟩
    exact ended.carries running rfl rfl rfl rfl hs

theorem takeInputLoss_carries {s : State} (running : s.sc.state ≠ .config) : CarriesStore s (takeInputLoss s) := by
  unfold takeInputLoss
  dsimp only
  refine .trans (fun hs => ?_) (.of_keeps (settleStore_keepsStore _))
  exact (endFrameInProgress_ends hs).carries running rfl rfl rfl rfl hs

/-! ### The pixel rows that keep slots (R154) -/

theorem placePixel_slots (wi : Nat) (px : Pixel) (f : FrameStore) :
    (placePixel wi px f).slots = f.slots ∧ (placePixel wi px f).port = f.port := by
  unfold placePixel; dsimp only; (repeat' split) <;> exact ⟨rfl, rfl⟩

theorem fillOut_slots (wi : Nat) (px : Pixel) (n : Nat) (f : FrameStore) : (fillOut wi px n f).slots = f.slots := by
  induction n generalizing f with
  | zero => rfl
  | succ n ih => exact (ih _).trans (placePixel_slots ..).1

theorem takePixel_keepsStore (px : Pixel) (s : State) : KeepsStore s (takePixel px s) := by
  unfold takePixel
  split
  · split
    · obtain ⟨slots, port⟩ := placePixel_slots s.profile.inWidth px { s.fs with lineLast := px }
      exact (settleStore_keepsStore _).after ⟨slots, port, rfl, rfl, id⟩
    · exact .refl s
  · split
    · exact ⟨rfl, rfl, rfl, rfl, id⟩
    · exact .refl s
  all_goals exact .refl s

/-- A line's end moves the port within a frame in progress (R152, R154). -/
theorem takeLineEnd_carries {s : State} (running : s.sc.state ≠ .config) : CarriesStore s (takeLineEnd s) := by
  unfold takeLineEnd
  dsimp only
  refine .trans (fun hs => ?_) (.of_keeps (settleStore_keepsStore _))
  have slots := fillOut_slots s.profile.inWidth s.fs.lineLast (s.profile.inWidth - s.fs.linePixels) s.fs
  refine ⟨hs.of_slots (slots.symm ▸ hs.held) rfl rfl running fun _ _ => ?_, congrArg shownFrame slots⟩
  rw [FrameStore.frameInProgress, State.modFs_fs]
  dsimp only
  split <;> rfl

end Sys2Proof.Machine

/-! SUPPORT. The order of the store over the cutoff, a reference PULSE, an own frame start, START, PROFILE and the entry to
CONFIG, and over one step (R86, R90 to R92, R151, R157, R166). -/

namespace Sys2Proof.Machine

/-! ### The cutoff (R72, R90, R91) -/

/-- Slots in order beside a record that names no slot are in order beside any such record. -/
theorem SlotsHeld.undecided {d e : Decision} {l : List Slot} (h : SlotsHeld d l) (hd : d.slot? = none)
    (he : e.slot? = none) : SlotsHeld e l where
  apart := h.apart
  counted := h.counted
  chosen i hi := by cases hd.symm.trans (h.chosen i hi)
  stands := by
    cases e with
    | swap f i => cases he
    | none => rfl
    | hold => rfl

/-- The decision leaves slots in order beside its record, the same slots FILLING (R90, R91). -/
theorem decideSwap_held {s : State} (h : SlotsHeld s.swu s.fs.slots) (undecided : s.swu.slot? = none) :
    SlotsHeld (decideSwap s).swu (decideSwap s).fs.slots ∧
      ∀ i, slotAt (decideSwap s).fs.slots i = .filling → slotAt s.fs.slots i = .filling := by
  have hold : SlotsHeld .hold s.fs.slots := h.undecided undecided rfl
  unfold decideSwap
  split
  · exact ⟨hold, fun _ => id⟩
  · split
    · split
      · next f _ _ i found =>
        obtain ⟨r, c, ready⟩ := readySlotOf_eq_some found
        refine ⟨h.decided undecided ready, fun j hj => ?_⟩
        rw [State.setSwu_fs, State.modFs_fs] at hj
        rwa [slotAt_chooseSlot, marked_eq_filling_iff] at hj
      · exact ⟨hold, fun _ => id⟩
    · exact ⟨hold, fun _ => id⟩

/-- The decision touches the record, the chosen marks and SWAPMISS (R90, R91). -/
theorem decideSwap_frame (s : State) : decideSwap s = { s with
    swu := (decideSwap s).swu, fs := { s.fs with slots := (decideSwap s).fs.slots },
    counters := { s.counters with swapMiss := (decideSwap s).counters.swapMiss } } := by
  unfold decideSwap
  (repeat' split) <;> rfl

/-- The first cutoff of a period leaves the store in order (R72, R90, R91). -/
theorem takeCutoff_carries {s : State} (first : s.cu.cutoffTaken = false) : CarriesStore s (takeCutoff s) := by
  intro hs
  have undecided : s.swu = .none := hs.timed.resolve_right (by simp [first])
  refine ⟨?_, shownFrame_takeCutoff s⟩
  unfold takeCutoff
  dsimp only
  split
  · next running =>
    obtain ⟨held, filling⟩ := decideSwap_held (s := s.modCu fun c => { c with cutoffTaken := true }) hs.held
      (by rw [State.modCu_swu, undecided]; rfl)
    have frame := decideSwap_frame (s.modCu fun c => { c with cutoffTaken := true })
    have config : (decideSwap (s.modCu fun c => { c with cutoffTaken := true })).sc.state ≠ .config := by
      rw [frame]
      exact ne_config_of_running running
    refine ⟨held, fun i hi => ?_, fun h => absurd h config, .inr (by rw [frame]; rfl), fun h => absurd h config⟩
    rw [frame]
    exact hs.filling i (filling i hi)
  · exact ⟨hs.held, hs.filling, hs.off, .inr rfl, hs.idle⟩

theorem applyCorrection_cutoffTaken (p : Profile) (now : Nat) (e : Int) (c : Cadence) :
    (applyCorrection p now e c).1.cutoffTaken = c.cutoffTaken := by
  unfold applyCorrection
  dsimp only
  (repeat' split) <;> rfl

/-- A reference PULSE leaves the store in order: it brings the cutoff on only where none has been (R77, R78). -/
theorem takeReferencePulse_carries (ts : Int) (beat : BitVec 8) (s : State) :
    CarriesStore s (takeReferencePulse ts beat s) := by
  have tested : KeepsStore s (s.modCu fun c => freeTest s.profile (beatDelta c ts beat) c) :=
    ⟨rfl, rfl, rfl, freeTest_cutoffTaken .., id⟩
  have corrected (u : State) (e : Int) : CarriesStore u
      ((if (applyCorrection s.profile u.now e u.cu).2 = true then
          takeCutoff (u.modCu fun _ => (applyCorrection s.profile u.now e u.cu).1)
        else u.modCu fun _ => (applyCorrection s.profile u.now e u.cu).1).modCu (lockRule s.profile e)) := by
    have moved : KeepsStore u (u.modCu fun _ => (applyCorrection s.profile u.now e u.cu).1) :=
      ⟨rfl, rfl, rfl, applyCorrection_cutoffTaken .., id⟩
    have ruled (v : State) : KeepsStore v (v.modCu (lockRule s.profile e)) :=
      ⟨rfl, rfl, rfl, lockRule_cutoffTaken .., id⟩
    split
    · next atOnce =>
      have first := moved.cutoff.trans (applyCorrection_at_once atOnce)
      exact ((CarriesStore.of_keeps moved).trans (takeCutoff_carries first)).trans (.of_keeps (ruled _))
    · exact .of_keeps (moved.trans (ruled _))
  have noted (v : State) : KeepsStore v (v.modCu fun c => { c with previous := some { tRef := ts, beat := beat } }) :=
    ⟨rfl, rfl, rfl, rfl, id⟩
  have weighed (v : State) : KeepsStore v (if v.cu.lock = s.cu.lock then v else weighReference v) := by
    split
    · exact .refl v
    · exact weighReference_keepsStore v
  unfold takeReferencePulse
  dsimp only
  refine .trans (.trans ?_ (.of_keeps (noted _))) (.of_keeps (weighed _))
  split
  · exact (CarriesStore.of_keeps tested).trans (corrected _ _)
  · exact .of_keeps tested

/-! ### Messages (R45, R52) -/

theorem handPulseOn_carries (n : StationNo) (f : PulseFields) (t0 : Nat) (s : State) :
    CarriesStore s (handPulseOn n f t0 s) := by
  have timed (ts : Int) : CarriesStore s (if s.cu.takesPulse n = true then takeReferencePulse ts f.beat s else s) := by
    split
    · exact takeReferencePulse_carries ts f.beat s
    · exact .refl s
  have examined (ts : Int) (u : State) :
      KeepsStore u (if (u.pt.entry n).status = .live then examinePulse ts f.lock f.shown u else u) := by
    split
    · exact .of_blocks (by simp) (by simp) (by simp) (by simp)
    · exact .refl u
  rw [handPulseOn]
  split
  · exact (timed _).trans (.of_keeps (examined _ _))
  · exact .refl s

/-- The end of a received message carries the store where acting on the message and handing it on do (R45, R52). -/
theorem takeMessage_carries {act handOn : State → State} (hact : ∀ u, KeepsStore u (act u))
    (hand : ∀ u, CarriesStore u (handOn u)) {length : Nat} {crc : Byte} {v : Verdict} (s : State) :
    CarriesStore s (takeMessage length crc v (deliverMessage act handOn) s) := by
  cases v with
  | checkFail => exact .of_keeps (.of_blocks rfl rfl rfl rfl)
  | duplicate => exact .of_keeps (.of_blocks rfl rfl rfl rfl)
  | deliver =>
    have ended : KeepsStore s (endReception length crc s) := .of_blocks rfl rfl rfl rfl
    have acted := (ended.trans (hearPeer_keepsStore _)).trans (hact _)
    have viewed := acted.trans (recomputeView_keepsStore _)
    have weighed := viewed.trans (weighIfChanged_keepsStore (hearPeer (endReception length crc s)) _)
    exact ((CarriesStore.of_keeps weighed).trans (hand _)).trans (.of_keeps (lockTest_keepsStore ..))

/-! ### What a step does to the SHOWN frame -/

/-- From `s` to `t` the SHOWN frame stays, is replaced by a newer one, or is lost at an entry to CONFIG. -/
def ShownMoves (s t : State) : Prop :=
  shownFrame t.fs.slots = shownFrame s.fs.slots ∨
    (∃ g, shownFrame t.fs.slots = some g ∧ ∀ f, shownFrame s.fs.slots = some f → newer g f = true) ∨
    (shownFrame t.fs.slots = none ∧ t.sc.state = .config)

/-- From `s` to `t` a store in order stays so, and its SHOWN frame moves as it may. -/
def StoreAdvances (s t : State) : Prop := StoreSound s → StoreSound t ∧ ShownMoves s t

theorem StoreAdvances.of_carries {s t : State} (h : CarriesStore s t) : StoreAdvances s t := fun hs =>
  ⟨(h hs).1, .inl (h hs).2⟩

theorem StoreAdvances.of_keeps {s t : State} (h : KeepsStore s t) : StoreAdvances s t :=
  .of_carries (.of_keeps h)

theorem StoreAdvances.after {s t u : State} (k : StoreAdvances t u) (h : KeepsStore s t) : StoreAdvances s u := by
  intro hs
  obtain ⟨sound, moves⟩ := k (h.sound hs)
  rw [ShownMoves, h.slots] at moves
  exact ⟨sound, moves⟩

/-! ### The entry to CONFIG (R15, R17, R166) -/

/-- The store of a part in CONFIG that has just been entered: every slot FREE, the port off, no decision. -/
structure StoreEmptied (t : State) : Prop where
  slots : t.fs.slots = List.replicate 4 .free
  port : t.fs.port = .off
  swu : t.swu = .none
  config : t.sc.state = .config

theorem StoreEmptied.advances {s t : State} (h : StoreEmptied t) : StoreAdvances s t := by
  have free (i : SlotNo) : slotAt t.fs.slots i = .free := by rw [h.slots, slotAt_replicate_free]
  have full : t.fs.slots.length = 4 := by rw [h.slots]; rfl
  refine fun _ => ⟨⟨h.swu ▸ .of_free full free, fun i hi => ?_, fun _ => h.port, .inl h.swu, fun _ => h.swu⟩,
    .inr (.inr ⟨?_, h.config⟩)⟩
  · rw [free] at hi
    cases hi
  · rw [h.slots]
    rfl

theorem enterConfig_emptied (s : State) : StoreEmptied (enterConfig s) := by
  obtain ⟨config, -, -, -, -, swu, -, -, -, fs, -⟩ := enterConfig_enters s
  exact ⟨by rw [fs]; rfl, by rw [fs], swu, config⟩

theorem stopComplete_advances (s : State) : StoreAdvances s (stopComplete s) := by
  unfold stopComplete
  split
  · exact (enterConfig_emptied s).advances
  · exact .of_keeps (.refl s)

theorem takeBitFault_advances (line : LineLevel) (s : State) : StoreAdvances s (takeBitFault line s) := by
  unfold takeBitFault retryOrDrop
  split
  · dsimp only
    split
    · exact .of_keeps ((returnToQueue_keepsStore ..).after (.of_blocks rfl rfl rfl rfl))
    · split
      · exact (stopComplete_advances _).after (.of_blocks rfl rfl rfl rfl)
      · exact .of_keeps (.of_blocks rfl rfl rfl rfl)
  · exact .of_keeps (.refl s)

theorem takeCompletion_advances (s : State) : StoreAdvances s (takeCompletion s) := by
  unfold takeCompletion
  split
  · dsimp only
    split
    · exact (stopComplete_advances _).after (.of_blocks rfl rfl rfl rfl)
    · exact .of_keeps (.of_blocks rfl rfl rfl rfl)
  · exact .of_keeps (.refl s)

theorem softReset_emptied (line : LineLevel) (s : State) : StoreEmptied (softReset line s) := by
  obtain ⟨slots, port, swu, config⟩ := enterConfig_emptied (s.modSlc fun l =>
    if l.busy then setLine line.dominant (s.now - line.run) l else l)
  exact ⟨slots, port, swu, config⟩

/-! ### START and PROFILE (R6, R9, R152) -/

/-- START opens the port of an idle store (R9, R152). -/
theorem startShow_carries {s : State} (config : s.sc.state = .config) : CarriesStore s (startShow s) := by
  intro hs
  have slots : (startShow s).fs.slots = s.fs.slots := by simp [startShow, formViewAfresh, storeStart]
  have swu : (startShow s).swu = s.swu := by simp [startShow, formViewAfresh]
  have cutoff : (startShow s).cu.cutoffTaken = s.cu.cutoffTaken := by simp [startShow, formViewAfresh, cadenceStart]
  have running : (startShow s).sc.state ≠ .config := fun h => by
    rw [startShow, formViewAfresh, engineViewChange_frame, setState_frame] at h
    cases h
  refine ⟨hs.of_slots (slots ▸ hs.held) swu cutoff running fun i hi => ?_, by rw [slots]⟩
  have progress := hs.filling i (slots ▸ hi)
  rw [FrameStore.frameInProgress, hs.off config] at progress
  cases progress

/-- An accepted PROFILE restarts the timer of a part without a decision (R6). -/
theorem acceptProfile_carries {r : RawProfile} {s : State} (config : s.sc.state = .config) :
    CarriesStore s (acceptProfile r s) := by
  intro hs
  have slots : (acceptProfile r s).fs.slots = s.fs.slots := by simp [acceptProfile, latchMarks]
  have port : (acceptProfile r s).fs.port = s.fs.port := by simp [acceptProfile, latchMarks]
  have swu : (acceptProfile r s).swu = .none := by simp [acceptProfile, hs.idle config]
  refine ⟨⟨?_, ?_, fun _ => port.trans (hs.off config), .inl swu, fun _ => swu⟩, by rw [slots]⟩
  · rw [swu, slots, ← hs.idle config]
    exact hs.held
  · rw [slots, FrameStore.frameInProgress, port]
    exact hs.filling

theorem profileCommand_carries (r : RawProfile) (s : State) : CarriesStore s (profileCommand r s) := by
  unfold profileCommand
  split
  · next config =>
    split
    · exact .of_keeps ((setResult_keepsStore ..).after (.of_blocks rfl rfl rfl rfl))
    · exact (acceptProfile_carries config).trans (.of_keeps (setResult_keepsStore ..))
  · exact .of_keeps (setResult_keepsStore ..)

theorem meshCommand_keepsStore (payload : List Byte) (s : State) : KeepsStore s (meshCommand payload s) := by
  unfold meshCommand meshRecords
  dsimp only
  (repeat' split) <;> exact ⟨rfl, rfl, rfl, rfl, id⟩

theorem sampleCommand_keepsStore (channel mode : Byte) (f : Channel → Lamp → Lamp) (s : State) :
    KeepsStore s (sampleCommand channel mode f s) := by
  unfold sampleCommand
  (repeat' split) <;> exact ⟨rfl, rfl, rfl, rfl, id⟩

/-! ### An own frame start (R86, R92, R93) -/

/-- The enactment leaves slots in order beside an empty record, FILLING no slot that was not (R92, R93). -/
theorem enactDecision_held {s : State} (h : SlotsHeld s.swu s.fs.slots) :
    SlotsHeld .none (enactDecision s).fs.slots ∧
      ∀ i, slotAt (enactDecision s).fs.slots i = .filling → slotAt s.fs.slots i = .filling := by
  unfold enactDecision
  split
  · next none_stands => exact ⟨h.undecided (by rw [none_stands]; rfl) rfl, fun _ => id⟩
  · next hold => exact ⟨h.undecided (by rw [hold]; rfl) rfl, fun _ => id⟩
  · next target slot swap =>
    rw [swap] at h
    refine ⟨h.swapped, fun i hi => ?_⟩
    obtain ⟨m, eq, -, shown, rest⟩ := swappedSlots_eq target slot s.fs.slots
    have hi : slotAt (swappedSlots target slot s.fs.slots) i = .filling := hi
    rw [eq, slotAt_renumber_eq, withRank_eq_filling_iff] at hi
    have differ : i ≠ slot := fun same => by cases shown.symm.trans (same ▸ hi)
    obtain ⟨same, -⟩ | ⟨freed, -⟩ := rest i differ
    · exact same ▸ hi
    · cases freed.symm.trans hi

/-- The enactment shows a newer frame or leaves the SHOWN one (R92, R93). -/
theorem enactDecision_moves {s : State} (h : SlotsHeld s.swu s.fs.slots) : ShownMoves s (enactDecision s) := by
  have held := (enactDecision_held h).1
  unfold enactDecision at held ⊢
  split at held
  · exact .inl rfl
  · exact .inl rfl
  · next target slot swap =>
    rw [swap] at h
    obtain ⟨rank, chosen⟩ := (standsOn_swap_iff ..).mp h.stands
    obtain ⟨m, eq, -, shown, -⟩ := swappedSlots_eq target slot s.fs.slots
    refine .inr (.inl ⟨target, (shownFrame_eq_some_iff held.apart.shown target).mpr ⟨slot, ?_⟩, fun f hf => ?_⟩)
    · show slotAt (swappedSlots target slot s.fs.slots) slot = _
      rw [eq, slotAt_renumber_eq, withRank_eq_shown_iff]
      exact shown
    · obtain ⟨i, hi⟩ := (shownFrame_eq_some_iff h.apart.shown f).mp hf
      exact h.apart.newer_of_shown hi chosen

theorem periodBegun_advances (s : State) : StoreAdvances s s.periodBegun := by
  intro hs
  let timed : State := s.modCu (timerFrameStart s.profile.period (micros s.now))
  obtain ⟨held, filling⟩ := enactDecision_held (s := timed) hs.held
  have swu : s.periodBegun.swu = .none := by rw [State.periodBegun, State.modFs_swu, enactDecision_frame]
  have port : s.periodBegun.fs.port = s.fs.port := enactDecision_fs_port timed
  refine ⟨⟨swu ▸ held, fun i hi => ?_, fun config => ?_, .inl swu, fun _ => swu⟩, ?_⟩
  · rw [FrameStore.frameInProgress, port]
    exact hs.filling i (filling i hi)
  · rw [periodBegun_sc] at config
    exact port.trans (hs.off config)
  · have moves := enactDecision_moves (s := timed) hs.held
    exact moves

theorem frameCounted_keepsStore (s : State) : KeepsStore s s.frameCounted where
  slots := by simp [State.frameCounted]
  port := by simp [State.frameCounted]
  swu := by simp [State.frameCounted]
  cutoff := by simp [State.frameCounted, frameCounts]
  config := by rw [frameCounted_state]; exact id

theorem frameStartRunning_keepsStore (order : SameInstant) (s : State) : KeepsStore s (frameStartRunning order s) := by
  have promoted (u : State) : KeepsStore u (promote u) := .of_blocks (by simp) (by simp) (by simp) (by simp)
  have tested : KeepsStore s (s.frameTested order) := by
    unfold State.frameTested
    split
    · exact ((frameCounted_keepsStore s).trans (promoted _)).trans (joiningTest_keepsStore _)
    · exact (((frameCounted_keepsStore s).trans (beginOutputFrame_keepsStore _)).trans (promoted _)).trans (joiningTest_keepsStore _)
  have pulsed (p : PulseRequest) (u : State) : KeepsStore u (requestPulse p u) := .of_blocks rfl rfl rfl rfl
  rw [frameStartRunning_eq]
  split
  · exact (tested.trans (pulsed _ _)).trans (beginOutputFrame_keepsStore _)
  · exact tested.trans (pulsed _ _)

theorem StoreAdvances.followed {s t u : State} (h : StoreAdvances s t) (k : KeepsStore t u)
    (state : t.sc.state = .config → u.sc.state = .config) : StoreAdvances s u := by
  intro hs
  obtain ⟨sound, moves⟩ := h hs
  refine ⟨k.sound sound, ?_⟩
  rw [ShownMoves, k.slots]
  exact moves.imp_right (.imp_right (.imp_right state))

theorem takeFrameStart_advances (order : SameInstant) (s : State) : StoreAdvances s (takeFrameStart order s) := by
  cases running : s.running with
  | false =>
    rw [takeFrameStart_of_not_running order running]
    exact (periodBegun_advances s).followed (beginOutputFrame_keepsStore _) (by simp)
  | true =>
    rw [takeFrameStart_of_running order running]
    refine (periodBegun_advances s).followed (frameStartRunning_keepsStore order _) fun config => ?_
    rw [periodBegun_sc] at config
    exact absurd config (ne_config_of_running running)

/-! ### One step -/

/-- An event lets the store advance where its effect does, met where it is due. -/
theorem storeAdvances_eventWhen {dt : Nat} {s t : State} {due : State → Bool} {f : State → State}
    (h : eventWhen dt s due f = .next t) (hf : ∀ u, due u = true → StoreAdvances u (f u)) : StoreAdvances s t := by
  have advanced : KeepsStore s (s.advance dt) := .of_blocks rfl rfl rfl rfl
  simp only [eventWhen, event, Host.Outcome.next.injEq] at h
  subst h
  split
  · exact .of_keeps advanced
  · split
    · next due_now => exact (hf _ due_now).after advanced
    · exact .of_keeps advanced

theorem storeAdvances_actionCommand {dt : Nat} {s t : State} {f : State → State}
    (h : actionCommand dt s f = .next t) (hf : ∀ u, StoreAdvances u (f u)) : StoreAdvances s t := by
  unfold actionCommand at h
  exact storeAdvances_eventWhen h fun u _ => (hf _).after (.of_blocks rfl rfl rfl rfl)

theorem storeAdvances_readCommand {dt : Nat} {s t : State} {record : State → List Byte} {f : State → State}
    (h : readCommand dt s record f = .next t) (hf : ∀ u, KeepsStore u (f u)) : StoreAdvances s t := by
  unfold readCommand at h
  exact storeAdvances_eventWhen h fun u _ => .of_keeps ((hf u).trans (.of_blocks rfl rfl rfl rfl))

/-- An event whose effect keeps the store lets it advance. -/
theorem KeepsStore.eventWhen {dt : Nat} {s t : State} {due : State → Bool} {f : State → State}
    (h : eventWhen dt s due f = .next t) (hf : ∀ u, KeepsStore u (f u)) : StoreAdvances s t :=
  storeAdvances_eventWhen h fun u _ => .of_keeps (hf u)

theorem ne_config_of_portOpen {s : State} (h : s.portOpen = true) : s.sc.state ≠ .config :=
  ne_config_of_running (Bool.and_eq_true_iff.mp h).1

/-- Every command lets the store advance. -/
theorem storeAdvances_exec {c : Instr} {s t : State} (h : exec c s = .next t) : StoreAdvances s t := by
  cases c <;> simp only [exec, execProfile, execMesh, execStart, execStop, execReset, execSampleSingle,
    execSampleContinuous, execSampleStop, execStatus, execPeers, execCounters, execTrap, execReadSample, execUnknown,
    execLength, execHardwareReset, execRstnRelease, execFrameStart, execCutoff, execStartMarkBegin,
    execArbitrationLost, execBitFault, execMessageComplete, execPulseExpired, execStuck, execLinkNormal,
    execStartMarkRecognised, execMessageEndedShort, execPulse, execReady, execLeave, execSilent, execIsolated,
    execColdStartTest, execOrphanTest, execLockTimeout, execPassComplete, execConversionComplete,
    execManualConversionComplete, execInputFrameStart, execInputPixel, execLineEnd, execTrailerLineEnd, execInputLost,
    execWriteBurst, execReadBurst, execPixelDue, execStrayPulse, execArbitrationFieldEnd, execTransactionBegin] at h
  case profile dt payload =>
    refine storeAdvances_actionCommand h fun u => ?_
    split
    · exact .of_keeps (setResult_keepsStore ..)
    · exact .of_carries (profileCommand_carries _ u)
  case mesh dt payload =>
    refine storeAdvances_actionCommand h fun u => ?_
    split
    · exact .of_keeps (setResult_keepsStore ..)
    · exact .of_keeps (meshCommand_keepsStore ..)
  case start dt =>
    refine storeAdvances_actionCommand h fun u => ?_
    split
    · exact .of_keeps (setResult_keepsStore ..)
    · next config =>
      (repeat' split)
      · exact .of_keeps (setResult_keepsStore ..)
      · exact .of_keeps (setResult_keepsStore ..)
      · exact .of_carries ((startShow_carries (not_not.mp config)).trans (.of_keeps (setResult_keepsStore ..)))
  case stop dt =>
    have stopped (u : State) : KeepsStore u (setResult .ok 0 (stopShow u)) :=
      (setResult_keepsStore ..).after ((setState_keepsStore (st := .stopping) nofun u).trans (.of_blocks rfl rfl rfl rfl))
    refine storeAdvances_actionCommand h fun u => ?_
    split
    · exact .of_keeps (setResult_keepsStore ..)
    · exact .of_keeps (setResult_keepsStore ..)
    all_goals exact .of_keeps (stopped u)
  case reset taken =>
    refine storeAdvances_actionCommand h fun u => ?_
    obtain ⟨slots, port, swu, config⟩ := softReset_emptied taken.line u
    exact StoreEmptied.advances ⟨slots, port, swu, config⟩
  case sampleSingle dt channel mode =>
    exact storeAdvances_actionCommand h fun u => .of_keeps (sampleCommand_keepsStore ..)
  case sampleContinuous dt channel mode =>
    exact storeAdvances_actionCommand h fun u => .of_keeps (sampleCommand_keepsStore ..)
  case sampleStop dt channel mode =>
    exact storeAdvances_actionCommand h fun u => .of_keeps (sampleCommand_keepsStore ..)
  case status dt =>
    exact storeAdvances_readCommand h fun u => (runPass_keepsStore u).trans (.of_blocks rfl rfl rfl rfl)
  case peers dt => exact storeAdvances_readCommand h .refl
  case counters dt =>
    exact storeAdvances_readCommand h fun u => (runPass_keepsStore u).trans (.of_blocks rfl rfl rfl rfl)
  case trap dt => exact storeAdvances_readCommand h fun u => ⟨rfl, rfl, rfl, rfl, id⟩
  case readSample dt => exact storeAdvances_readCommand h fun u => .of_blocks rfl rfl rfl rfl
  case unknown dt code =>
    refine storeAdvances_actionCommand h fun u => ?_
    split
    · exact .of_keeps (setResult_keepsStore ..)
    · exact .of_keeps (.refl u)
  case length dt code payload =>
    refine storeAdvances_actionCommand h fun u => ?_
    split
    · exact .of_keeps (setResult_keepsStore ..)
    · exact .of_keeps (.refl u)
  case hardwareReset dt => cases h; exact StoreEmptied.advances ⟨rfl, rfl, rfl, rfl⟩
  case rstnRelease dt =>
    cases h
    unfold releaseReset
    split
    · exact .of_keeps (.of_blocks rfl rfl rfl rfl)
    · exact .of_keeps (.of_blocks rfl rfl rfl rfl)
  case frameStart dt order => exact storeAdvances_eventWhen h fun u _ => takeFrameStart_advances order u
  case cutoff dt =>
    refine storeAdvances_eventWhen h fun u due => .of_carries (takeCutoff_carries ?_)
    simp_all [State.cutoffDue]
  case startMarkBegin dt joined => exact KeepsStore.eventWhen h (takeStartMark_keepsStore joined)
  case arbitrationLost dt => exact KeepsStore.eventWhen h takeArbitrationLoss_keepsStore
  case bitFault dt line => exact storeAdvances_eventWhen h fun u _ => takeBitFault_advances line u
  case messageComplete dt => exact storeAdvances_eventWhen h fun u _ => takeCompletion_advances u
  case pulseExpired dt => exact KeepsStore.eventWhen h fun u => .of_blocks rfl rfl rfl rfl
  case stuck dt => exact KeepsStore.eventWhen h takeStuck_keepsStore
  case linkNormal dt => exact KeepsStore.eventWhen h fun u => .of_blocks rfl rfl rfl rfl
  case startMarkRecognised dt c2 c3 c4 run => exact KeepsStore.eventWhen h (takeStartMarkSeen_keepsStore c2 c3 c4 run)
  case messageEndedShort dt cause run => exact KeepsStore.eventWhen h (takeShort_keepsStore cause run)
  case pulse dt sender payload crc =>
    exact storeAdvances_eventWhen h fun u _ =>
      .of_carries (takeMessage_carries (actOnPulse_keepsStore sender _) (handPulseOn_carries sender _ _) u)
  case ready dt sender payload crc =>
    exact storeAdvances_eventWhen h fun u _ =>
      .of_carries (takeMessage_carries (actOnReady_keepsStore sender payload) .refl u)
  case leave dt sender payload crc =>
    exact storeAdvances_eventWhen h fun u _ =>
      .of_carries (takeMessage_carries (actOnLeave_keepsStore sender _) .refl u)
  case silent dt peer order => exact KeepsStore.eventWhen h (takeSilent_keepsStore peer order)
  case isolated dt order => exact KeepsStore.eventWhen h (takeIsolated_keepsStore order)
  case coldStartTest dt order => exact KeepsStore.eventWhen h (takeColdStartTest_keepsStore order)
  case orphanTest dt order => exact KeepsStore.eventWhen h (takeOrphanTest_keepsStore order)
  case lockTimeout dt order => exact KeepsStore.eventWhen h (takeLockTimeout_keepsStore order)
  case passComplete dt => exact KeepsStore.eventWhen h takePassComplete_keepsStore
  case conversionComplete dt code => exact KeepsStore.eventWhen h (takeSequenceCode_keepsStore _)
  case manualConversionComplete dt code => exact KeepsStore.eventWhen h (takeManualCode_keepsStore code)
  case inputFrameStart dt =>
    exact storeAdvances_eventWhen h fun u due => .of_carries (takeInputFrameStart_carries (ne_config_of_portOpen due))
  case inputPixel dt pixel => exact KeepsStore.eventWhen h (takePixel_keepsStore pixel)
  case lineEnd dt =>
    refine storeAdvances_eventWhen h fun u due => .of_carries (takeLineEnd_carries (ne_config_of_portOpen ?_))
    simp_all [State.lineEndDue]
  case trailerLineEnd dt =>
    refine storeAdvances_eventWhen h fun u due => .of_carries (takeTrailerEnd_carries (ne_config_of_portOpen ?_))
    simp_all [State.trailerEndDue]
  case inputLost dt =>
    refine storeAdvances_eventWhen h fun u due => .of_carries (takeInputLoss_carries (ne_config_of_running ?_))
    simp_all [State.lossDue]
  case writeBurst dt => exact KeepsStore.eventWhen h takeWriteBurst_keepsStore
  case readBurst dt upsets => exact KeepsStore.eventWhen h (takeReadBurst_keepsStore upsets)
  case pixelDue dt => exact KeepsStore.eventWhen h takePixelDue_keepsStore
  case strayPulse dt width => exact KeepsStore.eventWhen h (takeStray_keepsStore width)
  case arbitrationFieldEnd dt => exact KeepsStore.eventWhen h fun u => .of_blocks rfl rfl rfl rfl
  case transactionBegin select => exact KeepsStore.eventWhen h fun u => .of_blocks rfl rfl rfl rfl

/-- Every step lets the store advance, an empty queue idling. -/
theorem storeAdvances_step {s t : State} (h : step s = .next t) : StoreAdvances s t := by
  unfold step at h
  split at h
  · cases h
    exact .of_keeps (.refl s)
  · exact (storeAdvances_exec h).after (.of_blocks rfl rfl rfl rfl)

/-- Settles O53: the slots place by place (`storeInOrder_iff`), which every step keeps in order (`storeAdvances_step`). -/
theorem storeKept : Obligations.StoreKept := by
  unfold Obligations.StoreKept
  intro s t hs h
  exact (storeInOrder_iff t).mpr (storeAdvances_step h ((storeInOrder_iff s).mp hs)).1

/-- Settles O54: what a step does to the SHOWN frame of a store in order (`storeAdvances_step`); only an enactment replaces
it, by the newer frame of a READY slot (`enactDecision_moves`). -/
theorem shownAdvances : Obligations.ShownAdvances := by
  unfold Obligations.ShownAdvances
  intro s t f hs h shown
  obtain same | ⟨g, shown', newer⟩ | lost := (storeAdvances_step h ((storeInOrder_iff s).mp hs)).2
  · exact .inl ⟨f, same.trans shown, .inl rfl⟩
  · exact .inl ⟨g, shown', .inr (newer f shown)⟩
  · exact .inr lost

end Sys2Proof.Machine

/-! SUPPORT. The enactment at an own frame start (R86, R92, R93, R155, R159, R160, R162, R165): what becomes of the slots and
of the pixels in the FIFO, and the memory's arbiter over the output frame that begins. -/

namespace Sys2Proof.Machine

/-! ### The arbiter (R160, R162) -/

/-- The requests that stand are granted, and are the same after the grant (R162). -/
theorem arbitrate_granted (s : State) : Granted s.fs.arb (arbitrate s) := by
  have reader (a : Arbiter) : readerRequests { s with fs := { s.fs with arb := a } } = readerRequests s := rfl
  have writer (a : Arbiter) : writerRequests { s with fs := { s.fs with arb := a } } = writerRequests s := rfl
  have burst (o : Owner) (a : Arbiter) : nextBurst o { s with fs := { s.fs with arb := a } } = nextBurst o s := by
    cases o <;> rfl
  unfold Granted
  rw [arbitrate_frame]
  simp only [reader, writer, burst]
  unfold arbitrate
  cases s.fs.arb.owner with
  | none =>
    dsimp only
    split
    · rfl
    · split <;> rfl
  | writer =>
    simp only [Bool.and_eq_true, beq_iff_eq]
    split
    · rfl
    · rfl
  | reader => rfl

theorem settleStore_granted (s : State) : Granted s.fs.arb (settleStore s) := by
  have kept : (refillSequence s).fs.arb = s.fs.arb := by rw [refillSequence, refill_frame]
  rw [← kept]
  exact arbitrate_granted (refillSequence s)

/-- A grant goes by the store, the profile and the instant alone. -/
theorem Granted.congr {a : Arbiter} {s t : State} (h : Granted a s) (fs : t.fs = s.fs) (now : t.now = s.now)
    (profile : t.profile = s.profile) : Granted a t := by
  unfold Granted at h ⊢
  simp only [readerRequests, writerRequests, nextBurst, fs, now, profile] at h ⊢
  exact h

/-- The arbiter as an output frame that begins leaves it before the requests are weighed: a fetch in progress is to be
discarded, and a READER's turn ends with its burst (R160, R162). -/
def Arbiter.frameBegun (a : Arbiter) : Arbiter :=
  { a with burst := a.burst.map Burst.dropRead, turnEnds := a.turnEnds || a.owner == .reader }

theorem beginOutputFrame_granted (s : State) : Granted s.fs.arb.frameBegun (beginOutputFrame s) :=
  settleStore_granted _

theorem dropRead_dropRead (b : Burst) : b.dropRead.dropRead = b.dropRead := by cases b <;> rfl

/-! ### The JOINING test at a frame start (R10, R120) -/

theorem joiningTest_turnsBlack (s : State) : TurnsBlack s (joiningTest s) := by
  obtain h | ⟨-, -, -, h⟩ := joiningTest_cases s
  · rw [h]
    simp [TurnsBlack]
  · rw [h]
    exact setState_turnsBlack s.joiningExit s

/-- A station that leaves JOINING under a BLACK frame leaves the store as it is (R120). -/
theorem joiningTest_fs {s : State} (black : s.sc.state = .joining → s.wbp.mode ≠ .picture) :
    (joiningTest s).fs = s.fs := by
  by_cases joining : s.sc.state = .joining
  · have turned := (joiningTest_turnsBlack s).2
    simpa [black joining] using turned
  · rw [joiningTest_of_not_joining s joining]

/-- A frame that turns BLACK as the next one begins leaves nothing else of the arbiter than the next one does (R160). -/
theorem joiningTest_frameBegun (s : State) : (joiningTest s).fs.arb.frameBegun = s.fs.arb.frameBegun := by
  rw [(joiningTest_turnsBlack s).2]
  split
  · simp [Arbiter.frameBegun, Function.comp_def, dropRead_dropRead]
  · rfl

/-! ### The store over a frame start (R119, R160, R162) -/

theorem frameStartRunning_of_outputAfter {order : SameInstant} (h : order.outputAfter = true) (s : State) :
    frameStartRunning order s = beginOutputFrame
      (requestPulse (pulseRequestOf (s.announcing order)) (joiningTest (promote s.frameCounted))) := by
  rw [frameStartRunning_eq, if_pos h, State.frameTested, if_pos h]

theorem frameStartRunning_of_outputBefore {order : SameInstant} (h : ¬order.outputAfter = true) (s : State) :
    frameStartRunning order s = requestPulse (pulseRequestOf (s.announcing order))
      (joiningTest (promote (beginOutputFrame s.frameCounted))) := by
  rw [frameStartRunning_eq, if_neg h, State.frameTested, if_neg h]

theorem frameCounted_fs (s : State) : s.frameCounted.fs = s.fs := by simp [State.frameCounted]

theorem requestPulse_fs (p : PulseRequest) (s : State) : (requestPulse p s).fs = s.fs := rfl

/-- A frame start of a running state grants the requests that stand once its output frame has begun (R162). -/
theorem frameStartRunning_granted (order : SameInstant) (s : State) :
    Granted s.fs.arb.frameBegun (frameStartRunning order s) := by
  by_cases after : order.outputAfter = true
  · have begun := beginOutputFrame_granted
      (requestPulse (pulseRequestOf (s.announcing order)) (joiningTest (promote s.frameCounted)))
    rw [requestPulse_fs, joiningTest_frameBegun, promote_fs, frameCounted_fs] at begun
    rw [frameStartRunning_of_outputAfter after]
    exact begun
  · let v : State := promote (beginOutputFrame s.frameCounted)
    have black : v.sc.state = .joining → v.wbp.mode ≠ .picture := by
      intro joining
      rw [promote_sc, beginOutputFrame_sc] at joining
      rw [promote_wbp, beginOutputFrame_frame, joining]
      nofun
    have begun : Granted s.fs.arb.frameBegun v := by
      rw [← frameCounted_fs s]
      exact (beginOutputFrame_granted s.frameCounted).congr (promote_fs _) (promote_now _) (by simp [v, State.profile])
    rw [frameStartRunning_of_outputBefore after]
    refine begun.congr ?_ ?_ ?_
    · exact (requestPulse_fs _ _).trans (joiningTest_fs black)
    · simp [requestPulse, modQueue, v]
    · simp [requestPulse, modQueue, v, State.profile]

/-- A frame start grants the requests that stand once its output frame has begun (R162). -/
theorem takeFrameStart_granted (order : SameInstant) (s : State) :
    Granted s.periodBegun.fs.arb.frameBegun (takeFrameStart order s) := by
  cases running : s.running with
  | false =>
    rw [takeFrameStart_of_not_running order running]
    exact beginOutputFrame_granted _
  | true =>
    rw [takeFrameStart_of_running order running]
    exact frameStartRunning_granted order _

/-- After the enactment and the marks a frame start touches of the store the reader's work and the arbiter alone. -/
theorem takeFrameStart_fs (order : SameInstant) (s : State) :
    (takeFrameStart order s).fs = { s.periodBegun.fs with
      sequence := (takeFrameStart order s).fs.sequence, prefetch := (takeFrameStart order s).fs.prefetch,
      arb := (takeFrameStart order s).fs.arb } := by
  cases running : s.running with
  | false =>
    rw [takeFrameStart_of_not_running order running]
    apply FrameStore.ext <;> simp
  | true =>
    rw [takeFrameStart_of_running order running]
    by_cases after : order.outputAfter = true
    · rw [frameStartRunning_of_outputAfter after]
      apply FrameStore.ext <;> simp [frameCounted_fs, requestPulse_fs]
    · rw [frameStartRunning_of_outputBefore after]
      apply FrameStore.ext <;> simp [frameCounted_fs, requestPulse_fs]

theorem takeFrameStart_decision (order : SameInstant) (s : State) :
    (takeFrameStart order s).swu = s.periodBegun.swu ∧ (takeFrameStart order s).counters = s.periodBegun.counters := by
  cases running : s.running with
  | false =>
    rw [takeFrameStart_of_not_running order running]
    simp
  | true =>
    rw [takeFrameStart_of_running order running]
    by_cases after : order.outputAfter = true
    · simp [frameStartRunning_of_outputAfter after, State.frameCounted, requestPulse, modQueue]
    · simp [frameStartRunning_of_outputBefore after, State.frameCounted, requestPulse, modQueue]

/-! ### The enactment (R92, R93, R155, R159) -/

theorem slotAt_swappedSlots_same (target : FrameNo) (slot : SlotNo) (l : List Slot) :
    slotAt (swappedSlots target slot l) slot = .shown target := by
  obtain ⟨m, eq, -, shown, -⟩ := swappedSlots_eq target slot l
  rw [eq, slotAt_renumber_eq, withRank_eq_shown_iff]
  exact shown

/-- What a SWAP makes of a slot that it does not name (R92). -/
theorem slotAt_swappedSlots_ne (target : FrameNo) {slot i : SlotNo} (l : List Slot) (h : i ≠ slot) :
    (slotAt l i = .free → slotAt (swappedSlots target slot l) i = .free) ∧
      (slotAt l i = .filling → slotAt (swappedSlots target slot l) i = .filling) ∧
      (∀ f, slotAt l i = .shown f → slotAt (swappedSlots target slot l) i = .free) ∧
      ∀ f r c, slotAt l i = .ready f r c →
        if older f target = true then slotAt (swappedSlots target slot l) i = .free
        else ∃ q, slotAt (swappedSlots target slot l) i = .ready f q c := by
  obtain ⟨m, eq, -, -, rest⟩ := swappedSlots_eq target slot l
  rw [eq, slotAt_renumber_eq]
  obtain ⟨same, hidden, young⟩ | ⟨freed, gone⟩ := rest i h
  · rw [same]
    refine ⟨fun hi => by rw [hi]; rfl, fun hi => by rw [hi]; rfl, fun f hi => absurd hi (hidden f), fun f r c hi => ?_⟩
    rw [if_neg (by simp [young f r c hi]), hi]
    exact ⟨_, rfl⟩
  · rw [freed]
    refine ⟨fun _ => rfl, fun hi => ?_, fun _ _ => rfl, fun f r c hi => ?_⟩
    · obtain ⟨g, shown⟩ | ⟨g, r, c, ready, -⟩ := gone
      · cases hi.symm.trans shown
      · cases hi.symm.trans ready
    · obtain ⟨g, shown⟩ | ⟨g, r', c', ready, old⟩ := gone
      · cases hi.symm.trans shown
      · cases hi.symm.trans ready
        rw [if_pos old]
        rfl

section

variable (s : State)

/-- The part after the enactment, which the timer's new period does not change (R92, R93). -/
theorem periodBegun_fs : s.periodBegun.fs = latchMarks (enactDecision s).fs := by
  unfold State.periodBegun enactDecision
  rw [State.modFs_fs, State.modCu_swu]
  cases s.swu <;> rfl

theorem periodBegun_counters : s.periodBegun.counters = (enactDecision s).counters := by
  unfold State.periodBegun enactDecision
  rw [State.modFs_counters, State.modCu_swu]
  cases s.swu <;> rfl

end

/-- The arbiter at a frame start, as the enactment and the output frame that begins leave it (R155, R159, R160). -/
theorem enactDecision_frameBegun (s : State) :
    (enactDecision s).fs.arb.frameBegun = { s.fs.arb with
      burst := match s.fs.arb.burst with
        | none => none
        | some (.read n _) => some (.read n false)
        | some (.write i line column kept) =>
          some (.write i line column (kept && !(s.swu.slot?.isSome && slotAt (enactDecision s).fs.slots i == .free))),
      turnEnds := s.fs.arb.turnEnds || s.fs.arb.owner == .reader } := by
  unfold enactDecision
  cases s.swu with
  | swap target slot =>
    let gone (i : SlotNo) : Bool := slotAt (swappedSlots target slot s.fs.slots) i == .free
    show Arbiter.frameBegun { s.fs.arb with burst := Option.map (Burst.dropWrite gone) s.fs.arb.burst } = _
    unfold Arbiter.frameBegun
    cases s.fs.arb.burst with
    | none => rfl
    | some b => cases b <;> rfl
  | _ =>
    show s.fs.arb.frameBegun = _
    unfold Arbiter.frameBegun
    cases s.fs.arb.burst with
    | none => rfl
    | some b => cases b <;> simp [Burst.dropRead, Decision.slot?]

/-- Settles O14: the enacted record slot by slot (`slotAt_swappedSlots_ne`), the rest of the store
(`takeFrameStart_fs`), and the arbiter by the requests that stand (`takeFrameStart_granted`). -/
theorem frameStartEnacts : Obligations.FrameStartEnacts := by
  unfold Obligations.FrameStartEnacts
  intro dt e order s live timed ends now
  rw [exec_frameStart_due live timed ends now]
  let u : State := s.advance dt
  let t : State := takeFrameStart order u
  obtain ⟨swu, counters⟩ : t.swu = u.periodBegun.swu ∧ t.counters = u.periodBegun.counters :=
    takeFrameStart_decision order u
  have fs : t.fs = _ := takeFrameStart_fs order u
  rw [periodBegun_counters] at counters
  rw [periodBegun_fs] at fs
  have slots : t.fs.slots = (enactDecision u).fs.slots := by rw [fs]; rfl
  have fifo : t.fs.fifo = (enactDecision u).fs.fifo := by rw [fs]; rfl
  refine ⟨t, rfl, ?_, fun none_stands => ?_, fun hold => ?_, fun target slot swap => ?_, ?_, ?_, fun a => ?_⟩
  · rw [swu, State.periodBegun, State.modFs_swu, enactDecision_frame]
  · have enacted : enactDecision u = u := by
      have none_stands : u.swu = .none := none_stands
      rw [enactDecision, none_stands]
    rw [slots, fifo, counters, enacted]
    exact ⟨rfl, rfl, rfl⟩
  · have enacted : enactDecision u = (countHolds u).setSwu .none := by
      have hold : u.swu = .hold := hold
      rw [enactDecision, hold]
    rw [slots, fifo, counters, enacted]
    exact ⟨rfl, rfl, rfl⟩
  · have enacted : enactDecision u = (countSwaps (u.modFs fun f =>
        discardFree { f with slots := swappedSlots target slot f.slots })).setSwu .none := by
      have swap : u.swu = .swap target slot := swap
      rw [enactDecision, swap]
    have swapped : t.fs.slots = swappedSlots target slot s.fs.slots := by rw [slots, enacted]; rfl
    refine ⟨by rw [counters, enacted]; rfl, ?_, fun i hi => ?_, ?_⟩
    · rw [swapped]
      exact slotAt_swappedSlots_same ..
    · rw [swapped]
      exact slotAt_swappedSlots_ne target s.fs.slots hi
    · rw [swapped, fifo, enacted]
      rfl
  · have touched : (enactDecision u).fs = { s.fs with
        slots := (enactDecision u).fs.slots, fifo := (enactDecision u).fs.fifo, arb := (enactDecision u).fs.arb } := by
      conv_lhs => rw [enactDecision_frame]
      rfl
    have peak : t.fs.framePeak = (enactDecision u).fs.fifo.length := by rw [fs]; rfl
    rw [slots, fifo, peak]
    refine fs.trans ?_
    rw [touched]
    rfl
  · have granted : Granted u.periodBegun.fs.arb.frameBegun t := takeFrameStart_granted order u
    have arb : u.periodBegun.fs.arb = (enactDecision u).fs.arb := by rw [periodBegun_fs]; rfl
    rw [arb, enactDecision_frameBegun, ← slots] at granted
    exact granted
  · rw [fs, enactDecision_frame]
    rfl

end Sys2Proof.Machine

/-! SUPPORT. The swap target (R87 to R89): serial order within half the numbering, and the serial least of a group. -/

namespace Sys2Proof.Machine

/-! ### Serial order within half the numbering (00_scope.md, Conventions) -/

/-- Over numbers that lie within half the numbering of a base, serial order is the order of their distances from it. -/
theorem older_add_iff (base : FrameNo) {a b : Nat} (ha : a ≤ 32767) (hb : b ≤ 32767) :
    older (base + BitVec.ofNat 16 a) (base + BitVec.ofNat 16 b) = true ↔ a < b := by
  have between : base + BitVec.ofNat 16 b - (base + BitVec.ofNat 16 a) = BitVec.ofNat 16 b - BitVec.ofNat 16 a := by
    bv_omega
  rw [older, newer, between, Bool.and_eq_true, decide_eq_true_eq, decide_eq_true_eq]
  bv_omega

/-! ### The serial least (R89) -/

theorem serialMin_eq_none {f : FrameNo} {l : List (Option FrameNo)} (h : none ∈ l) : serialMin f l = none := by
  induction l generalizing f with
  | nil => cases h
  | cons g l ih =>
    cases g with
    | none => rfl
    | some g => exact ih (by simpa using h)

/-- Over numbers within half the numbering of one another the serial least is the least of them all. -/
theorem serialMin_eq_least (base : FrameNo) (own : Nat) (l : List Nat) (hown : own ≤ 32767)
    (hl : ∀ n ∈ l, n ≤ 32767) :
    ∃ least, serialMin (base + BitVec.ofNat 16 own) (l.map fun n => some (base + BitVec.ofNat 16 n)) =
        some (base + BitVec.ofNat 16 least) ∧
      least ≤ own ∧ (∀ n ∈ l, least ≤ n) ∧ (least = own ∨ least ∈ l) := by
  induction l generalizing own with
  | nil => exact ⟨own, rfl, le_rfl, nofun, .inl rfl⟩
  | cons n l ih =>
    obtain ⟨hn, hl⟩ := List.forall_mem_cons.mp hl
    have pick : (if older (base + BitVec.ofNat 16 n) (base + BitVec.ofNat 16 own) = true then base + BitVec.ofNat 16 n
        else base + BitVec.ofNat 16 own) = base + BitVec.ofNat 16 (min n own) := by
      by_cases below : n < own
      · rw [if_pos ((older_add_iff base hn hown).mpr below), Nat.min_eq_left below.le]
      · rw [if_neg (mt (older_add_iff base hn hown).mp below), Nat.min_eq_right (Nat.not_lt.mp below)]
    obtain ⟨least, eq, low, all, attained⟩ := ih (min n own) (by omega) hl
    rw [List.map_cons, serialMin, pick]
    refine ⟨least, eq, by omega, List.forall_mem_cons.mpr ⟨by omega, all⟩, ?_⟩
    obtain rfl | listed := attained
    · obtain same | same := min_choice n own <;> simp [same]
    · exact .inr (List.mem_cons_of_mem _ listed)

/-! ### The group and its target (R87, R88) -/

theorem inStep_iff (l : LockState) : l.inStep = true ↔ l = .locked ∨ l = .reference := by
  simp [LockState.inStep]

theorem mem_groupPeers_iff (s : State) (n : StationNo) :
    n ∈ s.groupPeers ↔ n ≠ s.profile.station ∧ (s.pt.entry n).status = .live ∧
      ((s.pt.entry n).lock = some .locked ∨ (s.pt.entry n).lock = some .reference) := by
  have inStep : (s.pt.entry n).lock.any LockState.inStep = true ↔
      (s.pt.entry n).lock = some .locked ∨ (s.pt.entry n).lock = some .reference := by
    cases (s.pt.entry n).lock <;> simp [inStep_iff]
  simp [State.groupPeers, State.peersWith, inStep]

section

variable {s : State}

theorem swapTarget_of_none (h : newestReady s.fs.slots = none) : s.swapTarget = none := by rw [State.swapTarget, h]

theorem swapTarget_alone (h : ¬s.cu.lock.inStep = true) : s.swapTarget = newestReady s.fs.slots := by
  rw [State.swapTarget]
  cases newestReady s.fs.slots with
  | none => rfl
  | some f => exact if_neg h

theorem swapTarget_group {f : FrameNo} (own : newestReady s.fs.slots = some f) (h : s.cu.lock.inStep = true) :
    s.swapTarget = serialMin f (s.groupPeers.map fun n => (s.pt.entry n).latestReady) := by
  rw [State.swapTarget, own]
  exact if_pos h

end

/-- Settles O19: the target without a READY frame, alone, and in a group as the serial least of its numbers
(`serialMin_eq_least`). -/
theorem swapTarget : Obligations.SwapTarget := by
  unfold Obligations.SwapTarget
  intro s
  refine ⟨swapTarget_of_none, fun unlocked unled => ?_, fun member => ⟨mem_groupPeers_iff s, fun silent => ?_, ?_⟩⟩
  · exact swapTarget_alone fun inStep => ((inStep_iff _).mp inStep).elim unlocked unled
  · cases ready : newestReady s.fs.slots with
    | none => exact swapTarget_of_none ready
    | some f =>
      rw [swapTarget_group ready ((inStep_iff _).mpr member)]
      obtain ⟨n, listed, unannounced⟩ := silent
      exact serialMin_eq_none (List.mem_map.mpr ⟨n, listed, unannounced⟩)
  · intro base own peers bound ready announced
    have numbers : (s.groupPeers.map fun n => (s.pt.entry n).latestReady) =
        (s.groupPeers.map peers).map fun k => some (base + BitVec.ofNat 16 k) := by
      rw [List.map_map]
      exact List.map_congr_left fun n listed => (announced n listed).2
    rw [swapTarget_group ready ((inStep_iff _).mpr member), numbers]
    obtain ⟨least, eq, low, all, attained⟩ := serialMin_eq_least base own (s.groupPeers.map peers) bound
      (List.forall_mem_map.mpr fun n listed => (announced n listed).1)
    refine ⟨least, eq, low, List.forall_mem_map.mp all, attained.imp_right fun listed => ?_⟩
    obtain ⟨n, hn, same⟩ := List.mem_map.mp listed
    exact ⟨n, hn, same.symm⟩

end Sys2Proof.Machine

/-! SUPPORT. One vertex (R100 to R105): the rounded quotient as the nearest whole number, and what decides the zero case,
the floor term and the divisor. -/

namespace Sys2Proof.Machine

/-! ### The quotient rounded half up (R104) -/

/-- Half the divisor, added before the division, carries a quotient to the nearest whole number; of an odd divisor the
half lost to `d / 2` decides nothing, since twice a whole number is even. -/
theorem roundDiv_nearest (n : Nat) {d : Nat} (positive : 0 < d) : NearestTo n d (roundDiv n d) := by
  have low : roundDiv n d * d ≤ n + d / 2 := Nat.div_mul_le_self ..
  have high : n + d / 2 < (roundDiv n d + 1) * d := Nat.lt_mul_of_div_lt (Nat.lt_succ_self _) positive
  rw [Nat.add_one_mul] at high
  rw [NearestTo, Nat.add_one_mul (2 * _), Nat.mul_assoc]
  omega

/-! ### The parts of a vertex (R100 to R103) -/

section

variable {p : Profile} {w : View} {x : Vertex}

theorem zeroCase_iff : zeroCase p w x = true ↔ x.inside = false ∨ w.lSelf < p.tMin := by simp [zeroCase]

theorem computeVertex_of_zeroCase (h : zeroCase p w x = true) :
    computeVertex p w x = { weight := { gain := 0, floor := 0 }, k := 1, saturated := false } := if_pos h

theorem computeVertex_of_not_zeroCase (h : ¬zeroCase p w x = true) :
    computeVertex p w x =
      let a := branch w x (span p w)
      let b := branch w x (floorTerm p w (coverage w x))
      { weight := { gain := min 32768 a, floor := min 32768 b }, k := coverage w x,
        saturated := decide (32768 < a ∨ 32768 < b) } := by
  dsimp only
  rw [computeVertex, if_neg h, Bool.decide_or]
  rfl

/-- The floor term is 0 from the dome's coverage on (R102). -/
theorem floorTerm_eq_ite (p : Profile) (w : View) (k : Nat) :
    floorTerm p w k = if k < w.kDome then (w.kDome - k) * p.blackStep else 0 := by
  split
  · rfl
  · next full => rw [floorTerm, Nat.sub_eq_zero_of_le (Nat.not_lt.mp full), Nat.zero_mul]

/-- The ramp sum holds the own ramp value, so a lit station's divisor is not 0 where that value is not (R101, R103). -/
theorem divisor_pos (lit : 0 < w.lSelf) (ramp : 0 < x.rSelf) : 0 < divisor w x :=
  Nat.mul_pos lit (Nat.add_pos_left ramp _)

end

/-- Settles O39: the zero case by what decides it (`zeroCase_iff`), and elsewhere gain and floor as quotients rounded
half up (`roundDiv_nearest`). -/
theorem weightNearest : Obligations.WeightNearest := by
  unfold Obligations.WeightNearest
  intro p w x
  refine ⟨fun zero => computeVertex_of_zeroCase (zeroCase_iff.mpr zero), fun inside bright lit ramp => ?_⟩
  have positive : 0 < divisor w x := divisor_pos lit ramp
  have nonzero : ¬zeroCase p w x = true := by simp [zeroCase_iff, inside, Nat.not_lt.mpr bright]
  refine ⟨branch w x (span p w), branch w x (floorTerm p w (coverage w x)), roundDiv_nearest _ positive, ?_,
    computeVertex_of_not_zeroCase nonzero⟩
  exact floorTerm_eq_ite p w (coverage w x) ▸ roundDiv_nearest _ positive

end Sys2Proof.Machine

/-! SUPPORT. The read commands (R98, R105, R107, R170, R174 to R176, R184): the lengths of the records, a pass brought up
to the instant of a read, and the reads that look at it. -/

namespace Sys2Proof.Machine

/-! ### The lengths of the records (R184) -/

@[simp] theorem be16_length (v : Nat) : (be16 v).length = 2 := rfl

@[simp] theorem frameBytes_length (f : Option FrameNo) : (frameBytes f).length = 2 := rfl

@[simp] theorem slotBytes_length (x : Slot) : (slotBytes x).length = 3 := rfl

@[simp] theorem entryBytes_length (e : PeerEntry) : (entryBytes e).length = 13 := rfl

theorem statusRecord_length (s : State) : (statusRecord s).length = 38 := by simp [statusRecord]

theorem peersRecord_length (s : State) : (peersRecord s).length = 208 := by simp [peersRecord, List.length_flatMap]

theorem countersRecord_length (s : State) : (countersRecord s).length = 38 := by
  simp [countersRecord, Counters.toList]

theorem trapRecord_length (s : State) : (trapRecord s).length = 5 := by
  unfold trapRecord
  cases s.fs.trap <;> rfl

theorem sampleRecord_length (s : State) : (sampleRecord s).length = 10 := by simp [sampleRecord]

/-! ### A pass brought up to the present instant (R98, R105 to R107) -/

/-- A vertex due at the present instant itself is not among those computed (assumption log, entry 10). -/
theorem passPosition_of_start {s : State} {p : Nat} (start : s.we.passStart = some p) :
    s.passPosition = min s.sc.vertexCount ((s.now - p + 39) / 40) := by
  rw [State.passPosition, start]
  rfl

theorem runPass_of_computing {s : State} (h : s.we.engine = .computing) :
    runPass s = { s with
      we := { s.we with
        position := s.passPosition,
        passMaximum := ((computedSince s).map VertexResult.k).foldl max s.we.passMaximum,
        saturated := s.we.saturated || saturatedCount (computedSince s) != 0 },
      counters := { s.counters with
        saturated := min 65535 (s.counters.saturated + saturatedCount (computedSince s)) } } := if_pos h

/-! ### The reads that bring a pass up to date (R174, R176) -/

section

variable {dt : Nat} {s : State}

theorem exec_status_taken (taken : s.takesRead dt) :
    exec (.status dt) s = .next { runPass (s.advance dt) with
      svp := { s.svp with
        transaction := .reading, shiftOut := 0 :: statusRecord (runPass (s.advance dt)), causes := Causes.clear } } := by
  have port : (runPass (s.advance dt)).svp = s.svp := runPass_svp _
  rw [← port]
  exact (readCommand_open dt s _ _ taken : execStatus dt s = _)

theorem exec_counters_taken (taken : s.takesRead dt) :
    exec (.counters dt) s = .next { runPass (s.advance dt) with
      svp := { s.svp with transaction := .reading, shiftOut := 0 :: countersRecord (runPass (s.advance dt)) },
      counters := Counters.zero } := by
  have port : (runPass (s.advance dt)).svp = s.svp := runPass_svp _
  rw [← port]
  exact (readCommand_open dt s _ _ taken : execCounters dt s = _)

end

/-- Settles O3: each read by `readCommand_open`, of which STATUS and COUNTERS look at a pass brought up to their instant
(`runPass_of_computing`). -/
theorem readsTaken : Obligations.ReadsTaken := by
  unfold Obligations.ReadsTaken
  intro dt s taken n m reading
  refine ⟨exec_status_taken taken, readCommand_open dt s _ _ taken, exec_counters_taken taken,
    readCommand_open dt s _ _ taken, readCommand_open dt s _ _ taken, statusRecord_length m, peersRecord_length n,
    countersRecord_length m, trapRecord_length n, sampleRecord_length n, runPass_of_not_computing (s := n), ?_⟩
  intro p computing start computed since saturated
  have position : n.passPosition = computed := passPosition_of_start start
  have found : computedSince n = since := by rw [computedSince, position]; rfl
  have run := runPass_of_computing (s := n) computing
  rw [position, found] at run
  exact run

end Sys2Proof.Machine

/-! SUPPORT. The transfer tables (R126, R128): the search bit by bit finds the greatest number that passes a test, and
the power curves' entries are numbers found so. -/

namespace Sys2Proof.Machine

/-! ### The search bit by bit -/

/-- Where the test passes at the base, and at every number below one that passes, the search answers the greatest number
that passes of the `2 ^ bits` numbers from the base on. -/
theorem greatest_isGreatest {ok : Nat → Bool} (down : ∀ m n, m ≤ n → ok n = true → ok m = true) {bits base : Nat}
    (start : ok base = true) :
    IsGreatest {n | ok n = true ∧ n < base + 2 ^ bits} (greatest ok bits base) := by
  induction bits generalizing base with
  | zero => exact ⟨⟨start, Nat.lt_succ_self base⟩, fun n ⟨_, below⟩ => Nat.lt_succ_iff.mp below⟩
  | succ bits ih =>
    have halves : base + 2 ^ (bits + 1) = base + 2 ^ bits + 2 ^ bits := by omega
    rw [greatest, halves]
    split
    · next passes => exact ih passes
    · next fails =>
      obtain ⟨⟨found, below⟩, most⟩ := ih start
      refine ⟨⟨found, below.trans_le (Nat.le_add_right ..)⟩, fun n ⟨passes, _⟩ => most ⟨passes, ?_⟩⟩
      exact Nat.lt_of_not_le fun above => fails (down _ n above passes)

/-! ### Rounded roots -/

/-- The whole number nearest to half the `e`-th root of `m / k`, a half going up, as the tables of the power curves
search for it among `2 ^ bits` numbers. -/
def nearestRoot (e k bits m : Nat) : Nat := greatest (fun n => decide ((2 * n - 1) ^ e * k ≤ m)) bits 0

section

variable {e k bits m : Nat} (positive : e ≠ 0) (small : m < (2 * 2 ^ bits - 1) ^ e * k)

include positive small

/-- A root that the numbers searched do not reach is rounded to the greatest number whose lower half step it reaches. -/
theorem nearestRoot_isGreatest : IsGreatest {n | (2 * n - 1) ^ e * k ≤ m} (nearestRoot e k bits m) := by
  have steps {a b : Nat} (h : a ≤ b) : (2 * a - 1) ^ e * k ≤ (2 * b - 1) ^ e * k := by gcongr
  let ok (n : Nat) : Bool := decide ((2 * n - 1) ^ e * k ≤ m)
  have down (a b : Nat) (below : a ≤ b) (passes : ok b = true) : ok a = true :=
    decide_eq_true ((steps below).trans (of_decide_eq_true passes))
  have start : ok 0 = true := by simp [ok, positive]
  obtain ⟨⟨found, _⟩, most⟩ := greatest_isGreatest down (bits := bits) start
  refine ⟨of_decide_eq_true found, fun n passes => most ⟨decide_eq_true passes, ?_⟩⟩
  rw [Nat.zero_add]
  exact Nat.lt_of_not_le fun above => absurd ((steps above).trans passes) (Nat.not_le.mpr small)

theorem nearestRoot_nearest :
    (2 * nearestRoot e k bits m - 1) ^ e * k ≤ m ∧ m < (2 * nearestRoot e k bits m + 1) ^ e * k := by
  obtain ⟨reached, most⟩ := nearestRoot_isGreatest positive small
  refine ⟨reached, Nat.lt_of_not_le fun next => ?_⟩
  exact absurd (most (a := nearestRoot e k bits m + 1) next) (Nat.not_succ_le_self _)

theorem nearestRoot_mono {l : Nat} (below : l ≤ m) : nearestRoot e k bits l ≤ nearestRoot e k bits m :=
  (nearestRoot_isGreatest positive small).2
    ((nearestRoot_isGreatest positive (below.trans_lt small)).1.trans below)

end

/-! ### The tables (R126, R128) -/

theorem linearize_linear (code : Nat) : linearize .linear code = (2 * code * 32768 + 1023) / 2046 := rfl

theorem encodeLight_linear (value : Nat) : encodeLight .linear value = (2 * value * 1023 + 32768) / 65536 := rfl

theorem fifths_ne_zero (c : Curve) : c.fifths ≠ 0 := by cases c <;> decide

section

variable {c : Curve} (curved : c ≠ .linear)

include curved

theorem linearize_eq_nearestRoot (code : Nat) :
    linearize c code = nearestRoot 5 (1023 ^ c.fifths) 16 (65536 ^ 5 * code ^ c.fifths) := by
  cases c with
  | linear => exact absurd rfl curved
  | power22 => rfl
  | power24 => rfl

theorem encodeLight_eq_nearestRoot (value : Nat) :
    encodeLight c value = nearestRoot c.fifths (32768 ^ 5) 10 (2046 ^ c.fifths * value ^ 5) := by
  cases c with
  | linear => exact absurd rfl curved
  | power22 => rfl
  | power24 => rfl

end

/-- No code reaches a linearized value of 2 ^ 16 (R126). -/
theorem linearize_reach {code : Nat} (g : Nat) (h : code ≤ 1023) :
    65536 ^ 5 * code ^ g < (2 * 2 ^ 16 - 1) ^ 5 * 1023 ^ g :=
  Nat.mul_lt_mul_of_lt_of_le (by norm_num) (Nat.pow_le_pow_left h g) (by positivity)

/-- No value reaches the code 2 ^ 10 (R128). -/
theorem encodeLight_reach {value g : Nat} (positive : g ≠ 0) (h : value ≤ 32768) :
    2046 ^ g * value ^ 5 < (2 * 2 ^ 10 - 1) ^ g * 32768 ^ 5 :=
  Nat.mul_lt_mul_of_lt_of_le (Nat.pow_lt_pow_left (by norm_num) positive) (Nat.pow_le_pow_left h 5) (by positivity)

theorem linearize_linear_nearest (code : Nat) : NearestTo (code * 32768) 1023 (linearize .linear code) := by
  rw [NearestTo, linearize_linear]
  omega

theorem encodeLight_linear_nearest (value : Nat) : NearestTo (value * 1023) 32768 (encodeLight .linear value) := by
  rw [NearestTo, encodeLight_linear]
  omega

theorem linearize_mono (c : Curve) {a b : Nat} (below : a ≤ b) (code : b ≤ 1023) : linearize c a ≤ linearize c b := by
  by_cases curved : c = .linear
  · rw [curved, linearize_linear, linearize_linear]
    gcongr
  · rw [linearize_eq_nearestRoot curved, linearize_eq_nearestRoot curved]
    exact nearestRoot_mono (by decide) (linearize_reach _ code) (by gcongr)

theorem encodeLight_mono (c : Curve) {a b : Nat} (below : a ≤ b) (value : b ≤ 32768) :
    encodeLight c a ≤ encodeLight c b := by
  by_cases curved : c = .linear
  · rw [curved, encodeLight_linear, encodeLight_linear]
    gcongr
  · rw [encodeLight_eq_nearestRoot curved, encodeLight_eq_nearestRoot curved]
    exact nearestRoot_mono (fifths_ne_zero c) (encodeLight_reach (fifths_ne_zero c) value) (by gcongr)

/-- Both tables run from 0 to full scale (R126, R128). -/
theorem transferTables_ends (c : Curve) :
    linearize c 0 = 0 ∧ linearize c 1023 = 32768 ∧ encodeLight c 0 = 0 ∧ encodeLight c 32768 = 1023 := by
  cases c <;> decide

/-- Settles O50: LINEAR by its rounded quotient, the power curves by the roots that their tables search for
(`nearestRoot_nearest`), which rise with what is rooted (`nearestRoot_mono`). -/
theorem transferTables : Obligations.TransferTables := by
  unfold Obligations.TransferTables
  refine ⟨fun code _ => linearize_linear_nearest code, fun value _ => encodeLight_linear_nearest value,
    fun c g curve => ?_, fun c => ?_⟩
  · have curved : c ≠ .linear := by obtain ⟨rfl, -⟩ | ⟨rfl, -⟩ := curve <;> nofun
    have fifths : g = c.fifths := by obtain ⟨rfl, rfl⟩ | ⟨rfl, rfl⟩ := curve <;> rfl
    subst fifths
    refine ⟨fun code h => ?_, fun value h => ?_⟩
    · rw [linearize_eq_nearestRoot curved]
      exact nearestRoot_nearest (by decide) (linearize_reach _ h)
    · rw [encodeLight_eq_nearestRoot curved]
      exact nearestRoot_nearest (fifths_ne_zero c) (encodeLight_reach (fifths_ne_zero c) h)
  · obtain ⟨dark, full, black, white⟩ := transferTables_ends c
    exact ⟨dark, full, black, white, fun _ _ => linearize_mono c, fun _ _ => encodeLight_mono c⟩

end Sys2Proof.Machine

/-! SUPPORT. The output frame that an own frame start begins (R119 to R121, R130, R160): what the reader is handed over,
the raster that PXO_FS and PXO_DE follow, and the frame as the other blocks of the same frame start leave it. -/

namespace Sys2Proof.Machine

/-! ### The need lists handed over (R130) -/

/-- A sequence that holds an entry is handed nothing, and a frame that reads no slot hands nothing over. -/
theorem refill_eq_self {s : State} (n : Nat) (h : s.fs.sequence ≠ [] ∨ s.wbp.frameSlot = none) : refill n s = s := by
  cases n with
  | zero => rfl
  | succ n =>
    unfold refill
    split
    · next empty _ reads _ => exact absurd h (by simp [empty, reads])
    · rfl

/-- An empty sequence is handed the entries of the next line that are not yet retired, where there are any. -/
theorem refill_sequence {s : State} {slot : SlotNo} {y x line : Nat} {needs : List Need} (n : Nat)
    (empty : s.fs.sequence = []) (picture : s.wbp.mode = .picture) (reads : s.wbp.frameSlot = some slot)
    (position : s.wbp.position = some (y, x)) (next : max s.wbp.nextLine y = line) (inside : line < s.profile.outHeight)
    (list : (lineNeeds s.profile s.mt slot line).filter (fun n => !n.retired y x) = needs) (some_left : needs ≠ []) :
    (refill (n + 1) s).fs.sequence = needs := by
  subst next list
  unfold refill
  rw [empty, picture, reads, position]
  dsimp only
  rw [if_pos inside, refill_eq_self n (.inl some_left)]
  rfl

theorem settleStore_sequence (s : State) : (settleStore s).fs.sequence = (refillSequence s).fs.sequence :=
  arbitrate_fs_sequence _

/-- No entry is retired before a frame's first pixel. -/
theorem retired_first (n : Need) : n.retired 0 0 = false := by simp [Need.retired]

/-- A READER that owns the memory goes on (R162). -/
theorem Granted.of_reader {a : Arbiter} {t : State} (granted : Granted a t) (owner : a.owner = .reader) :
    t.fs.arb = a := by
  unfold Granted at granted
  dsimp only at granted
  rw [owner] at granted
  exact granted

/-! ### A frame as it begins (R119, R120, R130, R160) -/

section

variable (s : State)

theorem beginOutputFrame_mode :
    (beginOutputFrame s).wbp.mode = if s.sc.state = .showing then .picture else .black := by
  rw [beginOutputFrame_frame]

theorem beginOutputFrame_frameSlot :
    (beginOutputFrame s).wbp.frameSlot = if s.sc.state = .showing then shownSlot s.fs.slots else none := by
  rw [beginOutputFrame_frame]

/-- The part with the reader's work of the frame before emptied and the pipeline at a new frame's first pixel, before
the first need list is handed over (R119, R160, R162). -/
def State.frameOpened : State :=
  endReaderTurn ((cutReader s).modWbp fun w =>
    { w with
      mode := if s.sc.state = .showing then .picture else .black,
      frameSlot := if s.sc.state = .showing then shownSlot s.fs.slots else none, position := some (0, 0),
      underrun := false, frameAt := s.now, nextLine := 0, inFlight := [] })

theorem beginOutputFrame_eq : beginOutputFrame s = settleStore s.frameOpened := by
  unfold beginOutputFrame State.frameOpened
  simp

theorem beginOutputFrame_handed :
    (beginOutputFrame s).fs.sequence = (refill s.profile.outHeight s.frameOpened).fs.sequence := by
  rw [beginOutputFrame_eq, settleStore_sequence]
  rfl

end

theorem beginOutputFrame_sequence_of_no_slot {s : State} (h : (beginOutputFrame s).wbp.frameSlot = none) :
    (beginOutputFrame s).fs.sequence = [] := by
  rw [beginOutputFrame_frameSlot] at h
  rw [beginOutputFrame_handed, refill_eq_self _ (.inr h)]
  rfl

/-- A frame that reads a slot is handed its first line's need list (R130). -/
theorem beginOutputFrame_sequence_of_slot {s : State} {slot : SlotNo}
    (reads : (beginOutputFrame s).wbp.frameSlot = some slot) (lines : 0 < s.profile.outHeight)
    (needs : lineNeeds s.profile s.mt slot 0 ≠ []) :
    (beginOutputFrame s).fs.sequence = lineNeeds s.profile s.mt slot 0 := by
  rw [beginOutputFrame_frameSlot] at reads
  have showing : s.sc.state = .showing := by
    by_contra other
    rw [if_neg other] at reads
    cases reads
  rw [beginOutputFrame_handed]
  obtain ⟨rest, height⟩ := Nat.exists_eq_add_one.mpr lines
  rw [height]
  refine refill_sequence (s := s.frameOpened) rest rfl (if_pos showing) reads rfl rfl lines ?_ needs
  simp only [retired_first, Bool.not_false, List.filter_true]
  rfl

/-! ### The raster (R119) -/

/-- Line `y` and place `x` of the raster, blanking counted, is where the link stands so many pixel times after the first
active pixel. -/
theorem rasterPlace_eq {s : State} {y x : Nat} (place : x < s.profile.outWidth + 64)
    (now : s.now = s.wbp.frameAt + 16000 + y * (s.profile.outWidth + 64) + x) : s.rasterPlace = (y, x) := by
  have elapsed : s.now - (s.wbp.frameAt + 16000) = x + (s.profile.outWidth + 64) * y := by
    rw [now, Nat.mul_comm y]
    omega
  have positive : 0 < s.profile.outWidth + 64 := by omega
  show ((s.now - (s.wbp.frameAt + 16000)) / _, (s.now - (s.wbp.frameAt + 16000)) % _) = _
  rw [elapsed]
  refine Prod.ext ?_ ?_
  · exact (Nat.add_mul_div_left x y positive).trans (by rw [Nat.div_eq_of_lt place, Nat.zero_add])
  · exact (Nat.add_mul_mod_self_left ..).trans (Nat.mod_eq_of_lt place)

/-- PXO_DE stands over the active pixels of a line and falls for its blanking. -/
theorem pxoDe_eq {s : State} {y x : Nat} (sends : s.sendsFrames = true) (line : y < s.profile.outHeight)
    (place : x < s.profile.outWidth + 64)
    (now : s.now = s.wbp.frameAt + 16000 + y * (s.profile.outWidth + 64) + x) :
    s.pxoDe = decide (x < s.profile.outWidth) := by
  have begun : s.wbp.frameAt + Config.rasterDelay ≤ s.now := by
    show _ + 16000 ≤ _
    omega
  simp [State.pxoDe, sends, begun, rasterPlace_eq place now, line]

/-! ### The frame over a frame start (R119, R120) -/

/-- A station that leaves JOINING under a BLACK frame leaves the pipeline as it is (R120). -/
theorem joiningTest_wbp {s : State} (black : s.sc.state = .joining → s.wbp.mode ≠ .picture) :
    (joiningTest s).wbp = s.wbp := by
  by_cases joining : s.sc.state = .joining
  · have turned := (joiningTest_turnsBlack s).1
    simpa [black joining] using turned
  · rw [joiningTest_of_not_joining s joining]

/-- The output frame of `t` is the one begun from `u`, with the instant, the profile and the mesh of `s` (R119). -/
structure FrameBegun (s u t : State) : Prop where
  wbp : t.wbp = (beginOutputFrame u).wbp
  fs : t.fs = (beginOutputFrame u).fs
  now : u.now = s.now
  profile : u.profile = s.profile
  mt : u.mt = s.mt
  own : t.profile = s.profile

theorem requestPulse_wbp (p : PulseRequest) (s : State) : (requestPulse p s).wbp = s.wbp := rfl

theorem frameCounted_keepsGrid (s : State) : KeepsGrid s s.frameCounted :=
  .trans (.of_blocks (by simp) (by simp) (by simp)) (joinTick_keepsGrid _)

/-- A frame start of a running state begins its output frame after the moves of the same frame start, or before them, as
the order has it (R120). -/
theorem frameStartRunning_begun (order : SameInstant) (s : State) :
    ∃ u, FrameBegun s u (frameStartRunning order s) ∧
      u.sc.state = if order.outputAfter = true then (frameStartRunning order s).sc.state else s.sc.state := by
  have counted := frameCounted_keepsGrid s
  have now : s.frameCounted.now = s.now := by simp [State.frameCounted]
  by_cases after : order.outputAfter = true
  · rw [if_pos after, frameStartRunning_of_outputAfter after, beginOutputFrame_sc]
    refine ⟨_, ⟨rfl, rfl, ?_, ?_, ?_, ?_⟩, rfl⟩
    · simp [requestPulse, modQueue, now]
    · simp [requestPulse, modQueue, State.profile, counted.profile]
    · simp [requestPulse, modQueue, counted.mt]
    · simp [requestPulse, modQueue, State.profile, counted.profile]
  · rw [if_neg after, frameStartRunning_of_outputBefore after]
    let v : State := promote (beginOutputFrame s.frameCounted)
    have black : v.sc.state = .joining → v.wbp.mode ≠ .picture := by
      intro joining
      rw [promote_sc, beginOutputFrame_sc] at joining
      rw [promote_wbp, beginOutputFrame_mode, joining]
      nofun
    refine ⟨s.frameCounted, ⟨?_, ?_, now, counted.profile, counted.mt, ?_⟩, frameCounted_state s⟩
    · rw [requestPulse_wbp, joiningTest_wbp black, promote_wbp]
    · rw [requestPulse_fs, joiningTest_fs black, promote_fs]
    · simp [requestPulse, modQueue, State.profile, counted.profile]

theorem takeFrameStart_begun (order : SameInstant) (s : State) :
    ∃ u, FrameBegun s u (takeFrameStart order s) ∧
      u.sc.state = if order.outputAfter = true then (takeFrameStart order s).sc.state else s.sc.state := by
  have now : s.periodBegun.now = s.now := by simp [State.periodBegun]
  have profile : s.periodBegun.profile = s.profile := by simp [State.profile, periodBegun_sc]
  have mt : s.periodBegun.mt = s.mt := by simp [State.periodBegun]
  have state : s.periodBegun.sc.state = s.sc.state := by rw [periodBegun_sc]
  cases running : s.running with
  | false =>
    rw [takeFrameStart_of_not_running order running, beginOutputFrame_sc, state, ite_self]
    have own : (beginOutputFrame s.periodBegun).profile = s.profile := by simp [State.profile, periodBegun_sc]
    exact ⟨s.periodBegun, ⟨rfl, rfl, now, profile, mt, own⟩, state⟩
  | true =>
    rw [takeFrameStart_of_running order running, ← state]
    obtain ⟨u, begun, at_order⟩ := frameStartRunning_begun order s.periodBegun
    refine ⟨u, { begun with now := ?_, profile := ?_, mt := ?_, own := ?_ }, at_order⟩
    · exact begun.now.trans now
    · exact begun.profile.trans profile
    · exact begun.mt.trans mt
    · exact begun.own.trans profile

/-- Settles O17: the frame as it begins (`takeFrameStart_begun`), its raster (`pxoDe_eq`), its first need list
(`beginOutputFrame_sequence_of_slot`), and the arbiter as O14 has it. -/
theorem frameStartOutput : Obligations.FrameStartOutput := by
  unfold Obligations.FrameStartOutput
  intro dt e order s live timed ends now
  obtain ⟨t, taken, -, -, -, -, -, arbiter, -⟩ := frameStartEnacts dt e order s live timed ends now
  have next : t = takeFrameStart order (s.advance dt) :=
    Host.Outcome.next.inj (taken.symm.trans (exec_frameStart_due live timed ends now))
  obtain ⟨u, begun, state⟩ := takeFrameStart_begun order (s.advance dt)
  have rest := takeFrameStart_rest order (s.advance dt)
  have fs := takeFrameStart_fs order (s.advance dt)
  rw [← next] at begun state rest fs
  have instant : t.now = s.now + dt := by rw [rest]; rfl
  have frameAt : t.wbp.frameAt = s.now + dt := by rw [begun.wbp, beginOutputFrame_frame]; exact begun.now
  have mode : t.wbp.mode = if u.sc.state = .showing then .picture else .black := begun.wbp ▸ beginOutputFrame_mode u
  have frameSlot : t.wbp.frameSlot = if u.sc.state = .showing then shownSlot t.fs.slots else none := by
    rw [begun.wbp, begun.fs, beginOutputFrame_fs_slots]
    exact beginOutputFrame_frameSlot u
  have sends : t.sendsFrames = true := by
    have high : t.rstnLow = false := by rw [rest]; exact live
    rw [State.sendsFrames, high, mode]
    split <;> rfl
  have profile : t.profile = s.profile := begun.own
  refine ⟨t, taken, fun picture => ?_, fun black => ?_, ?_, ?_, fun y x line place => ?_, ?_, ?_,
    fun n kept owner burst => ?_, arbiter, fun none_read => ?_, fun slot reads lines needs => ?_⟩
  · rw [mode, frameSlot, state]
    exact ⟨if_pos picture, if_pos picture⟩
  · rw [mode, frameSlot, state]
    exact ⟨if_neg black, if_neg black⟩
  · rw [← frameAt, begun.wbp]
    conv_lhs => rw [beginOutputFrame_frame]
    rw [beginOutputFrame_frame]
  · simp [State.pxoFs, sends, frameAt, instant]
  · rw [← profile] at line place ⊢
    exact pxoDe_eq (s := { t with now := _ }) sends line place (by rw [frameAt]; rfl)
  · rw [fs]
    rfl
  · rw [begun.fs, beginOutputFrame_frame]
  · refine (Granted.of_reader arbiter owner).trans ?_
    simp [burst, owner]
  · rw [begun.fs]
    exact beginOutputFrame_sequence_of_no_slot (begun.wbp ▸ none_read)
  · rw [begun.fs]
    have profile : u.profile = s.profile := begun.profile
    have mt : u.mt = s.mt := begun.mt
    rw [← profile] at lines needs ⊢
    rw [← mt] at needs ⊢
    exact beginOutputFrame_sequence_of_slot (begun.wbp ▸ reads) lines needs

end Sys2Proof.Machine

/-! SUPPORT. One output pixel at its due instant (R119, R120, R123, R125, R127 to R132, R165): what it is and what it
counts by the frame's mode and the sample, and what the move to the next position retires and hands over. -/

namespace Sys2Proof.Machine

/-! ### The pixel formed (R120, R125, R127 to R132, R165) -/

/-- What the prefetch holds for the output pixel `(y, x)` (R125, R131, R132). -/
def State.sampledAt (y x : Nat) (s : State) : Sampled := sampleSources s.fs y (sourcesOf s.profile s.mt x y)

/-- The pixel that carries the floor at `(y, x)` (R129, R131, R132). -/
def State.darkAt (y x : Nat) (s : State) : Pixel := floorPixel s.profile.curve (gainFloorAt s y x).2

/-- The blend of sampled pixels at `(y, x)` (R127, R128). -/
def State.blendAt (y x : Nat) (l : List (Nat × Pixel)) (s : State) : Pixel :=
  blendPixel s.profile.curve (gainFloorAt s y x).1 (gainFloorAt s y x).2 l

/-- The blend of sampled pixels at `(y, x)` clips (R127). -/
def State.clipsAt (y x : Nat) (l : List (Nat × Pixel)) (s : State) : Bool :=
  blendClips s.profile.curve (gainFloorAt s y x).1 (gainFloorAt s y x).2 l

/-- The pixel formed at `(y, x)`: code 0 in BLACK, the floor where nothing is sampled, and else the blend. -/
def State.formedPixel (y x : Nat) (s : State) : Pixel :=
  match s.wbp.mode, s.wbp.frameSlot with
  | .picture, some _ =>
    match s.sampledAt y x with
    | .pixels l => s.blendAt y x l
    | _ => s.darkAt y x
  | .picture, none => s.darkAt y x
  | _, _ => 0

section

variable {s : State} {y x : Nat}

theorem formPixel_of_black (black : s.wbp.mode = .black) :
    s.formedPixel y x = 0 ∧ formPixel y x s = sendPixel 0 s := by
  unfold State.formedPixel formPixel
  rw [black]
  exact ⟨rfl, rfl⟩

theorem formPixel_of_no_slot (picture : s.wbp.mode = .picture) (reads : s.wbp.frameSlot = none) :
    s.formedPixel y x = s.darkAt y x ∧ formPixel y x s = sendPixel (s.darkAt y x) s := by
  unfold State.formedPixel formPixel
  rw [picture, reads]
  exact ⟨rfl, rfl⟩

/-- A frame that reads no slot hands the pixel to the link and counts nothing (R120, R129). -/
theorem formPixel_of_bare (sends : s.wbp.mode ≠ .none) (bare : s.wbp.mode = .black ∨ s.wbp.frameSlot = none) :
    formPixel y x s = sendPixel (s.formedPixel y x) s := by
  cases mode : s.wbp.mode with
  | none => exact absurd mode sends
  | black =>
    obtain ⟨pixel, formed⟩ := formPixel_of_black (y := y) (x := x) mode
    rw [pixel, formed]
  | picture =>
    obtain ⟨pixel, formed⟩ := formPixel_of_no_slot (y := y) (x := x) mode (bare.resolve_left (by rw [mode]; nofun))
    rw [pixel, formed]

/-- In a frame that reads a slot the pixel goes by what the prefetch holds for it, which counting the prefetched bursts
does not change (R125 to R132, R165). -/
theorem formPixel_of_slot {slot : SlotNo} (picture : s.wbp.mode = .picture) (reads : s.wbp.frameSlot = some slot) :
    let noted : State := s.modFs noteOccupancy
    (s.sampledAt y x = .underrun →
      s.formedPixel y x = s.darkAt y x ∧ formPixel y x s = noteUnderrun (sendPixel (s.darkAt y x) noted)) ∧
    (s.sampledAt y x = .parity →
      s.formedPixel y x = s.darkAt y x ∧ formPixel y x s = sendPixel (s.darkAt y x) noted) ∧
    ∀ l, s.sampledAt y x = .pixels l →
      s.formedPixel y x = s.blendAt y x l ∧
      formPixel y x s =
        if s.clipsAt y x l = true then countClipped (sendPixel (s.blendAt y x l) noted)
        else sendPixel (s.blendAt y x l) noted := by
  intro noted
  have same : sampleSources noted.fs y (sourcesOf noted.profile noted.mt x y) = s.sampledAt y x := rfl
  unfold State.formedPixel formPixel formPicturePixel
  rw [picture, reads]
  dsimp only
  rw [same]
  refine ⟨fun sample => ?_, fun sample => ?_, fun l sample => ?_⟩
  all_goals
    rw [sample]
    exact ⟨rfl, rfl⟩

end

/-! ### What a pixel counts (R127, R131, R165) -/

section

variable (s : State)

theorem noteUnderrun_fs : (noteUnderrun s).fs = s.fs := by
  unfold noteUnderrun
  split <;> rfl

theorem noteUnderrun_underrun : (noteUnderrun s).wbp.underrun = true := by
  unfold noteUnderrun
  split
  · assumption
  · rfl

/-- The first underrun pixel of a frame is counted (R131). -/
theorem noteUnderrun_counters : (noteUnderrun s).counters = { s.counters with
    underrun := if s.wbp.underrun = true then s.counters.underrun else min 65535 (s.counters.underrun + 1) } := by
  unfold noteUnderrun
  split <;> rfl

end

/-- The prefetch minimum counts the bursts that stand in the prefetch (R165; assumption log, entry 49). -/
theorem noteOccupancy_frameMinimum (f : FrameStore) : (noteOccupancy f).frameMinimum =
    match f.frameMinimum with
    | some n => some (min n f.prefetch.length)
    | none => some f.prefetch.length := by
  unfold noteOccupancy
  cases f.frameMinimum <;> rfl

/-- A frame that reads a slot follows its prefetch minimum at each pixel (R165). -/
theorem formPixel_frameMinimum {s : State} {y x : Nat} {slot : SlotNo} (picture : s.wbp.mode = .picture)
    (reads : s.wbp.frameSlot = some slot) :
    (formPixel y x s).fs.frameMinimum = (noteOccupancy s.fs).frameMinimum := by
  obtain ⟨underrun, parity, pixels⟩ := formPixel_of_slot (y := y) (x := x) picture reads
  cases sample : s.sampledAt y x with
  | underrun =>
    rw [(underrun sample).2, noteUnderrun_fs]
    rfl
  | parity =>
    rw [(parity sample).2]
    rfl
  | pixels l =>
    rw [(pixels l sample).2]
    split <;> rfl

/-- The floor alone is encoded where the gain is 0 (R129, R131, R132). -/
theorem darkAt_eq (y x : Nat) (s : State) :
    let dark := encodeLight s.profile.curve (min 32768 (atPixel s.profile (floorAt s.we.shown) x y))
    s.darkAt y x = pixelOf dark dark dark := by
  have floor_alone (floor : Nat) : combine 0 floor 0 = floor := by simp [combine, Config.one]
  simp only [State.darkAt, floorPixel, channelCode, floor_alone]
  rfl

theorem clipsAt_iff (y x : Nat) (l : List (Nat × Pixel)) (s : State) :
    let light (channel : Pixel → Nat) : Nat :=
      combine (gainFloorAt s y x).1 (gainFloorAt s y x).2 (sampledLin s.profile.curve l channel)
    s.clipsAt y x l = true ↔ 32768 < light red ∨ 32768 < light green ∨ 32768 < light blue := by
  simp only [State.clipsAt, blendClips, clips, Bool.or_eq_true, decide_eq_true_eq, or_assoc]
  exact Iff.rfl

/-- What a pixel of a frame that reads a slot is and counts, by what the prefetch holds for it (R125, R127, R131,
R132). -/
theorem formPixel_effect {s : State} {y x : Nat} {slot : SlotNo} (picture : s.wbp.mode = .picture)
    (reads : s.wbp.frameSlot = some slot) :
    let u : State := formPixel y x s
    let light (l : List (Nat × Pixel)) (channel : Pixel → Nat) : Nat :=
      combine (gainFloorAt s y x).1 (gainFloorAt s y x).2 (sampledLin s.profile.curve l channel)
    (s.sampledAt y x = .underrun →
      s.formedPixel y x = s.darkAt y x ∧ u.wbp.underrun = true ∧
      u.counters = { s.counters with
        underrun := if s.wbp.underrun = true then s.counters.underrun else min 65535 (s.counters.underrun + 1) }) ∧
    (s.sampledAt y x = .parity →
      s.formedPixel y x = s.darkAt y x ∧ u.wbp.underrun = s.wbp.underrun ∧ u.counters = s.counters) ∧
    ∀ l, s.sampledAt y x = .pixels l →
      s.formedPixel y x = s.blendAt y x l ∧ u.wbp.underrun = s.wbp.underrun ∧
      u.counters = { s.counters with
        clipped := if 32768 < light l red ∨ 32768 < light l green ∨ 32768 < light l blue then
            min 65535 (s.counters.clipped + 1)
          else s.counters.clipped } := by
  intro u light
  obtain ⟨missing, failed, pixels⟩ := formPixel_of_slot (y := y) (x := x) picture reads
  refine ⟨fun sample => ?_, fun sample => ?_, fun l sample => ?_⟩
  · obtain ⟨pixel, formed⟩ := missing sample
    rw [show u = _ from formed]
    exact ⟨pixel, noteUnderrun_underrun _, noteUnderrun_counters _⟩
  · obtain ⟨pixel, formed⟩ := failed sample
    rw [show u = _ from formed]
    exact ⟨pixel, rfl, rfl⟩
  · obtain ⟨pixel, formed⟩ := pixels l sample
    have clipped : s.clipsAt y x l = true ↔ 32768 < light l red ∨ 32768 < light l green ∨ 32768 < light l blue :=
      clipsAt_iff y x l s
    rw [show u = _ from formed, if_congr clipped rfl rfl]
    refine ⟨pixel, ?_, ?_⟩
    · split <;> rfl
    · split <;> rfl

/-! ### What forming a pixel leaves (R119) -/

/-- From `s` to `u` the pixel `p` is handed to the link, and nothing else changes but the underrun mark, the prefetch
minimum and the counters (R119, R131, R165). -/
def Forms (p : Pixel) (s u : State) : Prop :=
  u = { s with
    wbp := { s.wbp with inFlight := (sendPixel p s).wbp.inFlight, underrun := u.wbp.underrun },
    fs := { s.fs with frameMinimum := u.fs.frameMinimum }, counters := u.counters }

section

variable (p : Pixel) (s : State)

theorem sendPixel_forms : Forms p s (sendPixel p s) := rfl

theorem sendPixel_noted_forms : Forms p s (sendPixel p (s.modFs noteOccupancy)) := rfl

end

theorem Forms.noteUnderrun {p : Pixel} {s u : State} (h : Forms p s u) : Forms p s (noteUnderrun u) := by
  unfold Machine.noteUnderrun
  split
  · exact h
  · unfold Forms at h ⊢
    conv_lhs => rw [h]
    rfl

theorem Forms.countClipped {p : Pixel} {s u : State} (h : Forms p s u) : Forms p s (countClipped u) := by
  unfold Forms at h ⊢
  conv_lhs => rw [h]
  rfl

theorem formPixel_forms {s : State} (y x : Nat) (sends : s.wbp.mode ≠ .none) :
    Forms (s.formedPixel y x) s (formPixel y x s) := by
  by_cases bare : s.wbp.mode = .black ∨ s.wbp.frameSlot = none
  · rw [formPixel_of_bare sends bare]
    exact sendPixel_forms _ s
  · obtain ⟨not_black, reads⟩ := not_or.mp bare
    obtain ⟨slot, reads⟩ := Option.ne_none_iff_exists'.mp reads
    have picture : s.wbp.mode = .picture := by
      cases mode : s.wbp.mode with
      | none => exact absurd mode sends
      | black => exact absurd mode not_black
      | picture => rfl
    obtain ⟨underrun, parity, pixels⟩ := formPixel_of_slot (y := y) (x := x) picture reads
    cases sample : s.sampledAt y x with
    | underrun =>
      obtain ⟨pixel, formed⟩ := underrun sample
      rw [pixel, formed]
      exact (sendPixel_noted_forms _ s).noteUnderrun
    | parity =>
      obtain ⟨pixel, formed⟩ := parity sample
      rw [pixel, formed]
      exact sendPixel_noted_forms _ s
    | pixels l =>
      obtain ⟨pixel, formed⟩ := pixels l sample
      rw [pixel, formed]
      split
      · exact (sendPixel_noted_forms _ s).countClipped
      · exact sendPixel_noted_forms _ s

/-! ### The move to the next position (R119, R130) -/

/-- An entry is retired with its last pixel. -/
theorem retired_succ (n : Need) (y x : Nat) :
    n.retired y (x + 1) = decide (n.outLine < y ∨ n.outLine = y ∧ n.lastX ≤ x) := by
  rw [Bool.eq_iff_iff]
  simp [Need.retired]

/-- What is retired after a pixel is retired before the next position. -/
theorem retired_nextPosition {p : Profile} {y x : Nat} {q : Nat × Nat} (next : nextPosition p y x = some q) {n : Need}
    (h : n.retired y (x + 1) = true) : n.retired q.1 q.2 = true := by
  unfold nextPosition at next
  split at next
  · cases next
    exact h
  · split at next
    · cases next
      rw [retired_succ, decide_eq_true_eq] at h
      have past : n.outLine < y + 1 := by omega
      simp [Need.retired, past]
    · cases next

/-- No entry is handed over that is retired before the next position (R130). -/
theorem refill_not_retired {n : Nat} {s : State} {e : Need} (h : e ∈ (refill n s).fs.sequence) :
    e ∈ s.fs.sequence ∨ ∃ q, s.wbp.position = some q ∧ e.retired q.1 q.2 = false := by
  induction n generalizing s with
  | zero => exact .inl h
  | succ n ih =>
    unfold refill at h
    split at h
    · next empty _ _ position =>
      dsimp only at h
      split at h
      · obtain handed | later := ih h
        · exact .inr ⟨_, position, by simpa using (List.mem_filter.mp handed).2⟩
        · exact .inr later
      · exact .inl h
    · exact .inl h

section

variable (y x : Nat) (s : State)

theorem stepPosition_frame :
    stepPosition y x s = { s with
      wbp := { s.wbp with
        position := nextPosition s.profile y x, nextLine := (stepPosition y x s).wbp.nextLine },
      fs := { s.fs with
        sequence := (stepPosition y x s).fs.sequence, arb := (stepPosition y x s).fs.arb,
        prefetch := s.fs.prefetch.filter fun q => !q.need.retired y (x + 1) } } := by
  unfold stepPosition
  dsimp only
  rw [settleStore_frame]
  rfl

/-- The arbiter once the entries of a pixel's position are retired: a fetch of one of them is to be discarded
(assumption log, entry 33). -/
theorem stepPosition_granted :
    Granted { s.fs.arb with burst := s.fs.arb.burst.map (Burst.retireBefore y (x + 1)) } (stepPosition y x s) :=
  settleStore_granted _

theorem stepPosition_sequence_of_left
    (left : (s.fs.sequence.filter fun n => !n.retired y (x + 1)) ≠ []) :
    (stepPosition y x s).fs.sequence = s.fs.sequence.filter fun n => !n.retired y (x + 1) := by
  unfold stepPosition
  dsimp only
  rw [settleStore_sequence, refillSequence, refill_eq_self _ (.inl left)]
  rfl

theorem stepPosition_not_retired {n : Need} (h : n ∈ (stepPosition y x s).fs.sequence) :
    n.retired y (x + 1) = false := by
  unfold stepPosition at h
  dsimp only at h
  rw [settleStore_sequence] at h
  obtain left | ⟨q, next, ahead⟩ := refill_not_retired h
  · simpa using (List.mem_filter.mp left).2
  · exact Bool.eq_false_iff.mpr fun retired => by simp [retired_nextPosition next retired] at ahead

end

/-! ### The pixel on the link (R119, R120) -/

/-- The last pixel handed to the link is what PXO_D carries at its instant, where all before it have been sent. -/
theorem pxoD_of_last {s : State} {before : List (Nat × Pixel)} {p : Pixel}
    (line : s.wbp.inFlight = before ++ [(s.now, p)]) (sent : ∀ q ∈ before, q.1 < s.now) :
    s.pxoD = if s.sc.state = .showing then p else 0 := by
  have none_before : (before.find? fun q => q.1 == s.now) = none := by
    simpa using fun a b h => (sent (a, b) h).ne
  have found : (s.wbp.inFlight.find? fun q => q.1 == s.now) = some (s.now, p) := by
    rw [line, List.find?_append, none_before]
    simp
  rw [State.pxoD, found]

/-! ### The event -/

theorem exec_pixelDue_due {dt y x : Nat} {s : State} (live : s.rstnLow = false) (sends : s.wbp.mode ≠ .none)
    (position : s.wbp.position = some (y, x))
    (now : s.now + dt = s.wbp.frameAt + 15000 + y * (s.profile.outWidth + 64) + x) :
    exec (.pixelDue dt) s = .next (stepPosition y x (formPixel y x (s.advance dt))) := by
  have due : (s.advance dt).pixelIsDue = true := by
    have instant : s.now + dt = dueInstant (s.advance dt) y x := now
    simp [State.pixelIsDue, sends, position, instant]
  have taken : takePixelDue (s.advance dt) = stepPosition y x (formPixel y x (s.advance dt)) := by
    simp [takePixelDue, position]
  rw [← taken]
  exact eventWhen_due dt s _ _ live due

/-- Settles O49: the pixel formed by mode and sample (`formPixel_of_bare`, `formPixel_effect`), on the link 1 µs later
(`pxoD_of_last`), and the entries that the move to the next position retires and hands over
(`stepPosition_not_retired`, `stepPosition_sequence_of_left`). -/
theorem pixelDue : Obligations.PixelDue := by
  unfold Obligations.PixelDue
  intro dt y x s live sends position now c gain floor dark light sampled appears past
  let n : State := s.advance dt
  let u : State := formPixel y x n
  let t : State := stepPosition y x u
  have forms : Forms (n.formedPixel y x) n u := formPixel_forms y x sends
  have stepped : t = _ := stepPosition_frame y x u
  have counters : t.counters = u.counters := by rw [stepped]
  have underrun : t.wbp.underrun = u.wbp.underrun := by rw [stepped]
  have minimum : t.fs.frameMinimum = u.fs.frameMinimum := by rw [stepped]
  have inFlight : t.wbp.inFlight =
      (s.wbp.inFlight.filter fun q => decide (s.now + dt ≤ q.1)) ++ [(appears, n.formedPixel y x)] := by
    rw [stepped, forms]
    rfl
  have prefetch : t.fs.prefetch = s.fs.prefetch.filter fun q => !q.need.retired y (x + 1) := by
    rw [stepped, forms]
    rfl
  have sequence : u.fs.sequence = s.fs.sequence := by rw [forms]; rfl
  have arb : u.fs.arb = s.fs.arb := by rw [forms]; rfl
  have retires (e : Need) : e.retired y (x + 1) = decide (past e) := retired_succ e y x
  refine ⟨t, n.formedPixel y x, exec_pixelDue_due live sends position now, ?_, inFlight, fun sent state => ?_,
    fun black => (formPixel_of_black (s := n) black).1, fun picture reads => ?_, fun bare => ?_,
    fun picture reads => ?_, fun q => ?_, fun e entry => ?_, fun left => ?_, fun e owner burst => ?_, ?_, ?_, ?_⟩
  · rw [stepped, forms]
    rfl
  · exact pxoD_of_last (s := { t with now := appears, sc := _ }) inFlight fun q h => sent q (List.mem_of_mem_filter h)
  · exact (formPixel_of_no_slot (s := n) picture reads).1.trans (darkAt_eq y x n)
  · rw [counters, underrun, minimum]
    have formed : u = sendPixel (n.formedPixel y x) n := formPixel_of_bare sends bare
    rw [formed]
    exact ⟨rfl, rfl, rfl⟩
  · obtain ⟨slot, reads⟩ := Option.ne_none_iff_exists'.mp reads
    have noted : u.fs.frameMinimum = _ := formPixel_frameMinimum (s := n) picture reads
    have effect := formPixel_effect (s := n) (y := y) (x := x) picture reads
    rw [darkAt_eq] at effect
    rw [counters, underrun, minimum]
    exact ⟨noted.trans (noteOccupancy_frameMinimum s.fs), effect⟩
  · simp [prefetch, retires]
  · have ahead := stepPosition_not_retired y x u entry
    simpa [retires] using ahead
  · have handed := stepPosition_sequence_of_left y x u
    simp only [sequence, retires] at handed
    exact handed left
  · have granted := (stepPosition_granted y x u).of_reader (by rw [arb]; exact owner)
    rw [arb, burst] at granted
    refine granted.trans ?_
    simp [Burst.retireBefore, retires]
  · rw [stepped, forms]
    rfl
  · rw [stepped, forms]
    rfl
  · rw [stepped, forms]
    rfl

end Sys2Proof.Machine

/-! SUPPORT. The Lamp Sampler (R138, R139, R144, R145, R147): SAMPLE, a code taken into its accumulator, a sequence
before the fourth, and where a manual conversion leaves the mode. -/

namespace Sys2Proof.Machine

/-! ### SAMPLE (R144) -/

theorem Channel.ofByte_eq_some {b : Byte} {c : Channel} (h : b = 0 ∧ c = .lamp0 ∨ b = 1 ∧ c = .lamp1) :
    Channel.ofByte b = some c := by
  obtain ⟨rfl, rfl⟩ | ⟨rfl, rfl⟩ := h <;> rfl

/-- STOP sets stop pending in continuous mode, and leaves it elsewhere as it was. -/
theorem stopManual_eq (l : Lamp) :
    stopManual l = { l with stopPending := l.stopPending || l.mode == .manualContinuous } := by
  by_cases continuous : l.mode = .manualContinuous
  · simp [stopManual, continuous]
  · have other : (l.mode == .manualContinuous) = false := beq_eq_false_iff_ne.mpr continuous
    rw [stopManual, if_neg continuous, other, Bool.or_false]

/-- A SAMPLE whose fields pass, taken in CONFIG: its effect on the sampler, and the result. -/
theorem actionCommand_sample_taken {dt : Nat} {channel mode : Byte} {c : Channel} {s : State}
    (f : Nat → Channel → Lamp → Lamp) (takes : s.takesAction dt) (config : s.sc.state = .config)
    (named : Channel.ofByte channel = some c) (valid : mode.toNat ≤ 2) :
    actionCommand dt s (fun u => sampleCommand channel mode (f u.now) u) =
      .next { s.answered dt .ok 0 with ls := f (s.now + dt) c s.ls } := by
  let u : State := endTransaction (s.advance dt)
  have taken : sampleCommand channel mode (f u.now) u = setResult .ok 0 (u.modLs (f u.now c)) := by
    simp [sampleCommand, u, endTransaction, config, named, valid]
  rw [actionCommand_open dt s _ takes]
  exact congrArg _ taken

/-- Settles O11: each mode by the effect of a SAMPLE whose fields pass (`actionCommand_sample_taken`), STOP by what it
makes of stop pending (`stopManual_eq`). -/
theorem sampleTaken : Obligations.SampleTaken := by
  unfold Obligations.SampleTaken
  intro dt channel c s takes config named conversion
  have named : Channel.ofByte channel = some c := Channel.ofByte_eq_some named
  refine ⟨?single, ?continuous, ?stop⟩
  case single => exact actionCommand_sample_taken (startManual · .manualSingle) takes config named (by decide)
  case continuous => exact actionCommand_sample_taken (startManual · .manualContinuous) takes config named (by decide)
  case stop =>
    rw [← stopManual_eq]
    exact actionCommand_sample_taken (fun _ _ => stopManual) takes config named (by decide)

/-! ### A conversion of a sequence (R138, R139) -/

/-- Full scale is faulted and adds nothing (R139). -/
theorem Accumulator.take_toNat (a : Accumulator) (code : BitVec 12) :
    a.take code.toNat = if code = 4095 then a else { sum := a.sum + code.toNat, number := a.number + 1 } := by
  have fullScale : code.toNat = Config.sensorFullScale ↔ code = 4095 := BitVec.toNat_inj (y := 4095)
  simp only [Accumulator.take, fullScale]

@[simp] theorem takeCode_sequences (channel : Channel) (code : Nat) (l : Lamp) :
    (takeCode channel code l).sequences = l.sequences := by cases channel <;> rfl

section

variable {dt : Nat} {code : BitVec 12} {c : Channel} {s : State}

theorem exec_conversionComplete_due (live : s.rstnLow = false) (running : s.running = true)
    (due : s.ls.conversion = some { channel := c, manual := false, completesAt := s.now + dt }) :
    exec (.conversionComplete dt code) s = .next (takeSequenceCode code.toNat (s.advance dt)) := by
  have running : (s.advance dt).running = true := running
  exact eventWhen_due dt s (fun u => u.running && u.conversionDue false) _ live
    (by simp [running, State.conversionDue, due])

/-- LAMP1 follows LAMP0 in DUAL mode (R138). -/
theorem takeSequenceCode_of_pair {conversion : Conversion} (code : Nat) (started : s.ls.conversion = some conversion)
    (first : conversion.channel = .lamp0) (dual : s.profile.lampMode = .dual) :
    takeSequenceCode code s =
      s.modLs fun l => beginConversion s.now .lamp1 false (takeCode conversion.channel code l) := by
  rw [takeSequenceCode, started]
  exact if_pos ⟨first, dual⟩

/-- A sequence before the fourth is counted at its last channel's conversion, and no average is formed (R139). -/
theorem takeSequenceCode_of_last {conversion : Conversion} (code : Nat) (started : s.ls.conversion = some conversion)
    (last : ¬(conversion.channel = .lamp0 ∧ s.profile.lampMode = .dual)) (early : s.ls.sequences < 3) :
    takeSequenceCode code s = s.modLs fun l =>
      { takeCode conversion.channel code l with conversion := none, sequences := s.ls.sequences + 1 } := by
  have early : ¬Config.sequencesPerAverage ≤ s.ls.sequences + 1 := Nat.not_le.mpr (Nat.succ_lt_succ early)
  simp [takeSequenceCode, started, last, completeSequence, early, State.modLs]

/-! ### A manual conversion (R145, R147) -/

theorem exec_manualConversionComplete_due (live : s.rstnLow = false)
    (due : s.ls.conversion = some { channel := c, manual := true, completesAt := s.now + dt }) :
    exec (.manualConversionComplete dt code) s = .next { s with
      now := s.now + dt,
      ls := afterManual (s.now + dt) c { s.ls with
        conversion := none, result := some { channel := c, code := code }, fresh := true } } := by
  have taken : takeManualCode code (s.advance dt) = (s.advance dt).modLs fun l => afterManual (s.now + dt) c
      { l with conversion := none, result := some { channel := c, code := code }, fresh := true } := by
    simp [takeManualCode, due]
  exact (eventWhen_due dt s (State.conversionDue · true) _ live (by simp [State.conversionDue, due])).trans
    (congrArg _ taken)

end

section

variable {l : Lamp} (now : Nat) (c : Channel)

theorem afterManual_of_autoPending (auto : l.autoPending = true) :
    afterManual now c l = { l with mode := .auto, autoPending := false, stopPending := false } := if_pos auto

theorem afterManual_of_single (auto : l.autoPending = false) (mode : l.mode = .manualSingle) :
    afterManual now c l = { l with mode := .off } := by simp [afterManual, auto, mode]

theorem afterManual_of_continuous (auto : l.autoPending = false) (mode : l.mode = .manualContinuous)
    (stop : l.stopPending = false) :
    afterManual now c l = beginConversion now c true { l with repeatedAt := some now } := by
  simp [afterManual, auto, mode, stop]

theorem afterManual_of_stopPending (auto : l.autoPending = false) (mode : l.mode = .manualContinuous)
    (stop : l.stopPending = true) : afterManual now c l = { l with mode := .off, stopPending := false } := by
  simp [afterManual, auto, mode, stop]

end

/-- Settles O40: a sequence's conversion by whether another channel follows it (`takeSequenceCode_of_pair`,
`takeSequenceCode_of_last`), a manual one by where the mode moves (`afterManual`). -/
theorem conversionsTaken : Obligations.ConversionsTaken := by
  unfold Obligations.ConversionsTaken
  intro dt channel code s live due taken next sampled
  have accumulates (a : Accumulator) : taken a = a.take code.toNat := (a.take_toNat code).symm
  constructor
  case left =>
    intro running due
    rw [exec_conversionComplete_due live running due]
    simp only [accumulates]
    refine ⟨fun first dual => ?_, fun first single early => ?_, fun second early => ?_⟩
    · subst first
      exact congrArg _ (takeSequenceCode_of_pair (s := s.advance dt) _ due rfl dual)
    · subst first
      refine congrArg _ (takeSequenceCode_of_last (s := s.advance dt) _ due (fun pair => ?_) early)
      cases single.symm.trans pair.2
    · subst second
      exact congrArg _ (takeSequenceCode_of_last (s := s.advance dt) _ due nofun early)
  case right =>
    intro due written
    rw [exec_manualConversionComplete_due live due]
    refine ⟨fun auto => ?_, fun auto => ⟨fun mode => ?_, fun mode stop => ?_, fun mode stop => ?_⟩⟩
    · exact congrArg (Host.Outcome.next <| sampled ·) (afterManual_of_autoPending _ _ auto)
    · exact congrArg (Host.Outcome.next <| sampled ·) (afterManual_of_single _ _ auto mode)
    · exact congrArg (Host.Outcome.next <| sampled ·) (afterManual_of_continuous _ _ auto mode stop)
    · exact congrArg (Host.Outcome.next <| sampled ·) (afterManual_of_stopPending _ _ auto mode stop)

end Sys2Proof.Machine

/-! SUPPORT. The limits of the frame store's buffers (R150, R155, R160, R162, R166): the arbiter in order beside the
reader's work, and what each operation on the FIFO, the reader and the arbiter makes of it. -/

namespace Sys2Proof.Machine

/-! ### The arbiter beside the reader's work (R160, R162) -/

/-- The arbiter in order beside the reader's sequence and the number of bursts in the prefetch: `ArbiterInOrder`. -/
structure ArbiterSound (a : Arbiter) (sequence : List Need) (fetched : Nat) : Prop where
  side : a.owner = (a.burst.map Burst.side).getD .none
  budget : a.budget ≤ a.owner.run
  left : a.owner ≠ .none → 0 < a.budget
  fetching : ∀ n ∈ a.burst.bind Burst.fetching, sequence.head? = some n ∧ fetched < Config.prefetchMax
  turn : a.turnEnds = true → a.owner = .reader

theorem ArbiterSound.idle (free : Nat) (sequence : List Need) (fetched : Nat) :
    ArbiterSound (Arbiter.idle free) sequence fetched :=
  ⟨rfl, Nat.le_refl 0, fun owned => absurd rfl owned, nofun, nofun⟩

/-- The side that requests has a burst of its own to begin, the reader that of its next entry, for which the prefetch
has a place (R154, R160). -/
theorem nextBurst_of_requests {o : Owner} {s : State} (h : requests o s = true) :
    ∃ b, nextBurst o s = some b ∧ b.side = o ∧
      ∀ n, b.fetching = some n → s.fs.sequence.head? = some n ∧ s.fs.prefetch.length < Config.prefetchMax := by
  cases o with
  | none => cases h
  | writer =>
    obtain ⟨p, oldest⟩ := Option.isSome_iff_exists.mp h
    exact ⟨_, by rw [nextBurst, oldest]; rfl, rfl, fun n same => by cases same⟩
  | reader =>
    have h : readerRequests s = true := h
    unfold readerRequests at h
    cases entries : s.fs.sequence with
    | nil => rw [entries] at h; cases h
    | cons n rest =>
      simp only [entries, Bool.and_eq_true, decide_eq_true_eq] at h
      exact ⟨.read n true, by rw [nextBurst, entries]; rfl, rfl, fun m same => by cases same; exact ⟨rfl, h.1⟩⟩

/-- A burst begun at a request, with a budget within the side's run, leaves the arbiter in order (R162). -/
theorem ArbiterSound.begun {o : Owner} {budget : Nat} {s : State} (idle : Bool) (h : requests o s = true)
    (some_left : 0 < budget) (run : budget ≤ o.run) :
    ArbiterSound (beginBurst o budget idle s).fs.arb s.fs.sequence s.fs.prefetch.length := by
  obtain ⟨b, next, side, fetching⟩ := nextBurst_of_requests h
  rw [beginBurst_frame]
  refine ⟨?_, run, fun _ => some_left, fun n hn => ?_, nofun⟩
  · simp [next, side]
  · rw [next] at hn
    exact fetching n hn

/-- The arbiter stays in order where the burst in progress is marked without another side, and a fetch still to be kept
is that of the next entry. -/
theorem ArbiterSound.mapBurst {a : Arbiter} {l m : List Need} {fetched left : Nat} (h : ArbiterSound a l fetched)
    {mark : Burst → Burst} (side : ∀ b, (mark b).side = b.side)
    (fetching : ∀ b n, (mark b).fetching = some n → b.fetching = some n ∧ (l.head? = some n → m.head? = some n))
    (fewer : left ≤ fetched) : ArbiterSound { a with burst := a.burst.map mark } m left where
  side := by simp [h.side, Function.comp_def, side]
  budget := h.budget
  left := h.left
  fetching n hn := by
    obtain ⟨marked, burst, kept⟩ := Option.bind_eq_some_iff.mp hn
    obtain ⟨b, found, rfl⟩ := Option.map_eq_some_iff.mp burst
    obtain ⟨kept, head⟩ := fetching b n kept
    obtain ⟨next, place⟩ := h.fetching n (Option.bind_eq_some_iff.mpr ⟨b, found, kept⟩)
    exact ⟨head next, fewer.trans_lt place⟩
  turn := h.turn

/-- The sequence is handed further entries only where it holds none, and then no fetch is to be kept (R130). -/
theorem ArbiterSound.refill {fetched : Nat} {s : State} (n : Nat) (h : ArbiterSound s.fs.arb s.fs.sequence fetched) :
    ArbiterSound s.fs.arb (refill n s).fs.sequence fetched := by
  by_cases empty : s.fs.sequence = []
  · refine { h with fetching := fun n hn => ?_ }
    have next := (h.fetching n hn).1
    rw [empty] at next
    cases next
  · rwa [refill_eq_self n (.inl empty)]

/-- The requests that stand are granted in order (R162). -/
theorem ArbiterSound.arbitrate {s : State} (h : ArbiterSound s.fs.arb s.fs.sequence s.fs.prefetch.length) :
    ArbiterSound (arbitrate s).fs.arb s.fs.sequence s.fs.prefetch.length := by
  unfold Machine.arbitrate
  split
  · split
    · next reads => exact .begun (o := .reader) true reads (by decide) le_rfl
    · split
      · next writes => exact .begun (o := .writer) true writes (by decide) le_rfl
      · exact h
  · split
    · next gives_way =>
      exact .begun (o := .reader) true (s := s.modFs _) (Bool.and_eq_true_iff.mp gives_way).1 (by decide) le_rfl
    · exact h
  · exact h

/-- Whoever has the memory after a burst has it in order (R162). -/
theorem ArbiterSound.nextTurn {s : State} (run : s.fs.arb.budget ≤ s.fs.arb.owner.run) :
    ArbiterSound (nextTurn s).fs.arb s.fs.sequence s.fs.prefetch.length := by
  have full {o : Owner} (h : requests o s = true) :
      ArbiterSound (beginBurst o o.run false s).fs.arb s.fs.sequence s.fs.prefetch.length := by
    refine .begun false h ?_ le_rfl
    cases o
    · cases h
    · decide
    · decide
  unfold Machine.nextTurn
  dsimp only
  split
  · next goes_on =>
    simp only [Bool.and_eq_true, bne_iff_ne] at goes_on
    obtain ⟨⟨some_left, -⟩, asks⟩ := goes_on
    exact .begun false asks (Nat.pos_of_ne_zero some_left) run
  · split
    · next asks => exact full asks
    · split
      · next asks => exact full asks
      · exact .idle ..

/-! ### Buffers in order -/

/-- Memory and parity bits canonical, the FIFO within two lines of `wi` pixels, the prefetch within its limit (R150). -/
structure BuffersLimited (wi : Nat) (f : FrameStore) : Prop where
  memory : f.memory.wf = true
  parity : f.parity.wf = true
  fifo : f.fifo.length ≤ 2 * wi
  prefetch : f.prefetch.length ≤ Config.prefetchMax

/-- The buffers within their limits and the arbiter in order (R150, R160, R162). -/
structure BuffersInOrder (wi : Nat) (f : FrameStore) : Prop extends BuffersLimited wi f where
  arbiter : ArbiterSound f.arb f.sequence f.prefetch.length

section

variable {wi : Nat} {f : FrameStore} (h : BuffersInOrder wi f)

include h

/-- Pixels discarded leave the others in the FIFO, and a write of theirs runs on (R155). -/
theorem BuffersInOrder.discardPixels (gone : SlotNo → Bool) : BuffersInOrder wi (discardPixels gone f) :=
  { h with
    fifo := (List.length_filter_le ..).trans h.fifo
    arbiter := h.arbiter.mapBurst (fun b => by cases b <;> rfl)
      (fun b n kept => by cases b <;> exact ⟨kept, id⟩) le_rfl }

/-- Retired entries leave the prefetch and the sequence; an entry being fetched is the next one, or its fetch is
discarded (R130). -/
theorem BuffersInOrder.retireBefore (y x : Nat) : BuffersInOrder wi (retireBefore y x f) :=
  { h with
    prefetch := (List.length_filter_le ..).trans h.prefetch
    arbiter := h.arbiter.mapBurst (fun b => by cases b <;> rfl) (fun b n kept => by
      cases b with
      | write => cases kept
      | read m keep =>
        cases keep with
        | false => cases kept
        | true =>
          cases due : m.retired y x with
          | true => simp [Burst.retireBefore, due, Burst.fetching] at kept
          | false =>
            obtain rfl : m = n := by simpa [Burst.retireBefore, due, Burst.fetching] using kept
            refine ⟨rfl, fun head => ?_⟩
            obtain ⟨rest, entries⟩ := List.head?_eq_some_iff.mp head
            simp [Machine.retireBefore, entries, due]) (List.length_filter_le ..) }

/-- The reader's work is emptied, and its fetch discarded (R160). -/
theorem BuffersInOrder.cutReader :
    BuffersInOrder wi
      { f with sequence := [], prefetch := [], arb := { f.arb with burst := f.arb.burst.map Burst.dropRead } } :=
  { h with
    prefetch := Nat.zero_le _
    arbiter := h.arbiter.mapBurst (fun b => by cases b <;> rfl) (fun b n kept => by cases b <;> cases kept)
      (Nat.zero_le _) }

/-- A READER's turn is ended (R162). -/
theorem BuffersInOrder.endTurn :
    BuffersInOrder wi { f with arb := { f.arb with turnEnds := f.arb.turnEnds || f.arb.owner == .reader } } :=
  { h with
    arbiter := { h.arbiter with
      turn := fun ends => by
        obtain before | now := Bool.or_eq_true_iff.mp ends
        · exact h.arbiter.turn before
        · exact beq_iff_eq.mp now } }

/-- A picture pixel finds a place in the FIFO or overruns it (R154, R155). -/
theorem BuffersInOrder.placePixel (px : Pixel) : BuffersInOrder wi (placePixel wi px f) := by
  have counted : BuffersInOrder wi { f with linePixels := f.linePixels + 1 } := { h with arbiter := h.arbiter }
  have damaged : BuffersInOrder wi { f with linePixels := f.linePixels + 1, damaged := true } :=
    { h with arbiter := h.arbiter }
  unfold Machine.placePixel
  dsimp only
  split
  · exact counted
  · split
    · exact counted
    · split
      · exact damaged.discardPixels _
      · next room =>
        have place : f.fifo.length + 1 ≤ 2 * wi := by omega
        exact { h with fifo := by simpa using place, arbiter := h.arbiter }

theorem BuffersInOrder.fillOut (px : Pixel) (n : Nat) : BuffersInOrder wi (fillOut wi px n f) := by
  induction n generalizing f with
  | zero => exact h
  | succ n ih => exact ih (h.placePixel px)

end

/-- A written burst leaves memory and parity bits canonical and the other pixels in the FIFO (R154, R163). -/
theorem BuffersLimited.writeBurstOf {wi : Nat} {f : FrameStore} (h : BuffersLimited wi f) (slot : SlotNo)
    (line column : Nat) : BuffersLimited wi (writeBurstOf wi slot line column f) where
  memory := Memory.wf_writeBytes h.memory ..
  parity := Memory.wf_writeBytes h.parity ..
  fifo := (List.length_filter_le ..).trans h.fifo
  prefetch := h.prefetch

/-- A fetched burst has a place in the prefetch while the arbiter is in order (R160). -/
theorem BuffersInOrder.fetchBurst {wi : Nat} {f : FrameStore} {n : Need} (h : BuffersInOrder wi f)
    (fetching : f.arb.burst = some (.read n true)) (bytes : List (Byte × Byte)) :
    BuffersLimited wi (fetchBurst n bytes f) := by
  have place := (h.arbiter.fetching n (by rw [fetching]; rfl)).2
  exact { h.toBuffersLimited with prefetch := by simpa [Machine.fetchBurst] using place }

/-! ### Sound buffers of the part -/

/-- The buffers in order, and in CONFIG an empty FIFO (R166). -/
structure BuffersSound (s : State) : Prop where
  inOrder : BuffersInOrder s.profile.inWidth s.fs
  config : s.sc.state = .config → s.fs.fifo = []

theorem run_le_readerRun (o : Owner) : o.run ≤ Config.readerRun := by cases o <;> decide

theorem buffersSound_iff (s : State) : BuffersSound s ↔ MemoryCanonical s ∧ BuffersBounded s := by
  constructor
  · rintro ⟨⟨⟨memory, parity, fifo, prefetch⟩, side, budget, left, fetching, turn⟩, config⟩
    exact ⟨⟨memory, parity⟩, fifo, prefetch, budget.trans (run_le_readerRun _), config, side, budget, left, fetching,
      turn⟩
  · rintro ⟨⟨memory, parity⟩, fifo, prefetch, -, config, side, budget, left, fetching, turn⟩
    exact ⟨⟨⟨memory, parity, fifo, prefetch⟩, side, budget, left, fetching, turn⟩, config⟩

/-- A store without pixels, bursts and entries is sound over a canonical memory. -/
theorem BuffersSound.of_empty {s : State} {free : Nat} (memory : s.fs.memory.wf = true) (parity : s.fs.parity.wf = true)
    (fifo : s.fs.fifo = []) (prefetch : s.fs.prefetch = []) (arb : s.fs.arb = Arbiter.idle free) : BuffersSound s where
  inOrder :=
    { memory := memory
      parity := parity
      fifo := fifo ▸ Nat.zero_le _
      prefetch := prefetch ▸ Nat.zero_le _
      arbiter := arb ▸ .idle .. }
  config _ := fifo

/-- Whoever has the memory after a burst, the buffers are sound (R162). -/
theorem BuffersSound.nextTurn {s : State} (limited : BuffersLimited s.profile.inWidth s.fs)
    (budget : s.fs.arb.budget ≤ s.fs.arb.owner.run) (config : s.sc.state = .config → s.fs.fifo = []) :
    BuffersSound (nextTurn s) := by
  have turned := ArbiterSound.nextTurn budget
  rw [nextTurn_frame] at turned ⊢
  exact ⟨{ limited with arbiter := turned }, config⟩

/-- The owner's burst has ended, and the memory is passed on (R162). -/
theorem BuffersSound.endBurst {s : State} (limited : BuffersLimited s.profile.inWidth s.fs)
    (budget : s.fs.arb.budget ≤ s.fs.arb.owner.run) (config : s.sc.state = .config → s.fs.fifo = []) :
    BuffersSound (endBurst s) := by
  refine .nextTurn ?_ ?_ ?_ <;> rw [refillSequence, refill_frame]
  · exact { limited with }
  · exact (Nat.sub_le ..).trans budget
  · exact config

section

variable {s : State} (h : BuffersSound s)

include h

theorem BuffersSound.refill (n : Nat) : BuffersSound (refill n s) := by
  have refilled := h.inOrder.arbiter.refill n
  rw [refill_frame]
  exact ⟨{ h.inOrder with arbiter := refilled }, h.config⟩

theorem BuffersSound.arbitrate : BuffersSound (arbitrate s) := by
  have granted := h.inOrder.arbiter.arbitrate
  rw [arbitrate_frame] at granted ⊢
  exact ⟨{ h.inOrder with arbiter := granted }, h.config⟩

theorem BuffersSound.settleStore : BuffersSound (settleStore s) := (h.refill _).arbitrate

end

end Sys2Proof.Machine

/-! SUPPORT. What every step upholds: sound buffers (R150, R155, R160, R162, R166), saturated counters (Conventions,
Counters), a full trap (R164) and pending causes (R178), which `Upholds` says of one operation after another. -/

namespace Sys2Proof.Machine

/-! ### The trap, the causes and the counters -/

/-- A full trap keeps its location and its MORE mark (R164). -/
def TrapHeld (a b : Option Trap) : Prop :=
  ∀ u, a = some u → ∃ more, b = some { u with more := more } ∧ (u.more = true → more = true)

theorem TrapHeld.of_eq {a b : Option Trap} (h : b = a) : TrapHeld a b := fun u hu => ⟨u.more, h.trans hu, id⟩

theorem TrapHeld.trans {a b c : Option Trap} (h : TrapHeld a b) (k : TrapHeld b c) : TrapHeld a c := by
  intro u hu
  obtain ⟨more, hb, kept⟩ := h u hu
  obtain ⟨more', hc, kept'⟩ := k _ hb
  exact ⟨more', hc, kept' ∘ kept⟩

/-- Every cause pending in `a` is pending in `b` (R178). -/
structure CausesHeld (a b : Causes) : Prop where
  state : a.state = true → b.state = true
  peer : a.peer = true → b.peer = true
  fault : a.fault = true → b.fault = true
  input : a.input = true → b.input = true

theorem CausesHeld.of_eq {a b : Causes} (h : b = a) : CausesHeld a b := h ▸ ⟨id, id, id, id⟩

theorem CausesHeld.trans {a b c : Causes} (h : CausesHeld a b) (k : CausesHeld b c) : CausesHeld a c :=
  ⟨k.state ∘ h.state, k.peer ∘ h.peer, k.fault ∘ h.fault, k.input ∘ h.input⟩

/-- Counters at most 65535 stay so (Conventions, Counters). -/
def CountersWithin (a b : Counters) : Prop :=
  (∀ n ∈ a.toList, n ≤ Config.counterMax) → ∀ n ∈ b.toList, n ≤ Config.counterMax

theorem CountersWithin.of_eq {a b : Counters} (h : b = a) : CountersWithin a b := h ▸ id

theorem CountersWithin.trans {a b c : Counters} (h : CountersWithin a b) (k : CountersWithin b c) :
    CountersWithin a c :=
  k ∘ h

@[simp] theorem countBy_le_counterMax (n c : Nat) : countBy n c ≤ Config.counterMax := Nat.min_le_left ..

@[simp] theorem count_le_counterMax (c : Nat) : count c ≤ Config.counterMax := Nat.min_le_left ..

/-- Each counter has stayed or is at most 65535. -/
theorem CountersWithin.of_each {a b : Counters} (h : ∀ n ∈ b.toList, n ∈ a.toList ∨ n ≤ Config.counterMax) :
    CountersWithin a b := fun within n hn => (h n hn).elim (within n) id

/-! ### Operations that uphold -/

/-- From `s` to `t` sound buffers, saturated counters, a full trap and the pending causes are upheld. -/
structure Upholds (s t : State) : Prop where
  buffers : BuffersSound s → BuffersSound t
  counters : CountersWithin s.counters t.counters
  trap : TrapHeld s.fs.trap t.fs.trap
  causes : CausesHeld s.svp.causes t.svp.causes

/-- Nothing changes in the Frame Store that its limits rest on, nor the trap. -/
structure SameBuffers (f g : FrameStore) : Prop where
  memory : g.memory = f.memory
  parity : g.parity = f.parity
  fifo : g.fifo = f.fifo
  sequence : g.sequence = f.sequence
  prefetch : g.prefetch = f.prefetch
  arb : g.arb = f.arb
  trap : g.trap = f.trap

theorem SameBuffers.of_eq {f g : FrameStore} (h : g = f) : SameBuffers f g := h ▸ ⟨rfl, rfl, rfl, rfl, rfl, rfl, rfl⟩

theorem BuffersInOrder.congr {wi : Nat} {f g : FrameStore} (h : BuffersInOrder wi f) (same : SameBuffers f g) :
    BuffersInOrder wi g where
  memory := same.memory ▸ h.memory
  parity := same.parity ▸ h.parity
  fifo := same.fifo ▸ h.fifo
  prefetch := same.prefetch ▸ h.prefetch
  arbiter := by rw [same.arb, same.sequence, same.prefetch]; exact h.arbiter

namespace Upholds

theorem refl (s : State) : Upholds s s := ⟨id, .of_eq rfl, .of_eq rfl, .of_eq rfl⟩

theorem trans {s t u : State} (h : Upholds s t) (k : Upholds t u) : Upholds s u :=
  ⟨k.buffers ∘ h.buffers, h.counters.trans k.counters, h.trap.trans k.trap, h.causes.trans k.causes⟩

theorem after {s t u : State} (k : Upholds t u) (h : Upholds s t) : Upholds s u := h.trans k

/-- What keeps the buffers and the profile, and moves to CONFIG from CONFIG alone. -/
theorem of_parts {s t : State} (fs : SameBuffers s.fs t.fs) (profile : t.sc.profile = s.sc.profile)
    (config : t.sc.state = .config → s.sc.state = .config) (counters : CountersWithin s.counters t.counters)
    (causes : CausesHeld s.svp.causes t.svp.causes) : Upholds s t where
  buffers h := by
    refine ⟨?_, fun hc => fs.fifo.trans (h.config (config hc))⟩
    rw [State.profile, profile]
    exact h.inOrder.congr fs
  counters := counters
  trap := .of_eq fs.trap
  causes := causes

/-- What leaves the Station Controller, the Frame Store, the Service Port and the counters alone. -/
theorem of_blocks {s t : State} (sc : t.sc = s.sc) (fs : t.fs = s.fs) (svp : t.svp = s.svp)
    (counters : t.counters = s.counters) : Upholds s t :=
  of_parts (.of_eq fs) (by rw [sc]) (fun h => sc ▸ h) (.of_eq counters) (.of_eq (by rw [svp]))

theorem then_blocks {s t u : State} (h : Upholds s t) (sc : u.sc = t.sc) (fs : u.fs = t.fs) (svp : u.svp = t.svp)
    (counters : u.counters = t.counters) : Upholds s u :=
  h.trans (of_blocks sc fs svp counters)

/-- What changes the Frame Store alone, which stays in order. -/
theorem modFs {s : State} {g : FrameStore → FrameStore}
    (inOrder : BuffersInOrder s.profile.inWidth s.fs → BuffersInOrder s.profile.inWidth (g s.fs))
    (config : s.sc.state = .config → s.fs.fifo = [] → (g s.fs).fifo = []) (trap : (g s.fs).trap = s.fs.trap) :
    Upholds s (s.modFs g) where
  buffers h := ⟨inOrder h.inOrder, fun hc => config hc (h.config hc)⟩
  counters := .of_eq rfl
  trap := .of_eq trap
  causes := .of_eq rfl

/-- What counts alone, each counter up to 65535. -/
theorem modCounters {s : State} {f : Counters → Counters}
    (counts : ∀ n ∈ (f s.counters).toList, n ∈ s.counters.toList ∨ n ≤ Config.counterMax) :
    Upholds s (s.modCounters f) :=
  ⟨fun h => ⟨h.inOrder, h.config⟩, .of_each counts, .of_eq rfl, .of_eq rfl⟩

/-- What raises causes alone. -/
theorem modSvp {s : State} {f : ServicePort → ServicePort} (causes : CausesHeld s.svp.causes (f s.svp).causes) :
    Upholds s (s.modSvp f) :=
  ⟨fun h => ⟨h.inOrder, h.config⟩, .of_eq rfl, .of_eq rfl, causes⟩

end Upholds

/-! ### Counting and raising -/

theorem raiseFault_upholds (s : State) : Upholds s (raiseFault s) := .modSvp ⟨id, id, fun _ => rfl, id⟩

theorem raisePeer_upholds (s : State) : Upholds s (raisePeer s) := .modSvp ⟨id, fun _ => rfl, id, id⟩

theorem raiseInput_upholds (s : State) : Upholds s (raiseInput s) := .modSvp ⟨id, id, id, fun _ => rfl⟩

theorem countLostArb_upholds (s : State) : Upholds s (countLostArb s) := .modCounters (by simp [Counters.toList])

theorem countBitFault_upholds (s : State) : Upholds s (countBitFault s) := .modCounters (by simp [Counters.toList])

theorem countTxDrop_upholds (s : State) : Upholds s (countTxDrop s) := .modCounters (by simp [Counters.toList])

theorem countExpired_upholds (s : State) : Upholds s (countExpired s) := .modCounters (by simp [Counters.toList])

theorem countCheckFail_upholds (s : State) : Upholds s (countCheckFail s) := .modCounters (by simp [Counters.toList])

theorem countDuplicate_upholds (s : State) : Upholds s (countDuplicate s) := .modCounters (by simp [Counters.toList])

theorem countDropped_upholds (s : State) : Upholds s (countDropped s) := .modCounters (by simp [Counters.toList])

theorem countStale_upholds (s : State) : Upholds s (countStale s) := .modCounters (by simp [Counters.toList])

theorem countShort_upholds (s : State) : Upholds s (countShort s) := .modCounters (by simp [Counters.toList])

theorem countUntagged_upholds (s : State) : Upholds s (countUntagged s) := .modCounters (by simp [Counters.toList])

theorem countOverrun_upholds (s : State) : Upholds s (countOverrun s) := .modCounters (by simp [Counters.toList])

theorem countParity_upholds (s : State) : Upholds s (countParity s) := .modCounters (by simp [Counters.toList])

theorem countSwaps_upholds (s : State) : Upholds s (countSwaps s) := .modCounters (by simp [Counters.toList])

theorem countHolds_upholds (s : State) : Upholds s (countHolds s) := .modCounters (by simp [Counters.toList])

theorem countSwapMiss_upholds (s : State) : Upholds s (countSwapMiss s) := .modCounters (by simp [Counters.toList])

theorem countDiverge_upholds (s : State) : Upholds s (countDiverge s) := .modCounters (by simp [Counters.toList])

theorem countClipped_upholds (s : State) : Upholds s (countClipped s) := .modCounters (by simp [Counters.toList])

theorem countUnderrun_upholds (s : State) : Upholds s (countUnderrun s) := .modCounters (by simp [Counters.toList])

theorem countSaturated_upholds (n : Nat) (s : State) : Upholds s (countSaturated n s) :=
  .modCounters (by simp [Counters.toList])

/-! ### The Station Controller, the view and the choice of reference -/

theorem setResult_upholds (r : ResultCode) (i : Nat) (s : State) : Upholds s (setResult r i s) :=
  .of_parts (.of_eq rfl) rfl id (.of_eq rfl) (.of_eq rfl)

theorem runPass_upholds (s : State) : Upholds s (runPass s) := by
  unfold runPass
  split
  · exact (countSaturated_upholds ..).after (.of_blocks rfl rfl rfl rfl)
  · exact .refl s

theorem cutReader_upholds (s : State) : Upholds s (cutReader s) :=
  .modFs BuffersInOrder.cutReader (fun _ => id) rfl

theorem turnBlack_upholds (s : State) : Upholds s (turnBlack s) := by
  unfold turnBlack
  split
  · exact (cutReader_upholds s).trans (.of_blocks rfl rfl rfl rfl)
  · exact .refl s

/-- A move to a running state upholds (R1). -/
theorem setState_upholds {st : ShowState} (h : st ≠ .config) (s : State) : Upholds s (setState st s) := by
  have moved : Upholds s (raiseState (s.modSc fun c => { c with state := st })) :=
    .of_parts (.of_eq rfl) rfl (fun hc => absurd hc h) (.of_eq rfl) ⟨fun _ => rfl, id, id, id⟩
  unfold setState
  dsimp only
  split
  · exact .refl s
  · split
    · exact moved
    · exact moved.trans (turnBlack_upholds _)

theorem joiningTest_upholds (s : State) : Upholds s (joiningTest s) := by
  obtain h | ⟨_, _, _, h⟩ := joiningTest_cases s
  · rw [h]; exact .refl s
  · rw [h]
    exact (setState_upholds (joiningExit_ne_config s) s).trans (.of_parts (.of_eq rfl) rfl id (.of_eq rfl) (.of_eq rfl))

theorem lockTest_upholds (b s : State) : Upholds s (lockTest b s) := by
  unfold lockTest
  split
  · exact .refl s
  · exact joiningTest_upholds s

theorem lampTest_upholds (s : State) : Upholds s (lampTest s) := by
  unfold lampTest
  split
  · exact setState_upholds (joiningExit_ne_config s) s
  · split
    · split
      · exact (setState_upholds (by nofun) s).trans (.of_blocks rfl rfl rfl rfl)
      · exact .refl s
    · split
      · exact setState_upholds (by nofun) s
      · exact .refl s
    · exact joiningTest_upholds s
    · exact .refl s
    · exact .refl s

theorem recomputeView_upholds (s : State) : Upholds s (recomputeView s) :=
  .of_blocks (by simp) (by simp) (by simp) (by simp)

theorem changeEntry_upholds (n : StationNo) (e : PeerEntry) (s : State) : Upholds s (changeEntry n e s) := by
  have entered : Upholds s (setEntry n e s) := .of_blocks rfl rfl rfl rfl
  unfold changeEntry
  dsimp only
  split
  · exact entered.trans (raisePeer_upholds _)
  · exact entered

theorem weighReference_upholds (s : State) : Upholds s (weighReference s) := .of_blocks rfl rfl rfl rfl

theorem weighIfChanged_upholds (b s : State) : Upholds s (weighIfChanged b s) := by
  rw [weighIfChanged_frame]
  exact .of_blocks rfl rfl rfl rfl

theorem hearPeer_upholds (s : State) : Upholds s (hearPeer s) := by
  unfold hearPeer
  dsimp only
  (repeat' split) <;> exact .of_blocks rfl rfl rfl rfl

/-! ### The reader, the arbiter and output frames (R130, R160, R162) -/

theorem settleStore_upholds (s : State) : Upholds s (settleStore s) :=
  ⟨BuffersSound.settleStore, .of_eq (by simp), .of_eq (by simp), .of_eq (by simp)⟩

theorem endReaderTurn_upholds (s : State) : Upholds s (endReaderTurn s) :=
  .modFs BuffersInOrder.endTurn (fun _ => id) rfl

theorem beginOutputFrame_upholds (s : State) : Upholds s (beginOutputFrame s) := by
  have opened : Upholds s s.frameOpened :=
    (endReaderTurn_upholds _).after ((cutReader_upholds s).then_blocks rfl rfl rfl rfl)
  rw [beginOutputFrame_eq]
  exact opened.trans (settleStore_upholds _)

theorem applyOrder_upholds (o : SameInstant) (b s : State) : Upholds s (applyOrder o b s) := by
  have pulsed : Upholds s (if o.pulseAfter then refreshPulse s else s) := by
    split
    · exact .of_blocks rfl rfl rfl rfl
    · exact .refl s
  unfold applyOrder
  dsimp only
  split
  · exact pulsed.trans (beginOutputFrame_upholds _)
  · exact pulsed

/-! ### The seam link -/

theorem dropPulse_upholds (s : State) : Upholds s (dropPulse s) :=
  (countExpired_upholds _).after (.of_blocks rfl rfl rfl rfl)

theorem takeStartMark_upholds (joined : Nat) (s : State) : Upholds s (takeStartMark joined s) := by
  unfold takeStartMark beginOffer
  split
  · dsimp only
    split
    · exact .of_blocks rfl rfl rfl rfl
    · exact .of_blocks rfl rfl rfl rfl
    · split
      · exact dropPulse_upholds s
      · exact .of_blocks rfl rfl rfl rfl
  · exact .refl s

theorem returnToQueue_upholds (m : OnLine) (n : Nat) (b : Bool) (s : State) : Upholds s (returnToQueue m n b s) := by
  unfold returnToQueue
  dsimp only
  split
  · split <;> exact .of_blocks rfl rfl rfl rfl
  · split <;> exact .of_blocks rfl rfl rfl rfl
  · split
    · exact .refl s
    · split
      · exact countExpired_upholds s
      · exact .of_blocks rfl rfl rfl rfl

theorem takeArbitrationLoss_upholds (s : State) : Upholds s (takeArbitrationLoss s) := by
  unfold takeArbitrationLoss
  split
  · exact (returnToQueue_upholds ..).after ((countLostArb_upholds s).then_blocks rfl rfl rfl rfl)
  · exact .refl s

theorem takeStuck_upholds (s : State) : Upholds s (takeStuck s) := by
  unfold takeStuck
  dsimp only
  split
  · exact (raiseFault_upholds _).after (.of_blocks rfl rfl rfl rfl)
  · exact .of_blocks rfl rfl rfl rfl

theorem takeMark_upholds (c2 c3 c4 : Bool) (run : Nat) (s : State) : Upholds s (takeMark c2 c3 c4 run s) := by
  unfold takeMark
  dsimp only
  split
  · exact .of_blocks rfl rfl rfl rfl
  · exact (countCheckFail_upholds s).trans (.of_blocks rfl rfl rfl rfl)

theorem takeStartMarkSeen_upholds (c2 c3 c4 : Bool) (run : Nat) (s : State) :
    Upholds s (takeStartMarkSeen c2 c3 c4 run s) := by
  unfold takeStartMarkSeen
  dsimp only
  split
  · exact (takeMark_upholds ..).after (.of_blocks rfl rfl rfl rfl)
  · split <;> exact .of_blocks rfl rfl rfl rfl

theorem takeShort_upholds (c : ShortCause) (run : Nat) (s : State) : Upholds s (takeShort c run s) := by
  have spent (t0 : Nat) (u : State) : Upholds u (if runIsSpentMark c run then takeSpentMark t0 run u else u) := by
    unfold takeSpentMark
    split
    · split
      · exact .of_blocks rfl rfl rfl rfl
      · exact takeMark_upholds ..
    · exact .refl u
  unfold takeShort
  split
  · refine .trans ?_ (spent ..)
    split
    · exact .of_blocks rfl rfl rfl rfl
    · exact (countCheckFail_upholds _).after (.of_blocks rfl rfl rfl rfl)
  · exact .refl s

theorem takeStray_upholds (width : Nat) (s : State) : Upholds s (takeStray width s) := by
  unfold takeStray; split <;> exact .of_blocks rfl rfl rfl rfl

/-! ### Messages -/

theorem actOnPulse_upholds (n : StationNo) (f : PulseFields) (s : State) : Upholds s (actOnPulse n f s) := by
  unfold actOnPulse storePulse mismatchPulse
  dsimp only
  split
  · split
    · exact changeEntry_upholds ..
    · exact .refl s
  · split
    · exact changeEntry_upholds ..
    · exact (changeEntry_upholds ..).trans (raiseFault_upholds _)

theorem actOnReady_upholds (n : StationNo) (f : FrameNo) (s : State) : Upholds s (actOnReady n f s) := by
  unfold actOnReady; dsimp only; split <;> exact .of_blocks rfl rfl rfl rfl

theorem actOnLeave_upholds (n : StationNo) (r : BitVec 4) (s : State) : Upholds s (actOnLeave n r s) := by
  unfold actOnLeave
  dsimp only
  split
  · exact .refl s
  · exact changeEntry_upholds ..

theorem decideSwap_upholds (s : State) : Upholds s (decideSwap s) := by
  unfold decideSwap
  split
  · exact .of_blocks rfl rfl rfl rfl
  · split
    · split
      · exact .of_parts ⟨rfl, rfl, rfl, rfl, rfl, rfl, rfl⟩ rfl id (.of_eq rfl) (.of_eq rfl)
      · exact (countSwapMiss_upholds _).after (.of_blocks rfl rfl rfl rfl)
    · exact .of_blocks rfl rfl rfl rfl

theorem takeCutoff_upholds (s : State) : Upholds s (takeCutoff s) := by
  have taken : Upholds s (s.modCu fun c => { c with cutoffTaken := true }) := .of_blocks rfl rfl rfl rfl
  unfold takeCutoff
  dsimp only
  split
  · exact taken.trans (decideSwap_upholds _)
  · exact taken

theorem takeReferencePulse_upholds (ts : Int) (beat : BitVec 8) (s : State) :
    Upholds s (takeReferencePulse ts beat s) := by
  have corrected (u : State) (a : Cadence × Bool) : Upholds u
      ((if a.2 = true then takeCutoff (u.modCu fun _ => a.1) else u.modCu fun _ => a.1).modCu
        (lockRule s.profile (phaseError s.profile.period s.cu ts))) := by
    have moved : Upholds u (u.modCu fun _ => a.1) := .of_blocks rfl rfl rfl rfl
    split
    · exact (moved.trans (takeCutoff_upholds _)).then_blocks rfl rfl rfl rfl
    · exact moved.then_blocks rfl rfl rfl rfl
  have noted (u : State) : Upholds u (u.modCu fun c => { c with previous := some { tRef := ts, beat := beat } }) :=
    .of_blocks rfl rfl rfl rfl
  have weighed (u : State) : Upholds u (if u.cu.lock = s.cu.lock then u else weighReference u) := by
    split
    · exact .refl u
    · exact weighReference_upholds u
  unfold takeReferencePulse
  dsimp only
  refine .trans (.trans ?_ (noted _)) (weighed _)
  split
  · exact (corrected _ _).after (.of_blocks rfl rfl rfl rfl)
  · exact .of_blocks rfl rfl rfl rfl

theorem examinePulse_upholds (ts : Int) (l : LockState) (f : FrameNo) (s : State) :
    Upholds s (examinePulse ts l f s) := by
  unfold examinePulse
  (repeat' split)
  · exact countDiverge_upholds s
  · exact .refl s
  · exact .refl s

theorem handPulseOn_upholds (n : StationNo) (f : PulseFields) (t0 : Nat) (s : State) :
    Upholds s (handPulseOn n f t0 s) := by
  have timed (ts : Int) : Upholds s (if s.cu.takesPulse n = true then takeReferencePulse ts f.beat s else s) := by
    split
    · exact takeReferencePulse_upholds ts f.beat s
    · exact .refl s
  have examined (ts : Int) (u : State) :
      Upholds u (if (u.pt.entry n).status = .live then examinePulse ts f.lock f.shown u else u) := by
    split
    · exact examinePulse_upholds ..
    · exact .refl u
  rw [handPulseOn]
  split
  · exact (timed _).trans (examined _ _)
  · exact .refl s

/-- The end of a received message upholds where acting on the message and handing it on do (R45, R52). -/
theorem takeMessage_upholds {act handOn : State → State} (hact : ∀ u, Upholds u (act u))
    (hand : ∀ u, Upholds u (handOn u)) {length : Nat} {crc : Byte} {v : Verdict} (s : State) :
    Upholds s (takeMessage length crc v (deliverMessage act handOn) s) := by
  have ended : Upholds s (endReception length crc s) := .of_blocks rfl rfl rfl rfl
  cases v with
  | checkFail => exact ended.trans (countCheckFail_upholds _)
  | duplicate =>
    exact (ended.trans (countDuplicate_upholds _)).trans (raiseFault_upholds _)
  | deliver =>
    have viewed := ((ended.trans (hearPeer_upholds _)).trans (hact _)).trans (recomputeView_upholds _)
    have weighed := viewed.trans (weighIfChanged_upholds (hearPeer (endReception length crc s)) _)
    exact (weighed.trans (hand _)).trans (lockTest_upholds ..)

/-! ### Consequences of a frame start -/

theorem takeSilent_upholds (n : StationNo) (o : SameInstant) (s : State) : Upholds s (takeSilent n o s) :=
  ((((changeEntry_upholds ..).trans (recomputeView_upholds _)).trans (weighIfChanged_upholds s _)).trans
    (lockTest_upholds s _)).trans (applyOrder_upholds o s _)

theorem takeIsolated_upholds (o : SameInstant) (s : State) : Upholds s (takeIsolated o s) :=
  have held : Upholds s
      ((raiseFault (s.modPt fun t => { t with condition := .isolated })).modCu (toHold s.profile.period)) :=
    .trans (.trans (.of_blocks rfl rfl rfl rfl) (raiseFault_upholds _)) (.of_blocks rfl rfl rfl rfl)
  (held.trans (lockTest_upholds s _)).trans (applyOrder_upholds o s _)

theorem becomeReference_upholds (o : SameInstant) (s : State) : Upholds s (becomeReference o s) :=
  have led : Upholds s (s.modCu (toReference s.profile.station s.profile.period)) := .of_blocks rfl rfl rfl rfl
  (led.trans (lockTest_upholds s _)).trans (applyOrder_upholds o s _)

theorem takeColdStartTest_upholds (o : SameInstant) (s : State) : Upholds s (takeColdStartTest o s) := by
  unfold takeColdStartTest
  split
  · exact becomeReference_upholds o s
  · exact .refl s

theorem takeOrphanTest_upholds (o : SameInstant) (s : State) : Upholds s (takeOrphanTest o s) := by
  unfold takeOrphanTest
  split
  · exact becomeReference_upholds o s
  · exact .refl s

theorem takeLockTimeout_upholds (o : SameInstant) (s : State) : Upholds s (takeLockTimeout o s) :=
  have waived : Upholds s (s.modSc fun c => { c with lockWaived := true }) :=
    .of_parts (.of_eq rfl) rfl id (.of_eq rfl) (.of_eq rfl)
  (waived.trans (joiningTest_upholds _)).trans (applyOrder_upholds o s _)

theorem takePassComplete_upholds (s : State) : Upholds s (takePassComplete s) := by
  unfold takePassComplete
  exact (recomputeView_upholds _).after ((runPass_upholds s).trans (.of_blocks rfl rfl rfl rfl))

/-! ### Lamp -/

theorem announceLamp_upholds (before : Nat) (s : State) : Upholds s (announceLamp before s) := by
  unfold announceLamp
  split
  · exact .refl s
  · exact (recomputeView_upholds s).trans (lampTest_upholds _)

theorem formAverage_upholds (s : State) : Upholds s (formAverage s) := by
  unfold formAverage
  dsimp only
  split
  · exact (announceLamp_upholds ..).after ((raiseFault_upholds _).after (.of_blocks rfl rfl rfl rfl))
  · exact (announceLamp_upholds ..).after (.of_blocks rfl rfl rfl rfl)

theorem takeSequenceCode_upholds (code : Nat) (s : State) : Upholds s (takeSequenceCode code s) := by
  unfold takeSequenceCode completeSequence
  split
  · exact .refl s
  · dsimp only
    split
    · exact .of_blocks rfl rfl rfl rfl
    · split
      · exact (formAverage_upholds _).after (.of_blocks rfl rfl rfl rfl)
      · exact .of_blocks rfl rfl rfl rfl

theorem takeManualCode_upholds (code : BitVec 12) (s : State) : Upholds s (takeManualCode code s) := by
  unfold takeManualCode; split <;> exact .of_blocks rfl rfl rfl rfl

end Sys2Proof.Machine

/-! SUPPORT. Input frames, bursts, output pixels, own frame starts, the service port and the entry to CONFIG uphold the
limits, the trap and the causes too, and with them every command. -/

namespace Sys2Proof.Machine

/-! ### Input frames (R152 to R158) -/

/-- What changes the Frame Store alone, and in it nothing that its limits rest on. -/
theorem Upholds.of_store {s t : State} (fs : SameBuffers s.fs t.fs) (sc : t.sc = s.sc) (svp : t.svp = s.svp)
    (counters : t.counters = s.counters) : Upholds s t :=
  .of_parts fs (by rw [sc]) (fun h => sc ▸ h) (.of_eq counters) (.of_eq (by rw [svp]))

theorem discardPixels_upholds (gone : SlotNo → Bool) (s : State) : Upholds s (s.modFs (discardPixels gone)) :=
  .modFs (·.discardPixels gone) (fun _ empty => by simp [discardPixels, empty]) rfl

/-- Slots rewritten with pixels of theirs discarded. -/
theorem rewriteSlots_upholds (g : List Slot → List Slot) (gone : SlotNo → Bool) (s : State) :
    Upholds s (s.modFs fun f => discardPixels gone { f with slots := g f.slots }) :=
  (discardPixels_upholds gone (s.modFs fun f => { f with slots := g f.slots })).after
    (.of_store ⟨rfl, rfl, rfl, rfl, rfl, rfl, rfl⟩ rfl rfl rfl)

theorem freeSlot_upholds (i : SlotNo) (s : State) : Upholds s (s.modFs (freeSlot i)) :=
  rewriteSlots_upholds (fun l => renumber (setSlot i .free l)) (fun j => j == i) s

theorem endFrameInProgress_upholds (s : State) : Upholds s (if s.fs.frameInProgress then endFrameShort s else s) := by
  unfold endFrameShort
  split
  · split
    · exact .refl s
    · next i _ =>
      have freed := freeSlot_upholds i s
      dsimp only
      split
      · exact freed.trans (countOverrun_upholds _)
      · exact freed.trans (countShort_upholds _)
  · exact .refl s

theorem takeSlot_upholds (s : State) : Upholds s (takeSlot s) := by
  unfold takeSlot
  split
  · exact .of_store ⟨rfl, rfl, rfl, rfl, rfl, rfl, rfl⟩ rfl rfl rfl
  · split
    · next i _ =>
      have taken := rewriteSlots_upholds (fun l => renumber (setSlot i .filling l)) (fun j => j == i) s
      exact taken.trans (countDropped_upholds _)
    · exact .refl s

theorem takeInputFrameStart_upholds (s : State) : Upholds s (takeInputFrameStart s) := by
  have taken := (endFrameInProgress_upholds s).trans (takeSlot_upholds _)
  have begun (u : State) : Upholds u (u.modFs (beginInput s.now)) :=
    .of_store ⟨rfl, rfl, rfl, rfl, rfl, rfl, rfl⟩ rfl rfl rfl
  exact (taken.trans (begun _)).trans (settleStore_upholds _)

theorem placePixel_frame (wi : Nat) (px : Pixel) (f : FrameStore) :
    placePixel wi px f = { f with
      linePixels := f.linePixels + 1, damaged := (placePixel wi px f).damaged, fifo := (placePixel wi px f).fifo,
      framePeak := (placePixel wi px f).framePeak, arb := (placePixel wi px f).arb } := by
  unfold placePixel
  dsimp only
  (repeat' split) <;> rfl

/-- Filling a line out changes its pixel count, the damaged mark, the FIFO, its peak and a write discarded (R154,
R155). -/
theorem fillOut_frame (wi : Nat) (px : Pixel) (n : Nat) (f : FrameStore) :
    fillOut wi px n f = { f with
      linePixels := f.linePixels + n, damaged := (fillOut wi px n f).damaged, fifo := (fillOut wi px n f).fifo,
      framePeak := (fillOut wi px n f).framePeak, arb := (fillOut wi px n f).arb } := by
  induction n generalizing f with
  | zero => rfl
  | succ n ih =>
    rw [fillOut, ih, placePixel_frame]
    simp [Nat.add_assoc, Nat.add_comm 1]

/-- An input pixel arrives in a running state (R152). -/
theorem takePixel_upholds (px : Pixel) {s : State} (running : s.sc.state ≠ .config) : Upholds s (takePixel px s) := by
  unfold takePixel
  split
  · split
    · have placed : Upholds s (s.modFs fun f => placePixel s.profile.inWidth px { f with lineLast := px }) :=
        .modFs (fun h =>
          have latest : BuffersInOrder s.profile.inWidth { s.fs with lineLast := px } :=
            h.congr ⟨rfl, rfl, rfl, rfl, rfl, rfl, rfl⟩
          latest.placePixel px) (fun hc => absurd hc running) (by rw [placePixel_frame])
      exact placed.trans (settleStore_upholds _)
    · exact .refl s
  · split
    · exact .of_store ⟨rfl, rfl, rfl, rfl, rfl, rfl, rfl⟩ rfl rfl rfl
    · exact .refl s
  all_goals exact .refl s

/-- An input line ends in a running state (R152). -/
theorem takeLineEnd_upholds {s : State} (running : s.sc.state ≠ .config) : Upholds s (takeLineEnd s) := by
  refine (settleStore_upholds _).after (.modFs (fun h => ?_) (fun hc => absurd hc running) (by rw [fillOut_frame]))
  exact (h.fillOut s.fs.lineLast (s.profile.inWidth - s.fs.linePixels)).congr ⟨rfl, rfl, rfl, rfl, rfl, rfl, rfl⟩

theorem judgeFrame_upholds (i : SlotNo) (s : State) : Upholds s (judgeFrame i s) := by
  have freed := freeSlot_upholds i s
  unfold judgeFrame
  split
  · exact freed.trans (countOverrun_upholds _)
  · split
    · exact freed.trans (countUntagged_upholds _)
    · split
      · exact .of_store ⟨rfl, rfl, rfl, rfl, rfl, rfl, rfl⟩ rfl rfl rfl
      · exact freed.trans (countStale_upholds _)

theorem takeTrailerEnd_upholds (s : State) : Upholds s (takeTrailerEnd s) := by
  have judged : Upholds s (match fillingSlot s.fs.slots with | some i => judgeFrame i s | none => s) := by
    split
    · exact judgeFrame_upholds _ s
    · exact .refl s
  have ended (u : State) : Upholds u (u.modFs fun f => { f with port := .done }) :=
    .of_store ⟨rfl, rfl, rfl, rfl, rfl, rfl, rfl⟩ rfl rfl rfl
  exact (judged.trans (ended _)).trans (settleStore_upholds _)

theorem takeInputLoss_upholds (s : State) : Upholds s (takeInputLoss s) := by
  have lost (u : State) : Upholds u (u.modFs fun f => { f with lost := true, port := .waiting }) :=
    .of_store ⟨rfl, rfl, rfl, rfl, rfl, rfl, rfl⟩ rfl rfl rfl
  exact (((endFrameInProgress_upholds s).trans (lost _)).trans (raiseInput_upholds _)).trans (settleStore_upholds _)

/-! ### Bursts (R154, R160, R162, R163) -/

/-- The end of a burst upholds where the buffers it leaves are in their limits. -/
theorem endBurst_upholds {s t : State}
    (limited : BuffersSound s → BuffersLimited t.profile.inWidth t.fs) (arb : t.fs.arb = s.fs.arb) (sc : t.sc = s.sc)
    (fifo : s.fs.fifo = [] → t.fs.fifo = []) (counters : CountersWithin s.counters t.counters)
    (trap : TrapHeld s.fs.trap t.fs.trap) (causes : CausesHeld s.svp.causes t.svp.causes) :
    Upholds s (endBurst t) where
  buffers h := .endBurst (limited h) (arb ▸ h.inOrder.arbiter.budget) fun hc => fifo (h.config (sc ▸ hc))
  counters := by rwa [endBurst_counters]
  trap := by rwa [endBurst_fs_trap]
  causes := by rwa [endBurst_svp]

/-- A discarded burst leaves no trace but in the arbiter (R160; assumption log, entries 16 and 34). -/
theorem discardedBurst_upholds (s : State) : Upholds s (endBurst s) :=
  endBurst_upholds (fun h => h.inOrder.toBuffersLimited) rfl rfl id (.of_eq rfl) (.of_eq rfl) (.of_eq rfl)

theorem takeWriteBurst_upholds (s : State) : Upholds s (takeWriteBurst s) := by
  unfold takeWriteBurst
  split
  · split
    · exact endBurst_upholds (fun h => h.inOrder.toBuffersLimited.writeBurstOf ..) rfl rfl
        (fun empty => by simp [writeBurstOf, empty]) (.of_eq rfl) (.of_eq rfl) (.of_eq rfl)
    · exact discardedBurst_upholds s
  · exact .refl s

/-- A failed burst changes the trap, PARITY and the FAULT cause alone (R163, R164). -/
theorem noteFailedBurst_frame (n : Need) (s : State) :
    noteFailedBurst n s = { s with
      fs := { s.fs with trap := (noteFailedBurst n s).fs.trap }, counters := (countParity s).counters,
      svp := (noteFailedBurst n s).svp } := by
  unfold noteFailedBurst
  dsimp only
  split <;> rfl

/-- A failed burst sets the trap's MORE mark where it is full (R164). -/
theorem noteFailedBurst_upholds (n : Need) (s : State) : Upholds s (noteFailedBurst n s) := by
  have counted := countParity_upholds s
  unfold noteFailedBurst
  dsimp only
  split
  · next empty =>
    have filled (u : Option Trap) : Upholds (countParity s) ((countParity s).modFs fun f => { f with trap := u }) :=
      ⟨fun h => ⟨{ h.inOrder with }, h.config⟩, .of_eq rfl, fun v hv => (by rw [empty] at hv; cases hv), .of_eq rfl⟩
    exact (counted.trans (filled _)).trans (raiseFault_upholds _)
  · next u full =>
    refine counted.trans ⟨fun h => ⟨{ h.inOrder with }, h.config⟩, .of_eq rfl, fun v hv => ?_, .of_eq rfl⟩
    rw [full] at hv
    cases hv
    exact ⟨true, rfl, fun _ => rfl⟩

theorem takeReadBurst_upholds (upsets : List Upset) (s : State) : Upholds s (takeReadBurst upsets s) := by
  unfold takeReadBurst
  split
  · next n kept burst =>
    dsimp only
    cases kept with
    | false => exact discardedBurst_upholds s
    | true =>
      rw [if_pos rfl]
      split
      · have noted := noteFailedBurst_upholds n
          (s.modFs (fetchBurst n (fetchBytes s.profile.inWidth n upsets s.fs)))
        rw [noteFailedBurst_frame] at noted ⊢
        exact endBurst_upholds (fun h => { h.inOrder.fetchBurst burst _ with }) rfl rfl id noted.counters noted.trap
          noted.causes
      · exact endBurst_upholds (fun h => h.inOrder.fetchBurst burst _) rfl rfl id (.of_eq rfl) (.of_eq rfl) (.of_eq rfl)
  · exact .refl s

/-! ### Output pixels (R119, R130, R131, R165) -/

theorem noteUnderrun_upholds (s : State) : Upholds s (noteUnderrun s) := by
  unfold noteUnderrun
  split
  · exact .refl s
  · exact (countUnderrun_upholds _).after (.of_blocks rfl rfl rfl rfl)

theorem formPicturePixel_upholds (y x : Nat) (s : State) : Upholds s (formPicturePixel y x s) := by
  have sent (p : Pixel) : Upholds s (sendPixel p (s.modFs noteOccupancy)) :=
    .of_store ⟨rfl, rfl, rfl, rfl, rfl, rfl, rfl⟩ rfl rfl rfl
  unfold formPicturePixel
  dsimp only
  split
  · exact (sent _).trans (noteUnderrun_upholds _)
  · exact sent _
  · split
    · exact (sent _).trans (countClipped_upholds _)
    · exact sent _

theorem takePixelDue_upholds (s : State) : Upholds s (takePixelDue s) := by
  have formed (y x : Nat) : Upholds s (formPixel y x s) := by
    unfold formPixel
    split
    · exact formPicturePixel_upholds y x s
    · exact .of_blocks rfl rfl rfl rfl
    · exact .of_blocks rfl rfl rfl rfl
    · exact .refl s
  have retired (y x : Nat) (u : State) : Upholds u (u.modFs (retireBefore y x)) :=
    .modFs (·.retireBefore y x) (fun _ => id) rfl
  unfold takePixelDue
  split
  · next y x _ =>
    exact (settleStore_upholds _).after ((retired y (x + 1) _).after ((formed y x).then_blocks rfl rfl rfl rfl))
  · exact .refl s

/-! ### Own frame starts (R92, R93, R165) -/

theorem enactDecision_upholds (s : State) : Upholds s (enactDecision s) := by
  unfold enactDecision
  split
  · exact .refl s
  · exact (countHolds_upholds s).then_blocks rfl rfl rfl rfl
  · next target slot _ =>
    have swapped := rewriteSlots_upholds (swappedSlots target slot)
      (fun i => slotAt (swappedSlots target slot s.fs.slots) i == .free) s
    exact (swapped.trans (countSwaps_upholds _)).then_blocks rfl rfl rfl rfl

theorem periodBegun_upholds (s : State) : Upholds s s.periodBegun := by
  have latched (u : State) : Upholds u (u.modFs latchMarks) :=
    .of_store ⟨rfl, rfl, rfl, rfl, rfl, rfl, rfl⟩ rfl rfl rfl
  exact (latched _).after ((enactDecision_upholds _).after (.of_blocks rfl rfl rfl rfl))

theorem frameCounted_upholds (s : State) : Upholds s s.frameCounted := by
  have grid := frameCounted_keepsGrid s
  exact .of_parts (.of_eq (frameCounted_fs s)) grid.profile (fun h => (grid.config h).1)
    (.of_eq (by simp [State.frameCounted])) (.of_eq (by simp [State.frameCounted]))

theorem frameStartRunning_upholds (order : SameInstant) (s : State) : Upholds s (frameStartRunning order s) := by
  have promoted (u : State) : Upholds u (promote u) := .of_blocks (by simp) (by simp) (by simp) (by simp)
  have tested : Upholds s (s.frameTested order) := by
    unfold State.frameTested
    split
    · exact ((frameCounted_upholds s).trans (promoted _)).trans (joiningTest_upholds _)
    · have begun := (frameCounted_upholds s).trans (beginOutputFrame_upholds _)
      exact (begun.trans (promoted _)).trans (joiningTest_upholds _)
  rw [frameStartRunning_eq]
  split
  · exact (beginOutputFrame_upholds _).after (tested.then_blocks rfl rfl rfl rfl)
  · exact tested.then_blocks rfl rfl rfl rfl

theorem takeFrameStart_upholds (order : SameInstant) (s : State) : Upholds s (takeFrameStart order s) := by
  cases running : s.running with
  | false =>
    rw [takeFrameStart_of_not_running order running]
    exact (periodBegun_upholds s).trans (beginOutputFrame_upholds _)
  | true =>
    rw [takeFrameStart_of_running order running]
    exact (periodBegun_upholds s).trans (frameStartRunning_upholds order _)

/-! ### The entry to CONFIG (R15, R16, R39) -/

/-- The entry to CONFIG empties the FIFO, the reader and the arbiter (R166). -/
theorem enterConfig_upholds (s : State) : Upholds s (enterConfig s) := by
  obtain ⟨-, -, -, -, -, -, -, -, -, fs, causes, -⟩ := enterConfig_enters s
  refine ⟨fun h => ?_, ?_, .of_eq (by rw [fs]), ?_⟩
  · refine .of_empty (free := s.fs.arb.memoryFree) ?_ ?_ ?_ ?_ ?_ <;> rw [fs]
    · exact h.inOrder.memory
    · exact h.inOrder.parity
  · rw [enterConfig_counters]
    exact (runPass_upholds s).counters
  · rw [causes]
    exact ⟨fun h => by simp [h], id, id, id⟩

theorem stopComplete_upholds (s : State) : Upholds s (stopComplete s) := by
  unfold stopComplete
  split
  · exact enterConfig_upholds s
  · exact .refl s

theorem takeBitFault_upholds (line : LineLevel) (s : State) : Upholds s (takeBitFault line s) := by
  have aborted (g : Link → Link) : Upholds s ((countBitFault s).modSlc g) :=
    (countBitFault_upholds s).then_blocks rfl rfl rfl rfl
  unfold takeBitFault retryOrDrop
  split
  · dsimp only
    split
    · exact (aborted _).trans (returnToQueue_upholds ..)
    · split
      · exact ((aborted _).trans (countTxDrop_upholds _)).trans (stopComplete_upholds _)
      · exact (aborted _).trans (countTxDrop_upholds _)
  · exact .refl s

theorem takeCompletion_upholds (s : State) : Upholds s (takeCompletion s) := by
  unfold takeCompletion
  split
  · dsimp only
    split
    · exact (stopComplete_upholds _).after (.of_blocks rfl rfl rfl rfl)
    · exact .of_blocks rfl rfl rfl rfl
  · exact .refl s

theorem clearCounters_upholds (s : State) : Upholds s (clearCounters s) :=
  .modCounters (by simp [Counters.toList, Counters.zero])

theorem softReset_upholds (line : LineLevel) (s : State) : Upholds s (softReset line s) := by
  have entered (u : State) : Upholds u (clearCounters (enterConfig u)) :=
    (enterConfig_upholds u).trans (clearCounters_upholds _)
  have cleared (u : State) : Upholds u ((u.modLs fun l => { l with fresh := false }).modSc fun c =>
      { c with joinCount := 0, lockTimeoutCount := 0, lockWaived := false }) :=
    .of_parts (.of_eq rfl) rfl id (.of_eq rfl) (.of_eq rfl)
  exact (cleared _).after ((entered _).after (.of_blocks rfl rfl rfl rfl))

theorem releaseReset_upholds (s : State) : Upholds s (releaseReset s) := by
  unfold releaseReset; split <;> exact .of_blocks rfl rfl rfl rfl

/-! ### The commands of the service port -/

theorem startShow_upholds (s : State) : Upholds s (startShow s) := by
  have moved := setState_upholds (st := .joining) (by nofun) s
  have fs : (startShow s).fs = storeStart (micros s.now) (setState .joining s).fs := by simp [startShow, formViewAfresh]
  refine moved.trans (.of_parts ?_ ?_ (fun config => ?_) (.of_eq ?_) (.of_eq ?_))
  · rw [fs]
    exact ⟨rfl, rfl, rfl, rfl, rfl, rfl, rfl⟩
  · simp [startShow, formViewAfresh]
  · simpa [startShow, formViewAfresh] using config
  · simp [startShow, formViewAfresh]
  · simp [startShow, formViewAfresh]

theorem stopShow_upholds (s : State) : Upholds s (stopShow s) :=
  (setState_upholds (st := .stopping) (by nofun) s).then_blocks rfl rfl rfl rfl

/-- An accepted PROFILE meets an empty FIFO, which any input width has room for (R6, R166). -/
theorem acceptProfile_upholds (r : RawProfile) {s : State} (config : s.sc.state = .config) :
    Upholds s (acceptProfile r s) := by
  unfold acceptProfile
  refine (beginOutputFrame_upholds _).after ⟨fun h => ?_, .of_eq rfl, .of_eq rfl, .of_eq rfl⟩
  obtain ⟨⟨⟨memory, parity, -, prefetch⟩, arbiter⟩, empty⟩ := h
  have fits (n : Nat) : s.fs.fifo.length ≤ n := by simp [empty config]
  exact ⟨⟨⟨memory, parity, fits _, prefetch⟩, arbiter⟩, fun _ => empty config⟩

theorem profileCommand_upholds (r : RawProfile) (s : State) : Upholds s (profileCommand r s) := by
  unfold profileCommand
  split
  · next config =>
    split
    · exact (setResult_upholds ..).after (.of_blocks rfl rfl rfl rfl)
    · exact (acceptProfile_upholds _ config).trans (setResult_upholds ..)
  · exact setResult_upholds ..

theorem meshCommand_upholds (payload : List Byte) (s : State) : Upholds s (meshCommand payload s) := by
  unfold meshCommand meshRecords
  dsimp only
  (repeat' split)
  · exact setResult_upholds ..
  · exact setResult_upholds ..
  all_goals exact (setResult_upholds ..).after (.of_blocks rfl rfl rfl rfl)

theorem sampleCommand_upholds (channel mode : Byte) (f : Channel → Lamp → Lamp) (s : State) :
    Upholds s (sampleCommand channel mode f s) := by
  unfold sampleCommand
  (repeat' split)
  · exact setResult_upholds ..
  · exact setResult_upholds ..
  · exact setResult_upholds ..
  · exact (setResult_upholds ..).after (.of_blocks rfl rfl rfl rfl)

end Sys2Proof.Machine

/-! SUPPORT. The limits, the trap and the causes over one step (R150, R155, R160, R162, R164, R166, R178). -/

namespace Sys2Proof.Machine

/-- An event leaves time alone passed, or its effect where it is due. -/
theorem eventWhen_outcome {dt : Nat} {s t : State} {due : State → Bool} {f : State → State}
    (h : eventWhen dt s due f = .next t) : t = s.advance dt ∨ (due (s.advance dt) = true ∧ t = f (s.advance dt)) := by
  simp only [eventWhen, event, Host.Outcome.next.injEq] at h
  subst h
  split
  · exact .inl rfl
  · split
    · next due_now => exact .inr ⟨due_now, rfl⟩
    · exact .inl rfl

theorem advance_upholds (dt : Nat) (s : State) : Upholds s (s.advance dt) := .of_blocks rfl rfl rfl rfl

/-- An event upholds where its effect does, met where it is due. -/
theorem Upholds.eventWhenDue {dt : Nat} {s t : State} {due : State → Bool} {f : State → State}
    (h : eventWhen dt s due f = .next t) (hf : ∀ u, due u = true → Upholds u (f u)) : Upholds s t := by
  obtain rfl | ⟨due_now, rfl⟩ := eventWhen_outcome h
  · exact advance_upholds dt s
  · exact (hf _ due_now).after (advance_upholds dt s)

theorem Upholds.eventWhen {dt : Nat} {s t : State} {due : State → Bool} {f : State → State}
    (h : Machine.eventWhen dt s due f = .next t) (hf : ∀ u, Upholds u (f u)) : Upholds s t :=
  eventWhenDue h fun u _ => hf u

theorem Upholds.actionCommand {dt : Nat} {s t : State} {f : State → State}
    (h : Machine.actionCommand dt s f = .next t) (hf : ∀ u, Upholds u (f u)) : Upholds s t := by
  have ended (u : State) : Upholds u (endTransaction u) := .modSvp (.of_eq rfl)
  exact Upholds.eventWhen h fun u => (ended u).trans (hf _)

/-- A read command answers and otherwise does what reading does. -/
theorem answer_upholds (l : List Byte) (s : State) :
    Upholds s (s.modSvp fun p => { p with transaction := .reading, shiftOut := l }) := .modSvp (.of_eq rfl)

theorem Upholds.readCommand {dt : Nat} {s t : State} {record : State → List Byte} {f : State → State}
    (h : Machine.readCommand dt s record f = .next t) (hf : ∀ u, Upholds u (f u)) : Upholds s t :=
  Upholds.eventWhen h fun u => (hf u).trans (answer_upholds _ _)

/-- Every command but a hardware reset, TRAP and STATUS upholds. -/
theorem exec_upholds {c : Instr} {s t : State} (h : exec c s = .next t) (reset : ∀ dt, c ≠ .hardwareReset dt)
    (trap : ∀ dt, c ≠ .trap dt) (status : ∀ dt, c ≠ .status dt) : Upholds s t := by
  cases c <;> simp only [exec, execProfile, execMesh, execStart, execStop, execReset, execSampleSingle,
    execSampleContinuous, execSampleStop, execPeers, execCounters, execReadSample, execUnknown, execLength,
    execRstnRelease, execFrameStart, execCutoff, execStartMarkBegin, execArbitrationLost, execBitFault,
    execMessageComplete, execPulseExpired, execStuck, execLinkNormal, execStartMarkRecognised, execMessageEndedShort,
    execPulse, execReady, execLeave, execSilent, execIsolated, execColdStartTest, execOrphanTest, execLockTimeout,
    execPassComplete, execConversionComplete, execManualConversionComplete, execInputFrameStart, execInputPixel,
    execLineEnd, execTrailerLineEnd, execInputLost, execWriteBurst, execReadBurst, execPixelDue, execStrayPulse,
    execArbitrationFieldEnd, execTransactionBegin] at h
  case profile dt payload =>
    refine .actionCommand h fun u => ?_
    split
    · exact setResult_upholds ..
    · exact profileCommand_upholds ..
  case mesh dt payload =>
    refine .actionCommand h fun u => ?_
    split
    · exact setResult_upholds ..
    · exact meshCommand_upholds ..
  case start dt =>
    refine .actionCommand h fun u => ?_
    (repeat' split)
    · exact setResult_upholds ..
    · exact setResult_upholds ..
    · exact setResult_upholds ..
    · exact (startShow_upholds u).trans (setResult_upholds ..)
  case stop dt =>
    refine .actionCommand h fun u => ?_
    split
    · exact setResult_upholds ..
    · exact setResult_upholds ..
    all_goals exact (stopShow_upholds u).trans (setResult_upholds ..)
  case reset taken => exact .actionCommand h fun u => (softReset_upholds _ u).trans (setResult_upholds ..)
  case sampleSingle dt channel mode => exact .actionCommand h fun u => sampleCommand_upholds ..
  case sampleContinuous dt channel mode => exact .actionCommand h fun u => sampleCommand_upholds ..
  case sampleStop dt channel mode => exact .actionCommand h fun u => sampleCommand_upholds ..
  case status dt => exact absurd rfl (status dt)
  case peers dt => exact .readCommand h .refl
  case counters dt => exact .readCommand h fun u => (runPass_upholds u).trans (clearCounters_upholds _)
  case trap dt => exact absurd rfl (trap dt)
  case readSample dt => exact .readCommand h fun u => .of_blocks rfl rfl rfl rfl
  case unknown dt code =>
    refine .actionCommand h fun u => ?_
    split
    · exact setResult_upholds ..
    · exact .refl u
  case length dt code payload =>
    refine .actionCommand h fun u => ?_
    split
    · exact setResult_upholds ..
    · exact .refl u
  case hardwareReset dt => exact absurd rfl (reset dt)
  case rstnRelease dt =>
    cases h
    exact (releaseReset_upholds _).after (advance_upholds dt s)
  case frameStart dt order => exact .eventWhen h (takeFrameStart_upholds order)
  case cutoff dt => exact .eventWhen h takeCutoff_upholds
  case startMarkBegin dt joined => exact .eventWhen h (takeStartMark_upholds joined)
  case arbitrationLost dt => exact .eventWhen h takeArbitrationLoss_upholds
  case bitFault dt line => exact .eventWhen h (takeBitFault_upholds line)
  case messageComplete dt => exact .eventWhen h takeCompletion_upholds
  case pulseExpired dt => exact .eventWhen h dropPulse_upholds
  case stuck dt => exact .eventWhen h takeStuck_upholds
  case linkNormal dt => exact .eventWhen h fun u => .of_blocks rfl rfl rfl rfl
  case startMarkRecognised dt c2 c3 c4 run => exact .eventWhen h (takeStartMarkSeen_upholds c2 c3 c4 run)
  case messageEndedShort dt cause run => exact .eventWhen h (takeShort_upholds cause run)
  case pulse dt sender payload crc =>
    exact .eventWhen h fun u => takeMessage_upholds (actOnPulse_upholds sender _) (handPulseOn_upholds sender _ _) u
  case ready dt sender payload crc =>
    exact .eventWhen h fun u => takeMessage_upholds (actOnReady_upholds sender payload) .refl u
  case leave dt sender payload crc =>
    exact .eventWhen h fun u => takeMessage_upholds (actOnLeave_upholds sender _) .refl u
  case silent dt peer order => exact .eventWhen h (takeSilent_upholds peer order)
  case isolated dt order => exact .eventWhen h (takeIsolated_upholds order)
  case coldStartTest dt order => exact .eventWhen h (takeColdStartTest_upholds order)
  case orphanTest dt order => exact .eventWhen h (takeOrphanTest_upholds order)
  case lockTimeout dt order => exact .eventWhen h (takeLockTimeout_upholds order)
  case passComplete dt => exact .eventWhen h takePassComplete_upholds
  case conversionComplete dt code => exact .eventWhen h (takeSequenceCode_upholds _)
  case manualConversionComplete dt code => exact .eventWhen h (takeManualCode_upholds code)
  case inputFrameStart dt => exact .eventWhen h takeInputFrameStart_upholds
  case inputPixel dt pixel => exact .eventWhenDue h fun u due => takePixel_upholds pixel (ne_config_of_portOpen due)
  case lineEnd dt =>
    refine .eventWhenDue h fun u due => takeLineEnd_upholds (ne_config_of_portOpen ?_)
    simp only [State.lineEndDue, Bool.and_eq_true] at due
    obtain ⟨⟨opened, -⟩, -⟩ := due
    exact opened
  case trailerLineEnd dt => exact .eventWhen h takeTrailerEnd_upholds
  case inputLost dt => exact .eventWhen h takeInputLoss_upholds
  case writeBurst dt => exact .eventWhen h takeWriteBurst_upholds
  case readBurst dt upsets => exact .eventWhen h (takeReadBurst_upholds upsets)
  case pixelDue dt => exact .eventWhen h takePixelDue_upholds
  case strayPulse dt width => exact .eventWhen h (takeStray_upholds width)
  case arbitrationFieldEnd dt => exact .eventWhen h fun u => .of_blocks rfl rfl rfl rfl
  case transactionBegin select => exact .eventWhen h fun u => .modSvp (.of_eq rfl)

/-- STATUS clears the causes and upholds the rest (R178). -/
theorem exec_status_held {dt : Nat} {s t : State} (h : exec (.status dt) s = .next t) :
    (BuffersSound s → BuffersSound t) ∧ CountersWithin s.counters t.counters ∧ TrapHeld s.fs.trap t.fs.trap := by
  have h : execStatus dt s = .next t := h
  unfold execStatus readCommand at h
  have advanced := advance_upholds dt s
  obtain rfl | ⟨-, rfl⟩ := eventWhen_outcome h
  · exact ⟨advanced.buffers, advanced.counters, advanced.trap⟩
  · obtain ⟨buffers, counters, trap, -⟩ := advanced.trans (runPass_upholds _)
    exact ⟨fun hs => ⟨(buffers hs).inOrder, (buffers hs).config⟩, counters, trap⟩

/-- TRAP empties the trap and upholds the rest (R164). -/
theorem exec_trap_held {dt : Nat} {s t : State} (h : exec (.trap dt) s = .next t) :
    (BuffersSound s → BuffersSound t) ∧ CountersWithin s.counters t.counters ∧
      CausesHeld s.svp.causes t.svp.causes := by
  have h : execTrap dt s = .next t := h
  unfold execTrap readCommand at h
  obtain rfl | ⟨-, rfl⟩ := eventWhen_outcome h
  · have advanced := advance_upholds dt s
    exact ⟨advanced.buffers, advanced.counters, advanced.causes⟩
  · exact ⟨fun hs => ⟨{ hs.inOrder with }, hs.config⟩, .of_eq rfl, .of_eq rfl⟩

/-- A hardware reset leaves empty buffers over the memory as it stands, and counters of 0 (R17; assumption log, entry
14). -/
theorem exec_hardwareReset_sound {dt : Nat} {s t : State} (h : exec (.hardwareReset dt) s = .next t) :
    (BuffersSound s → BuffersSound t) ∧ CountersWithin s.counters t.counters := by
  cases h
  exact ⟨fun hs => .of_empty (free := 0) hs.inOrder.memory hs.inOrder.parity rfl rfl rfl,
    show CountersWithin s.counters Counters.zero from .of_each (by simp [Counters.toList, Counters.zero])⟩

/-- Every command keeps the buffers sound and the counters within their limit. -/
theorem exec_keeps_limits {c : Instr} {s t : State} (h : exec c s = .next t) :
    (BuffersSound s → BuffersSound t) ∧ CountersWithin s.counters t.counters := by
  by_cases reset : ∃ dt, c = .hardwareReset dt
  · obtain ⟨dt, rfl⟩ := reset
    exact exec_hardwareReset_sound h
  by_cases trap : ∃ dt, c = .trap dt
  · obtain ⟨dt, rfl⟩ := trap
    obtain ⟨buffers, counters, -⟩ := exec_trap_held h
    exact ⟨buffers, counters⟩
  by_cases status : ∃ dt, c = .status dt
  · obtain ⟨dt, rfl⟩ := status
    obtain ⟨buffers, counters, -⟩ := exec_status_held h
    exact ⟨buffers, counters⟩
  · obtain ⟨buffers, counters, -⟩ :=
      exec_upholds h (not_exists.mp reset) (not_exists.mp trap) (not_exists.mp status)
    exact ⟨buffers, counters⟩

/-- Settles O52: the buffers in order and the arbiter beside the reader's work (`buffersSound_iff`), which every command
keeps so with the counters (`exec_keeps_limits`), an empty queue idling. -/
theorem buffersKept : Obligations.BuffersKept := by
  unfold Obligations.BuffersKept
  intro s t memory bounded saturate h
  suffices limits : BuffersSound t ∧ CountersSaturate t by
    obtain ⟨sound, saturate⟩ := limits
    obtain ⟨memory, bounded⟩ := (buffersSound_iff t).mp sound
    exact ⟨memory, bounded, saturate⟩
  have sound : BuffersSound s := (buffersSound_iff s).mpr ⟨memory, bounded⟩
  unfold step at h
  split at h
  · cases h
    exact ⟨sound, saturate⟩
  · next c rest _ =>
    obtain ⟨buffers, counters⟩ := exec_keeps_limits h
    exact ⟨buffers ⟨sound.inOrder, sound.config⟩, counters saturate⟩

/-- Settles O60: every command but the three upholds trap and causes (`exec_upholds`); STATUS holds the trap
(`exec_status_held`), TRAP the causes (`exec_trap_held`). -/
theorem trapAndCausesHeld : Obligations.TrapAndCausesHeld := by
  unfold Obligations.TrapAndCausesHeld
  intro c s t h reset
  constructor
  · intro u full trap
    suffices held : TrapHeld s.fs.trap t.fs.trap from held u full
    by_cases status : ∃ dt, c = .status dt
    · obtain ⟨dt, rfl⟩ := status
      obtain ⟨-, -, held⟩ := exec_status_held h
      exact held
    · exact (exec_upholds h reset trap (not_exists.mp status)).trap
  · intro status
    suffices held : CausesHeld s.svp.causes t.svp.causes from ⟨held.state, held.peer, held.fault, held.input⟩
    by_cases trap : ∃ dt, c = .trap dt
    · obtain ⟨dt, rfl⟩ := trap
      obtain ⟨-, -, held⟩ := exec_trap_held h
      exact held
    · exact (exec_upholds h reset (not_exists.mp trap) status).causes

end Sys2Proof.Machine

/-! SUPPORT. Input pixels and line ends (R152, R154, R155): what becomes of one pixel in the FIFO, and of the copies
that fill a line out. -/

namespace Sys2Proof.Machine

/-! ### A pixel in the FIFO (R154, R155) -/

theorem settleStore_storeIs (s : State) : (settleStore s).storeIs s.fs := by
  conv_lhs => rw [settleStore_frame]

/-- Settling the store changes the Frame Store and how far the need lists have been handed over. -/
theorem settleStore_rest (s : State) :
    settleStore s = { s with
      fs := (settleStore s).fs, wbp := { s.wbp with nextLine := (settleStore s).wbp.nextLine } } := by
  rw [settleStore_frame]

section

variable {i : SlotNo} {f : FrameStore} (filling : fillingSlot f.slots = some i) (wi : Nat) (px : Pixel)

include filling

/-- A pixel of a damaged frame is only counted (R155). -/
theorem placePixel_damaged (damaged : f.damaged = true) :
    placePixel wi px f = { f with linePixels := f.linePixels + 1 } := by
  unfold placePixel
  dsimp only
  rw [filling]
  exact if_pos damaged

/-- A pixel that finds the FIFO full damages its frame, whose pixels are discarded (R155). -/
theorem placePixel_overrun (whole : f.damaged = false) (full : 2 * wi ≤ f.fifo.length) :
    placePixel wi px f = discardSlot i { f with linePixels := f.linePixels + 1, damaged := true } := by
  unfold placePixel
  dsimp only
  rw [filling]
  dsimp only
  rw [if_neg (by simp [whole]), if_pos full]

/-- Any other pixel goes to the FIFO's end (R154). -/
theorem placePixel_placed (whole : f.damaged = false) (room : f.fifo.length < 2 * wi) :
    placePixel wi px f =
      { f with
        linePixels := f.linePixels + 1,
        fifo := f.fifo ++ [{ slot := i, line := f.lineCount, column := f.linePixels, pixel := px }],
        framePeak := max f.framePeak (f.fifo.length + 1) } := by
  unfold placePixel
  dsimp only
  rw [filling]
  dsimp only
  rw [if_neg (by simp [whole]), if_neg (Nat.not_le.mpr room)]

end

/-! ### The port (R152) -/

theorem portOpen_advance {dt : Nat} {s : State} (running : s.running = true) (port : s.fs.port ≠ .off) :
    (s.advance dt).portOpen = true := by
  have running : (s.advance dt).running = true := running
  simp [State.portOpen, running, port]

section

variable {px : Pixel} {s : State}

/-- A picture pixel of a line not yet full goes to the writer (R154). -/
theorem takePixel_picture (port : s.fs.port = .picture) (short : s.fs.linePixels < s.profile.inWidth) :
    takePixel px s = settleStore (s.modFs fun f => placePixel s.profile.inWidth px { f with lineLast := px }) := by
  simp [takePixel, port, short]

/-- The first two pixels of the trailer line are kept (R152). -/
theorem takePixel_trailer (port : s.fs.port = .trailer) (short : s.fs.trailer.length < 2) :
    takePixel px s = s.modFs fun f => { f with trailer := f.trailer ++ [px] } := by
  rw [takePixel, port]
  exact if_pos short

/-- Pixels beyond the line and outside a frame are ignored, and so are those of the trailer line after its second
(R152). -/
theorem takePixel_ignored (ignored : (s.fs.port = .picture ∧ s.profile.inWidth ≤ s.fs.linePixels) ∨
    (s.fs.port = .trailer ∧ 2 ≤ s.fs.trailer.length) ∨ s.fs.port = .waiting ∨ s.fs.port = .done ∨ s.fs.port = .off) :
    takePixel px s = s := by
  unfold takePixel
  obtain ⟨port, full⟩ | ⟨port, full⟩ | port | port | port := ignored <;> rw [port]
  · exact if_neg (Nat.not_lt.mpr full)
  · exact if_neg (Nat.not_lt.mpr full)

end

/-- Settles O43: the three fates of a picture pixel (`placePixel_damaged`, `placePixel_overrun`, `placePixel_placed`), a
trailer pixel, and the pixels ignored (`takePixel_ignored`). -/
theorem inputPixels : Obligations.InputPixels := by
  unfold Obligations.InputPixels
  intro dt px i s live running wi f counted takes
  have exec_open (port : f.port ≠ .off) : exec (.inputPixel dt px) s = .next (takePixel px (s.advance dt)) :=
    eventWhen_due dt s _ _ live (portOpen_advance running port)
  refine ⟨fun port short filling => ?_, fun port short => ?_, fun ignored => ?_⟩
  · have filling : fillingSlot { f with lineLast := px }.slots = some i := filling
    have taken : takePixel px (s.advance dt) =
        settleStore ((s.advance dt).modFs fun f => placePixel wi px { f with lineLast := px }) :=
      takePixel_picture port short
    have placed {g : FrameStore} {a : Arbiter} (h : placePixel wi px { f with lineLast := px } = { g with arb := a }) :
        takes g := by
      refine ⟨_, exec_open (by rw [port]; nofun), ?_⟩
      rw [taken]
      refine ⟨?_, settleStore_rest _⟩
      have store := settleStore_storeIs ((s.advance dt).modFs fun f => placePixel wi px { f with lineLast := px })
      have moved : ((s.advance dt).modFs fun f => placePixel wi px { f with lineLast := px }).fs =
          { g with arb := a } := h
      rw [moved] at store
      exact store
    exact ⟨fun damaged => placed (placePixel_damaged filling wi px damaged),
      fun whole full => placed (placePixel_overrun filling wi px whole full),
      fun whole room => placed (placePixel_placed filling wi px whole room)⟩
  · exact (exec_open (by rw [port]; nofun)).trans (congrArg _ (takePixel_trailer (s := s.advance dt) port short))
  · have unchanged : takePixel px (s.advance dt) = s.advance dt := takePixel_ignored ignored
    cases due : (s.advance dt).portOpen with
    | true => exact (eventWhen_due dt s _ _ live due).trans (congrArg _ unchanged)
    | false => exact eventWhen_not_due dt s _ _ due

/-! ### A line filled out (R154, R155) -/

/-- `n` copies of a line's last pixel, from a column on (R154). -/
def lineCopies (i : SlotNo) (line column : Nat) (px : Pixel) (n : Nat) : List FifoPixel :=
  (List.range n).map fun j => { slot := i, line := line, column := column + j, pixel := px }

theorem lineCopies_succ (i : SlotNo) (line column : Nat) (px : Pixel) (n : Nat) :
    lineCopies i line column px (n + 1) =
      { slot := i, line := line, column := column, pixel := px } :: lineCopies i line (column + 1) px n := by
  simp [lineCopies, List.range_succ_eq_map, Function.comp_def, Nat.add_assoc, Nat.add_comm 1]

section

variable {i : SlotNo} {f : FrameStore} (filling : fillingSlot f.slots = some i) (wi : Nat) (px : Pixel)

include filling

/-- In a damaged frame the copies are only counted (R155). -/
theorem fillOut_damaged (damaged : f.damaged = true) (n : Nat) :
    fillOut wi px n f = { f with linePixels := f.linePixels + n } := by
  induction n generalizing f with
  | zero => rfl
  | succ n ih =>
    rw [fillOut, placePixel_damaged filling wi px damaged, ih (by exact filling) (by exact damaged)]
    simp [Nat.add_assoc, Nat.add_comm 1]

/-- Copies that the FIFO has room for go to its end (R154). -/
theorem fillOut_placed (whole : f.damaged = false) (n : Nat) (room : f.fifo.length + n ≤ 2 * wi) :
    fillOut wi px n f = { f with
      linePixels := f.linePixels + n, fifo := f.fifo ++ lineCopies i f.lineCount f.linePixels px n,
      framePeak := if n = 0 then f.framePeak else max f.framePeak (f.fifo.length + n) } := by
  induction n generalizing f with
  | zero => simp [fillOut, lineCopies]
  | succ n ih =>
    rw [fillOut, placePixel_placed filling wi px whole (by omega),
      ih (by exact filling) (by exact whole) (by simp; omega), lineCopies_succ]
    simp only [List.length_append, List.length_singleton, List.append_assoc, List.singleton_append,
      FrameStore.mk.injEq, true_and, and_true, Nat.succ_ne_zero, if_false]
    exact ⟨by omega, by split <;> omega⟩

/-- Copies that the FIFO has no room for damage their frame (R155). -/
theorem fillOut_overrun (whole : f.damaged = false) {n : Nat} (some_missing : 0 < n)
    (full : 2 * wi < f.fifo.length + n) :
    (fillOut wi px n f).damaged = true ∧ (fillOut wi px n f).fifo = f.fifo.filter fun p => p.slot != i := by
  induction n generalizing f with
  | zero => cases some_missing
  | succ n ih =>
    rw [fillOut]
    by_cases room : f.fifo.length < 2 * wi
    · rw [placePixel_placed filling wi px whole room]
      obtain ⟨damaged, fifo⟩ := ih (f := { f with
        linePixels := f.linePixels + 1,
        fifo := f.fifo ++ [{ slot := i, line := f.lineCount, column := f.linePixels, pixel := px }],
        framePeak := max f.framePeak (f.fifo.length + 1) }) filling whole (by omega) (by simp; omega)
      exact ⟨damaged, fifo.trans (by simp)⟩
    · rw [placePixel_overrun filling wi px whole (Nat.not_lt.mp room)]
      rw [fillOut_damaged (i := i) (by exact filling) wi px rfl]
      exact ⟨rfl, rfl⟩

end

/-- Settles O44: what filling a line out leaves (`fillOut_damaged`, `fillOut_placed`, `fillOut_overrun`) and what it
leaves alone (`fillOut_frame`). -/
theorem lineEnds : Obligations.LineEnds := by
  unfold Obligations.LineEnds
  intro dt i s live running port some_pixels fits filling wi f missing
  have due : (s.advance dt).lineEndDue = true := by
    have opened := portOpen_advance (dt := dt) running (by rw [port]; nofun)
    simp [State.lineEndDue, opened, port, some_pixels]
  let g := fillOut wi f.lineLast missing f
  let t := takeLineEnd (s.advance dt)
  have store : t.storeIs { g with
      lineCount := f.lineCount + 1, linePixels := 0,
      port := if s.profile.inHeight ≤ f.lineCount + 1 then .trailer else .picture } := settleStore_storeIs _
  have fifo : t.fs.fifo = g.fifo := settleStore_fs_fifo _
  have damaged : t.fs.damaged = g.damaged := settleStore_fs_damaged _
  have peak : t.fs.framePeak = g.framePeak := settleStore_fs_framePeak _
  refine ⟨t, eventWhen_due dt s _ _ live due, fun broken => ?_, fun whole room => ?_,
    fun whole full some_missing => ?_, ?_, settleStore_rest _⟩
  · have kept : g = _ := fillOut_damaged filling wi f.lineLast broken missing
    rw [damaged, fifo, peak, kept]
    exact ⟨broken, rfl, rfl⟩
  · have placed : g = _ := fillOut_placed filling wi f.lineLast whole missing room
    rw [damaged, fifo, peak, placed]
    exact ⟨whole, rfl, rfl⟩
  · rw [damaged, fifo]
    exact fillOut_overrun filling wi f.lineLast whole some_missing full
  · have frame : g = _ := fillOut_frame wi f.lineLast missing f
    rw [damaged, fifo, peak]
    rw [frame] at store
    exact store

end Sys2Proof.Machine

/-! SUPPORT. The end of a burst (R162): who has the memory next, and what stays. -/

namespace Sys2Proof.Machine

/-- The part with the owner's burst over and its budget lowered, before the memory is passed on (R162; assumption log,
entry 52). -/
def State.burstOver (s : State) : State :=
  s.modFs fun f => { f with arb := { f.arb with budget := f.arb.budget - 1, burst := none } }

theorem endBurst_eq (s : State) : endBurst s = nextTurn (refill s.profile.outHeight s.burstOver) := rfl

theorem endBurst_storeIs (s : State) : (endBurst s).storeIs s.fs := by
  conv_lhs => rw [endBurst_frame]

/-- The end of a burst changes the Frame Store and how far the need lists have been handed over. -/
theorem endBurst_rest (s : State) :
    endBurst s = { s with
      fs := (endBurst s).fs, wbp := { s.wbp with nextLine := (endBurst s).wbp.nextLine } } := by
  rw [endBurst_frame]

/-- Entries that wait stay the reader's next ones over the end of a burst (R130). -/
theorem endBurst_sequence {s : State} (waiting : s.fs.sequence ≠ []) : (endBurst s).fs.sequence = s.fs.sequence := by
  have kept : refill s.profile.outHeight s.burstOver = s.burstOver := refill_eq_self _ (.inl waiting)
  rw [endBurst_eq, kept, nextTurn_frame]
  rfl

/-- Requests and the bursts they are for go by the store but its arbiter, and by the profile. -/
theorem requests_withArb (o : Owner) (a : Arbiter) (s : State) :
    requests o { s with fs := { s.fs with arb := a } } = requests o s ∧
      nextBurst o { s with fs := { s.fs with arb := a } } = nextBurst o s := by
  cases o <;> exact ⟨rfl, rfl⟩

/-- Who has the memory once a burst has ended at this instant, by the requests that then stand (R162). -/
theorem nextTurn_arb {s : State} (free : s.fs.arb.memoryFree = s.now) :
    let a := s.fs.arb
    let given (o : Owner) (budget : Nat) : Arbiter :=
      { owner := o, budget := budget, burst := nextBurst o s, memoryFree := s.now + 4, turnEnds := false,
        grantedAt := none }
    (nextTurn s).fs.arb =
      if a.budget ≠ 0 ∧ a.turnEnds = false ∧ requests a.owner s = true then given a.owner a.budget
      else if requests a.owner.other s = true then given a.owner.other a.owner.other.run
      else if requests a.owner s = true then given a.owner a.owner.run
      else Arbiter.idle a.memoryFree := by
  have begun (o : Owner) (n : Nat) : (beginBurst o n false s).fs.arb =
      { owner := o, budget := n, burst := nextBurst o s, memoryFree := s.now + 4, turnEnds := false,
        grantedAt := none } := by
    rw [beginBurst_frame, free, Nat.max_self]
    rfl
  unfold nextTurn
  simp only [Bool.and_eq_true, bne_iff_ne, Bool.not_eq_true', and_assoc]
  split
  · exact begun ..
  · split
    · exact begun ..
    · split
      · exact begun ..
      · rfl

/-- The memory is passed on at the end of a burst that has left the arbiter as it stood in `s` (R162). -/
theorem endBurst_passedOn {s u : State} (arb : u.fs.arb = s.fs.arb) (free : s.fs.arb.memoryFree = u.now) :
    PassedOn s (endBurst u) := by
  obtain ⟨v, refilled⟩ : ∃ v, v = refill u.profile.outHeight u.burstOver := ⟨_, rfl⟩
  have ended : v.fs.arb = { s.fs.arb with budget := s.fs.arb.budget - 1, burst := none } := by
    rw [refilled, refill_frame, ← arb]
    rfl
  have now : v.now = u.now := by
    rw [refilled, refill_frame]
    rfl
  have turned := nextTurn_arb (s := v) (by rw [ended, now]; exact free)
  have run {o : Owner} (h : requests o v = true) : o.run = if o = .reader then 32 else 16 := by
    cases o
    · cases h
    · rfl
    · rfl
  have result : endBurst u = { v with fs := { v.fs with arb := (endBurst u).fs.arb } } := by
    rw [endBurst_eq, ← refilled]
    exact nextTurn_frame v
  have same (o : Owner) : requests o (endBurst u) = requests o v ∧ nextBurst o (endBurst u) = nextBurst o v := by
    rw [result]
    exact requests_withArb o _ v
  have instant : (endBurst u).now = v.now := (endBurst_now u).trans now.symm
  unfold PassedOn
  simp only [fun o => (same o).1, fun o => (same o).2, instant]
  rw [endBurst_eq, ← refilled]
  refine turned.trans ?_
  rw [ended]
  dsimp only
  split
  · rfl
  · split
    · next asks => rw [run asks]
    · split
      · next asks => rw [run asks]
      · rfl

end Sys2Proof.Machine

/-! SUPPORT. The writer's burst (R154, R160, R162, R163). -/

namespace Sys2Proof.Machine

/-! ### The bytes of a burst (R150, R163) -/

theorem length_pixelBytes (p : Pixel) : (pixelBytes p).length = 4 := rfl

theorem length_flatMap_pixelBytes (l : List Pixel) : (l.flatMap pixelBytes).length = 4 * l.length := by
  induction l with
  | nil => rfl
  | cons p l ih => simp [ih, length_pixelBytes, Nat.mul_add, Nat.add_comm]

/-- The pixels that a burst's bytes hold are those it was made of (R150). -/
theorem pixelsOf_flatMap_pixelBytes (l : List Pixel) : pixelsOf (l.flatMap pixelBytes) = l := by
  induction l with
  | nil => rfl
  | cons p l ih =>
    have bound := p.isLt
    have codes : p.toNat / 16777216 % 256 * 16777216 + p.toNat / 65536 % 256 * 65536 + p.toNat / 256 % 256 * 256 +
        p.toNat % 256 = p.toNat := by omega
    simp [pixelBytes, pixelsOf, byteOf, ih, codes]

/-! ### The memory under a written burst (R154, R163) -/

section

variable {wi : Nat} {slot : SlotNo} {line column : Nat} {f : FrameStore}

/-- The sixteen pixels of a burst make 64 bytes (R150, R154). -/
theorem length_burstBytes (short : ((f.fifo.filter (inBurst slot line column)).map FifoPixel.pixel).length ≤ 16) :
    ((burstContents f slot line column).flatMap pixelBytes).length = 64 := by
  have whole : (burstContents f slot line column).length = 16 := by
    have sixteen : Config.burstPixels = 16 := rfl
    simp only [burstContents, List.length_append, List.length_replicate, sixteen]
    omega
  rw [length_flatMap_pixelBytes, whole]

/-- Every byte outside a written burst stays (R154, R163). -/
theorem writeBurstOf_outside (memory : f.memory.wf = true) (parity : f.parity.wf = true)
    (short : ((f.fifo.filter (inBurst slot line column)).map FifoPixel.pixel).length ≤ 16) {a : Nat}
    (outside : a < burstAddress wi slot line column ∨ burstAddress wi slot line column + 64 ≤ a) :
    (writeBurstOf wi slot line column f).memory.read a = f.memory.read a ∧
      (writeBurstOf wi slot line column f).parity.read a = f.parity.read a := by
  have length := length_burstBytes short
  exact ⟨Memory.read_writeBytes_outside memory (by omega),
    Memory.read_writeBytes_outside parity (by rw [List.length_map]; omega)⟩

/-- Every byte of a written burst reads back with its parity bit (R154, R163). -/
theorem writeBurstOf_inside (memory : f.memory.wf = true) (parity : f.parity.wf = true)
    (short : ((f.fifo.filter (inBurst slot line column)).map FifoPixel.pixel).length ≤ 16) {k : Nat} (inside : k < 64) :
    let bytes := (burstContents f slot line column).flatMap pixelBytes
    (writeBurstOf wi slot line column f).memory.read (burstAddress wi slot line column + k) = bytes.getD k 0 ∧
      (writeBurstOf wi slot line column f).parity.read (burstAddress wi slot line column + k) =
        parityBit (bytes.getD k 0) := by
  intro bytes
  have within : k < bytes.length := by rw [length_burstBytes short]; exact inside
  refine ⟨Memory.read_writeBytes_inside memory _ _ within,
    (Memory.read_writeBytes_inside parity _ _ (by rwa [List.length_map])).trans ?_⟩
  rw [List.getD_eq_getElem _ _ within, List.getD_eq_getElem _ _ (by rwa [List.length_map]), List.getElem_map]

end

/-! ### Grants from NONE (R162) -/

/-- With the owner NONE a request is granted, the reader's first (R162). -/
theorem arbitrate_of_none {s : State} (idle : s.fs.arb.owner = .none) :
    let next : Arbiter :=
      if readerRequests s = true then (beginBurst .reader 32 true s).fs.arb
      else if writerRequests s = true then (beginBurst .writer 16 true s).fs.arb
      else s.fs.arb
    arbitrate s = { s with fs := { s.fs with arb := next } } := by
  unfold arbitrate
  rw [idle]
  dsimp only
  split
  · rfl
  · split <;> rfl

/-- Settles O47: the grants from NONE (`arbitrate_of_none`), the bytes of the burst (`writeBurstOf_outside`,
`writeBurstOf_inside`), and who has the memory next (`endBurst_passedOn`). -/
theorem writeBurst : Obligations.WriteBurst := by
  unfold Obligations.WriteBurst
  refine ⟨fun s idle => arbitrate_of_none idle, ?_⟩
  intro dt slot line column kept s live owner burst free canonical held short base pixels bytes
  obtain ⟨memory, parity⟩ := canonical
  have due : (s.advance dt).writeDue = true := by simp [State.writeDue, owner, burst, free]
  have exec_eq : exec (.writeBurst dt) s = .next (takeWriteBurst (s.advance dt)) := eventWhen_due dt s _ _ live due
  cases kept with
  | true =>
    have taken : takeWriteBurst (s.advance dt) =
        endBurst ((s.advance dt).modFs (writeBurstOf s.profile.inWidth slot line column)) := by
      rw [takeWriteBurst, show (s.advance dt).fs.arb.burst = _ from burst]
      rfl
    obtain ⟨-, short⟩ := short rfl
    refine ⟨_, exec_eq.trans (congrArg _ taken), endBurst_passedOn rfl free, fun _ => ?_, nofun, endBurst_rest _⟩
    refine ⟨pixelsOf_flatMap_pixelBytes pixels, fun a outside => ?_, fun k inside => ?_, ?_⟩
    · rw [endBurst_fs_memory, endBurst_fs_parity]
      exact writeBurstOf_outside memory parity short outside
    · rw [endBurst_fs_memory, endBurst_fs_parity]
      exact writeBurstOf_inside memory parity short inside
    · rw [endBurst_fs_memory, endBurst_fs_parity]
      exact endBurst_storeIs _
  | false =>
    have taken : takeWriteBurst (s.advance dt) = endBurst (s.advance dt) := by
      simp [takeWriteBurst, burst]
    exact ⟨_, exec_eq.trans (congrArg _ taken), endBurst_passedOn rfl free, nofun, fun _ => endBurst_storeIs _,
      endBurst_rest _⟩

end Sys2Proof.Machine

/-! SUPPORT. The reader's burst (R160, R162, R163, R164): what the memory returns, and its parity check. -/

namespace Sys2Proof.Machine

/-! ### Upset bits (R163; assumption log, entry 25) -/

/-- A byte and its parity bit with nine bits turned over where `x` has them set. -/
def turnOver (x : BitVec 9) (c : Byte × Byte) : Byte × Byte :=
  (c.1 ^^^ x.truncate 8, c.2 ^^^ (x.extractLsb' 8 1).zeroExtend 8)

theorem turnOver_zero (c : Byte × Byte) : turnOver 0 c = c := by
  simp [turnOver]

theorem turnOver_turnOver (x y : BitVec 9) (c : Byte × Byte) : turnOver y (turnOver x c) = turnOver (x ^^^ y) c := by
  simp [turnOver, BitVec.xor_assoc, BitVec.extractLsb'_xor]

/-- The parity bit is turned over by the ninth bit. -/
theorem turnOver_eq (x : BitVec 9) (b p : Byte) :
    turnOver x (b, p) = (b ^^^ x.truncate 8, p ^^^ (if x.getLsbD 8 = true then 1 else 0)) := by
  have ninth : (x.extractLsb' 8 1).zeroExtend 8 = if x.getLsbD 8 = true then 1 else 0 := by
    ext i inside
    by_cases low : i = 0
    · subst low
      cases bit : x.getLsbD 8 <;> simp [← BitVec.getLsbD_eq_getElem, bit]
    · split <;> simp [low]
  rw [turnOver, ninth]

/-- The cells of a burst, byte by byte. -/
def burstCells (cell : Fin 64 → Byte × Byte) : List (Byte × Byte) := (List.finRange 64).map cell

theorem applyUpset_burstCells (cell : Fin 64 → Byte × Byte) (u : Upset) :
    applyUpset (burstCells cell) u =
      burstCells fun k => if u.offset = k then turnOver u.flips (cell k) else cell k := by
  have found : (burstCells cell).getD u.offset.val (0, 0) = cell u.offset := by
    simp [burstCells, List.getD_eq_getElem?_getD]
  unfold applyUpset
  rw [found]
  refine List.ext_getElem (by simp [burstCells]) fun k _ _ => ?_
  simp only [burstCells, List.getElem_set, List.getElem_map, List.getElem_finRange, Fin.ext_iff, Fin.val_cast]
  split
  · next here =>
    subst here
    rfl
  · rfl

/-- The bits of a byte that a burst's upsets turn over. -/
def turnedBits (upsets : List Upset) (k : Fin 64) : BitVec 9 :=
  ((upsets.filter fun u => u.offset == k).map Upset.flips).foldl (fun x y => x ^^^ y) 0

theorem foldl_applyUpset (upsets : List Upset) (cell : Fin 64 → Byte × Byte) (turned : Fin 64 → BitVec 9) :
    upsets.foldl applyUpset (burstCells fun k => turnOver (turned k) (cell k)) = burstCells fun k =>
      turnOver (((upsets.filter fun u => u.offset == k).map Upset.flips).foldl (fun x y => x ^^^ y) (turned k))
        (cell k) := by
  induction upsets generalizing turned with
  | nil => rfl
  | cons u rest ih =>
    rw [List.foldl_cons, applyUpset_burstCells]
    have cells : (fun k => if u.offset = k then turnOver u.flips (turnOver (turned k) (cell k))
        else turnOver (turned k) (cell k)) =
        fun k => turnOver (if u.offset = k then turned k ^^^ u.flips else turned k) (cell k) := by
      funext k
      rw [turnOver_turnOver, apply_ite (fun x => turnOver x (cell k))]
    rw [cells, ih]
    congr 1
    funext k
    by_cases here : u.offset = k <;> simp [here]

theorem zip_readBytes (m p : Memory) (a : Nat) :
    (m.readBytes a 64).zip (p.readBytes a 64) = burstCells fun k => (m.read (a + k.val), p.read (a + k.val)) := by
  have run (m : Memory) : m.readBytes a 64 = (List.finRange 64).map fun k => m.read (a + k.val) := by
    refine List.ext_getElem (by simp) fun k inside _ => ?_
    rw [← List.getD_eq_getElem _ 0, Memory.getD_readBytes m a (by simpa using inside)]
    simp
  rw [run, run, List.zip_map']
  rfl

/-- What the memory returns for a burst, byte by byte (R163). -/
theorem fetchBytes_eq (wi : Nat) (n : Need) (upsets : List Upset) (f : FrameStore) :
    fetchBytes wi n upsets f = burstCells fun k => turnOver (turnedBits upsets k)
      (f.memory.read (burstAddress wi n.slot n.line n.column + k.val),
        f.parity.read (burstAddress wi n.slot n.line n.column + k.val)) := by
  have turned := foldl_applyUpset upsets (fun k => (f.memory.read (burstAddress wi n.slot n.line n.column + k.val),
    f.parity.read (burstAddress wi n.slot n.line n.column + k.val))) fun _ => 0
  simp only [turnOver_zero, ← zip_readBytes] at turned
  exact turned

theorem parityFails_burstCells (cell : Fin 64 → Byte × Byte) :
    parityFails (burstCells cell) = true ↔ ∃ k, parityBit (cell k).1 ≠ (cell k).2 := by
  simp [parityFails, burstCells]

/-! ### The burst completed (R160, R164) -/

/-- A fetched burst after its parity check: a failed one noted, any other left as it is (R163, R164). -/
def State.checked (n : Need) (bytes : List (Byte × Byte)) (s : State) : State :=
  if parityFails bytes = true then noteFailedBurst n s else s

/-- The check changes the trap, the counters and the causes alone. -/
theorem checked_frame (n : Need) (bytes : List (Byte × Byte)) (s : State) :
    s.checked n bytes = { s with
      fs := { s.fs with trap := (s.checked n bytes).fs.trap }, counters := (s.checked n bytes).counters,
      svp := (s.checked n bytes).svp } := by
  unfold State.checked
  split
  · rw [noteFailedBurst_frame]
  · rfl

theorem noteFailedBurst_counters (n : Need) (s : State) :
    (noteFailedBurst n s).counters = { s.counters with parity := min 65535 (s.counters.parity + 1) } := by
  rw [noteFailedBurst_frame]
  rfl

/-- The first failed burst fills the trap and raises FAULT (R164). -/
theorem noteFailedBurst_of_empty (n : Need) {s : State} (empty : s.fs.trap = none) :
    (noteFailedBurst n s).fs.trap = some { slot := n.slot, line := n.line, column := n.column, more := false } ∧
      (noteFailedBurst n s).svp = { s.svp with causes := { s.svp.causes with fault := true } } := by
  unfold noteFailedBurst
  dsimp only
  rw [show (countParity s).fs.trap = none from empty]
  exact ⟨rfl, rfl⟩

/-- A further one sets MORE (R164). -/
theorem noteFailedBurst_of_full (n : Need) {s : State} {u : Trap} (full : s.fs.trap = some u) :
    (noteFailedBurst n s).fs.trap = some { u with more := true } ∧ (noteFailedBurst n s).svp = s.svp := by
  unfold noteFailedBurst
  dsimp only
  rw [show (countParity s).fs.trap = some u from full]
  exact ⟨rfl, rfl⟩

/-- A burst whose fetch stands is put in the prefetch and checked (R160, R163). -/
theorem takeReadBurst_kept {n : Need} {s : State} (upsets : List Upset) (burst : s.fs.arb.burst = some (.read n true)) :
    let bytes := fetchBytes s.profile.inWidth n upsets s.fs
    takeReadBurst upsets s = endBurst ((s.modFs (fetchBurst n bytes)).checked n bytes) := by
  rw [takeReadBurst, burst]
  rfl

/-- Settles O48: the bytes as the memory returns them (`fetchBytes_eq`), the check (`parityFails_burstCells`), the trap
(`noteFailedBurst_frame`), and who has the memory next (`endBurst_passedOn`). -/
theorem readBurst : Obligations.ReadBurst := by
  unfold Obligations.ReadBurst
  intro dt upsets n rest kept s live owner burst free next base turned byte parity
  have due : (s.advance dt).readDue = true := by simp [State.readDue, owner, burst, free]
  have exec_eq : exec (.readBurst dt upsets) s = .next (takeReadBurst upsets (s.advance dt)) :=
    eventWhen_due dt s _ _ live due
  cases kept with
  | false =>
    have taken : takeReadBurst upsets (s.advance dt) = endBurst (s.advance dt) := by
      rw [takeReadBurst, show (s.advance dt).fs.arb.burst = _ from burst]
      rfl
    refine ⟨_, exec_eq.trans (congrArg _ taken), endBurst_passedOn rfl free, nofun, fun _ => ?_, ?_, ?_⟩
    · exact ⟨endBurst_fs_prefetch _, endBurst_sequence (s := s.advance dt), endBurst_counters _, endBurst_fs_trap _,
        endBurst_svp _⟩
    · rw [endBurst_fs_prefetch, endBurst_fs_trap]
      exact endBurst_storeIs _
    · rw [endBurst_counters, endBurst_svp]
      exact endBurst_rest _
  | true =>
    obtain ⟨bytes, returned⟩ : ∃ l, l = fetchBytes s.profile.inWidth n upsets s.fs := ⟨_, rfl⟩
    have cells : bytes = burstCells fun k => (byte k, parity k) := by
      simp only [returned, fetchBytes_eq, turnOver_eq]
      rfl
    have fails : parityFails bytes = true ↔ ∃ k : Fin 64, parityBit (byte k) ≠ parity k := by
      rw [cells, parityFails_burstCells]
    have colours : bytes.map Prod.fst = (List.finRange 64).map byte := by
      rw [cells, burstCells, List.map_map]
      rfl
    obtain ⟨u, fetched⟩ : ∃ u, u = (s.advance dt).modFs (fetchBurst n bytes) := ⟨_, rfl⟩
    have taken : takeReadBurst upsets (s.advance dt) = endBurst (u.checked n bytes) := by
      rw [fetched, returned]
      exact takeReadBurst_kept upsets burst
    have frame := checked_frame n bytes u
    have entries : u.fs.sequence = rest := by
      rw [fetched]
      exact congrArg List.tail (next rfl)
    let q : Fetched := { need := n, failed := parityFails bytes, pixels := pixelsOf (bytes.map Prod.fst) }
    have prefetch : u.fs.prefetch = s.fs.prefetch ++ [q] := by
      rw [fetched]
      rfl
    refine ⟨_, exec_eq.trans (congrArg _ taken), endBurst_passedOn ?_ ?_,
      fun _ => ⟨q, rfl, congrArg pixelsOf colours, fails, ?_, fun more => ?_, fun sound => ?_, fun failed => ?_⟩, nofun,
      ?_, ?_⟩
    · rw [frame, fetched]
      rfl
    · rw [frame, fetched]
      exact free
    · rw [endBurst_fs_prefetch, frame]
      exact prefetch
    · have kept : (u.checked n bytes).fs.sequence = rest := by rw [frame, ← entries]
      rw [endBurst_sequence (by rwa [kept]), kept]
    · have unnoted : u.checked n bytes = u := if_neg (by rw [show parityFails bytes = false from sound]; nofun)
      rw [endBurst_counters, endBurst_fs_trap, endBurst_svp, unnoted, fetched]
      exact ⟨rfl, rfl, rfl⟩
    · have noted : u.checked n bytes = noteFailedBurst n u := if_pos failed
      rw [endBurst_counters, endBurst_fs_trap, endBurst_svp, noted, noteFailedBurst_counters]
      refine ⟨by rw [fetched]; rfl, fun empty => ?_, fun w full => ?_⟩
      · obtain ⟨trap, svp⟩ := noteFailedBurst_of_empty n (s := u) (by rw [fetched]; exact empty)
        rw [trap, svp, fetched]
        exact ⟨rfl, rfl⟩
      · obtain ⟨trap, svp⟩ := noteFailedBurst_of_full n (s := u) (u := w) (by rw [fetched]; exact full)
        rw [trap, svp, fetched]
        exact ⟨rfl, rfl⟩
    · have store := endBurst_storeIs (u.checked n bytes)
      rw [endBurst_fs_prefetch, endBurst_fs_trap]
      rw [frame] at store ⊢
      rw [fetched] at store ⊢
      exact store
    · rw [endBurst_counters, endBurst_svp]
      have changed := endBurst_rest (u.checked n bytes)
      rw [frame] at changed ⊢
      rw [fetched] at changed ⊢
      exact changed

end Sys2Proof.Machine

/-! SUPPORT. Input frames that end short, and the slot an input frame takes (R152, R153, R157, R158). -/

namespace Sys2Proof.Machine

/-! ### A frame that ends short (R157, R158) -/

/-- A slot once the frame in progress has ended short. -/
def Slot.ended : Slot → Slot
  | .filling => .free
  | x => x

/-- From `s` to `e` the frame in progress, where there is one, has ended short: its slot is FREE, its pending pixels are
discarded, and SHORT is counted, or OVERRUN where it is damaged. -/
structure EndedShort (s e : State) : Prop where
  slots : ∀ j, ∃ q, slotAt e.fs.slots j = (slotAt s.fs.slots j).ended.withRank q
  fifo : e.fs.fifo = s.fs.fifo.filter fun p => slotAt s.fs.slots p.slot != .filling
  counters : e.counters = { s.counters with
    short := if (∃ j, slotAt s.fs.slots j = .filling) ∧ s.fs.damaged = false then min 65535 (s.counters.short + 1)
      else s.counters.short,
    overrun := if (∃ j, slotAt s.fs.slots j = .filling) ∧ s.fs.damaged = true then min 65535 (s.counters.overrun + 1)
      else s.counters.overrun }
  rest : e = { s with
    fs := { s.fs with slots := e.fs.slots, fifo := e.fs.fifo, arb := e.fs.arb }, counters := e.counters }
  idle : (∀ j, slotAt s.fs.slots j ≠ .filling) → e = s

theorem withRank_self (x : Slot) : ∃ q, x = x.withRank q := by
  cases x with
  | ready f r c => exact ⟨r, rfl⟩
  | _ => exact ⟨0, rfl⟩

theorem ended_of_ne_filling {x : Slot} (h : x ≠ .filling) : x.ended = x := by
  cases x with
  | filling => exact absurd rfl h
  | _ => rfl

theorem EndedShort.of_idle {s : State} (idle : ∀ j, slotAt s.fs.slots j ≠ .filling) : EndedShort s s where
  slots j := by
    rw [ended_of_ne_filling (idle j)]
    exact withRank_self _
  fifo := (List.filter_eq_self.mpr fun p _ => by simpa using idle p.slot).symm
  counters := by simp [idle]
  rest := rfl
  idle _ := rfl

/-- The slot of the frame in progress is freed (R157). -/
theorem EndedShort.of_filling {s : State} {i : SlotNo} (filling : slotAt s.fs.slots i = .filling)
    (single : ∀ j, slotAt s.fs.slots j = .filling → j = i) (found : fillingSlot s.fs.slots = some i) :
    EndedShort s (endFrameShort s) := by
  have freed : (endFrameShort s).fs = freeSlot i s.fs := by
    unfold endFrameShort
    rw [found]
    dsimp only
    split <;> rfl
  have some_filling : ∃ j, slotAt s.fs.slots j = .filling := ⟨i, filling⟩
  refine ⟨fun j => ?_, ?_, ?_, ?_, fun idle => absurd filling (idle i)⟩
  · rw [freed]
    by_cases here : j = i
    · rw [here, filling, slotAt_freeSlot_same]
      exact ⟨0, rfl⟩
    · rw [ended_of_ne_filling fun h => here (single j h)]
      exact slotAt_freeSlot_ne here s.fs
  · rw [freed]
    refine List.filter_congr fun p _ => ?_
    by_cases here : p.slot = i
    · simp [here, filling]
    · have other : slotAt s.fs.slots p.slot ≠ .filling := fun h => here (single _ h)
      show (!(p.slot == i)) = _
      rw [show (p.slot == i) = false from beq_eq_false_iff_ne.mpr here,
        show (slotAt s.fs.slots p.slot != .filling) = true from bne_iff_ne.mpr other]
      rfl
  · unfold endFrameShort
    rw [found]
    dsimp only
    cases damaged : s.fs.damaged
    · simp only [some_filling, true_and, reduceIte, Bool.false_eq_true]
      rfl
    · simp only [some_filling, true_and, reduceIte, Bool.true_eq_false]
      rfl
  · rw [freed]
    unfold endFrameShort
    rw [found]
    dsimp only
    split <;> rfl

/-- An input frame start and the loss of input end a frame in progress short (R152, R157, R158). -/
theorem endFrameInProgress_endedShort {s : State} (h : StoreSound s) :
    EndedShort s (if s.fs.frameInProgress = true then endFrameShort s else s) := by
  cases found : fillingSlot s.fs.slots with
  | none =>
    have same : (if s.fs.frameInProgress = true then endFrameShort s else s) = s := by
      simp [endFrameShort, found]
    rw [same]
    exact .of_idle (fillingSlot_eq_none found)
  | some i =>
    have filling := fillingSlot_eq_some found
    rw [if_pos (h.filling i filling)]
    exact .of_filling filling (fun j hj => h.held.apart.filling j i hj filling) found

/-- Settles O46: while the lost flag is set nothing is due; else what the end of the frame leaves
(`endFrameInProgress_endedShort`) with INPUT raised and the port WAITING. -/
theorem inputLost : Obligations.InputLost := by
  unfold Obligations.InputLost
  refine ⟨fun dt s lost => eventWhen_not_due dt s _ _ (by simp [State.lossDue, lost]), ?_⟩
  intro dt start s live running clear begun now order
  have due : (s.advance dt).lossDue = true := by
    have running : (s.advance dt).running = true := running
    have reached : s.now + dt = toNs (start + 2 * s.profile.period) := now
    simp [State.lossDue, running, clear, begun, reached, State.profile]
  have sound : StoreSound (s.advance dt) :=
    (KeepsStore.of_blocks (s := s) (t := s.advance dt) rfl rfl rfl rfl).sound ((storeInOrder_iff s).mp order)
  obtain ⟨slots, fifo, counters, rest, -⟩ := endFrameInProgress_endedShort sound
  obtain ⟨e, he⟩ : ∃ e, e = if (s.advance dt).fs.frameInProgress = true then endFrameShort (s.advance dt)
    else s.advance dt := ⟨_, rfl⟩
  obtain ⟨u, hu⟩ : ∃ u, u = raiseInput (e.modFs fun f => { f with lost := true, port := .waiting }) := ⟨_, rfl⟩
  have taken : takeInputLoss (s.advance dt) = settleStore u := by rw [hu, he]; rfl
  rw [← he] at slots fifo counters rest
  have store : u.fs = { s.fs with
      slots := e.fs.slots, fifo := e.fs.fifo, arb := e.fs.arb, lost := true, port := .waiting } := by
    rw [hu]
    exact congrArg (fun e : State => { e.fs with lost := true, port := .waiting }) rest
  refine ⟨_, (eventWhen_due dt s _ _ live due).trans (congrArg _ taken), fun j => ?_, ?_, ?_, ?_, ?_, ?_⟩
  · obtain ⟨q, slot⟩ : ∃ q, slotAt e.fs.slots j = (slotAt s.fs.slots j).ended.withRank q := slots j
    rw [settleStore_fs_slots, store]
    dsimp only
    rw [slot]
    cases slotAt s.fs.slots j with
    | ready f r c => exact ⟨q, rfl⟩
    | _ => rfl
  · rw [settleStore_fs_fifo, store]
    exact fifo
  · rw [settleStore_counters, hu]
    exact counters
  · have settled := settleStore_storeIs u
    rw [settleStore_fs_slots, settleStore_fs_fifo]
    rw [State.storeIs, store] at settled
    rw [store]
    exact settled
  · rw [settleStore_svp, hu, rest]
    rfl
  · rw [settleStore_counters, settleStore_svp]
    have changed := settleStore_rest u
    rw [hu, rest] at changed ⊢
    exact changed

end Sys2Proof.Machine

/-! SUPPORT. The slot an input frame takes (R153). -/

namespace Sys2Proof.Machine

/-! ### The FREE slot of lowest index, and the unchosen READY slot of lowest rank -/

theorem lowestFree_least {l : List Slot} {i : SlotNo} (h : lowestFree l = some i) {j : SlotNo} (below : j < i) :
    slotAt l j ≠ .free := by
  obtain ⟨-, k, inside, here, before⟩ := List.find?_eq_some_iff_getElem.mp h
  have place : k = i.val := by simpa using congrArg Fin.val here
  have earlier := before j.val (place ▸ below)
  simpa using earlier

theorem lowestFree_eq_none {l : List Slot} (h : lowestFree l = none) (j : SlotNo) : slotAt l j ≠ .free := by
  simpa using List.find?_eq_none.mp h j (List.mem_finRange j)

/-- One slot of the search for the oldest unchosen READY slot. -/
def oldestOf (l : List Slot) (found : Option (Nat × SlotNo)) (i : SlotNo) : Option (Nat × SlotNo) :=
  match slotAt l i, found with
  | .ready _ r false, some (q, j) => if r < q then some (r, i) else some (q, j)
  | .ready _ r false, none => some (r, i)
  | _, a => a

theorem oldestUnchosen_eq (l : List Slot) :
    oldestUnchosen l = ((List.finRange 4).foldl (oldestOf l) none).map Prod.snd := rfl

/-- What the search has found among the slots `seen`: one of the unchosen READY ones, of a rank no higher than the
others', and nothing only where there is none. -/
structure OldestAmong (l : List Slot) (seen : List SlotNo) (found : Option (Nat × SlotNo)) : Prop where
  one : ∀ r i, found = some (r, i) → ∃ f, slotAt l i = .ready f r false
  least : ∀ r i, found = some (r, i) → ∀ j ∈ seen, ∀ g q, slotAt l j = .ready g q false → r ≤ q
  nothing : found = none → ∀ j ∈ seen, ∀ g q, slotAt l j ≠ .ready g q false

section

variable {l : List Slot} {seen : List SlotNo} {found : Option (Nat × SlotNo)} {i : SlotNo}
  (h : OldestAmong l seen found)

include h

/-- What has been found stands over a slot that is not unchosen and READY, or of no lower rank. -/
theorem OldestAmong.stands (low : ∀ g q, slotAt l i = .ready g q false → ∃ r j, found = some (r, j) ∧ r ≤ q) :
    OldestAmong l (seen ++ [i]) found where
  one := h.one
  least r k here j hj g q ready := by
    obtain hj | hj := List.mem_append.mp hj
    · exact h.least r k here j hj g q ready
    · obtain ⟨r', k', here', below⟩ := low g q (List.mem_singleton.mp hj ▸ ready)
      cases here.symm.trans here'
      exact below
  nothing here j hj g q ready := by
    obtain hj | hj := List.mem_append.mp hj
    · exact h.nothing here j hj g q ready
    · obtain ⟨r', k', here', -⟩ := low g q (List.mem_singleton.mp hj ▸ ready)
      cases here.symm.trans here'

/-- An unchosen READY slot of lower rank than what has been found takes its place. -/
theorem OldestAmong.replaced {f : FrameNo} {r : Nat} (ready : slotAt l i = .ready f r false)
    (low : ∀ q j, found = some (q, j) → r < q) : OldestAmong l (seen ++ [i]) (some (r, i)) where
  one r' k here := by
    cases here
    exact ⟨f, ready⟩
  least r' k here j hj g q other := by
    cases here
    obtain hj | hj := List.mem_append.mp hj
    · cases before : found with
      | none => exact absurd other (h.nothing before j hj g q)
      | some c => exact (low c.1 c.2 before).le.trans (h.least c.1 c.2 before j hj g q other)
    · rw [List.mem_singleton.mp hj, ready] at other
      cases other
      exact le_rfl
  nothing := nofun

theorem OldestAmong.next (i : SlotNo) : OldestAmong l (seen ++ [i]) (oldestOf l found i) := by
  cases slot : slotAt l i with
  | ready f r c =>
    cases c with
    | true =>
      have same : oldestOf l found i = found := by simp [oldestOf, slot]
      rw [same]
      exact h.stands fun g q ready => by cases slot.symm.trans ready
    | false =>
      cases found with
      | none =>
        have taken : oldestOf l none i = some (r, i) := by simp [oldestOf, slot]
        rw [taken]
        exact h.replaced slot nofun
      | some c =>
        obtain ⟨q, j⟩ := c
        have taken : oldestOf l (some (q, j)) i = if r < q then some (r, i) else some (q, j) := by
          simp [oldestOf, slot]
        rw [taken]
        split
        · next below => exact h.replaced slot fun q' j' same => by cases same; exact below
        · next above =>
          refine h.stands fun g q' ready => ⟨q, j, rfl, ?_⟩
          cases slot.symm.trans ready
          exact Nat.not_lt.mp above
  | _ =>
    have same : oldestOf l found i = found := by simp [oldestOf, slot]
    rw [same]
    exact h.stands fun g q ready => by cases slot.symm.trans ready

end

theorem oldestAmong_finRange (l : List Slot) :
    OldestAmong l (List.finRange 4) ((List.finRange 4).foldl (oldestOf l) none) := by
  have among (seen rest : List SlotNo) (found : Option (Nat × SlotNo)) (h : OldestAmong l seen found) :
      OldestAmong l (seen ++ rest) (rest.foldl (oldestOf l) found) := by
    induction rest generalizing seen found with
    | nil => simpa using h
    | cons i rest ih => simpa using ih (seen ++ [i]) _ (h.next i)
  exact among [] _ none ⟨nofun, nofun, fun _ _ => nofun⟩

/-- No unchosen READY slot has a lower rank than the oldest (R153). -/
theorem oldestUnchosen_least {l : List Slot} {i : SlotNo} (h : oldestUnchosen l = some i) :
    ∃ f r, slotAt l i = .ready f r false ∧ ∀ j g q, slotAt l j = .ready g q false → r ≤ q := by
  rw [oldestUnchosen_eq] at h
  obtain ⟨⟨r, j⟩, found, rfl⟩ := Option.map_eq_some_iff.mp h
  obtain ⟨f, ready⟩ := (oldestAmong_finRange l).one r j found
  exact ⟨f, r, ready, fun k g q => (oldestAmong_finRange l).least r j found k (List.mem_finRange k) g q⟩

theorem oldestUnchosen_eq_none {l : List Slot} (h : oldestUnchosen l = none) (j : SlotNo) (g : FrameNo) (q : Nat) :
    slotAt l j ≠ .ready g q false :=
  (oldestAmong_finRange l).nothing (Option.map_eq_none_iff.mp (oldestUnchosen_eq l ▸ h)) j (List.mem_finRange j) g q

/-- Of four slots none FREE and none FILLING one is READY and not chosen: at most one is SHOWN and at most one chosen
(R86, R151). -/
theorem SlotsHeld.exists_unchosen {d : Decision} {l : List Slot} (h : SlotsHeld d l) (no_free : ∀ j, slotAt l j ≠ .free)
    (no_filling : ∀ j, slotAt l j ≠ .filling) : ∃ j f r, slotAt l j = .ready f r false := by
  by_contra none_ready
  have taken (j : SlotNo) : (∃ f, slotAt l j = .shown f) ∨ d.slot? = some j := by
    cases slot : slotAt l j with
    | free => exact absurd slot (no_free j)
    | filling => exact absurd slot (no_filling j)
    | shown f => exact .inl ⟨f, rfl⟩
    | ready f r c =>
      cases c with
      | false => exact absurd ⟨j, f, r, slot⟩ none_ready
      | true => exact .inr (h.chosen j (by rw [slot]; rfl))
  have shown {i j : SlotNo} (hi : ∃ f, slotAt l i = .shown f) (hj : ∃ f, slotAt l j = .shown f) : i = j := by
    obtain ⟨f, hi⟩ := hi
    obtain ⟨g, hj⟩ := hj
    exact h.apart.shown i j f g hi hj
  have chosen {i j : SlotNo} (hi : d.slot? = some i) (hj : d.slot? = some j) : i = j :=
    Option.some.inj (hi.symm.trans hj)
  obtain h0 | h0 := taken 0 <;> obtain h1 | h1 := taken 1
  · exact absurd (shown h0 h1) (by decide)
  · obtain h2 | h2 := taken 2
    · exact absurd (shown h0 h2) (by decide)
    · exact absurd (chosen h1 h2) (by decide)
  · obtain h2 | h2 := taken 2
    · exact absurd (shown h1 h2) (by decide)
    · exact absurd (chosen h0 h2) (by decide)
  · exact absurd (chosen h0 h1) (by decide)

end Sys2Proof.Machine

/-! SUPPORT. An input frame start (R152, R153, R157). -/

namespace Sys2Proof.Machine

/-! ### The slot taken (R153) -/

theorem takeSlot_frame (s : State) :
    takeSlot s = { s with
      fs := { s.fs with slots := (takeSlot s).fs.slots, fifo := (takeSlot s).fs.fifo, arb := (takeSlot s).fs.arb },
      counters := { s.counters with dropped := (takeSlot s).counters.dropped } } := by
  unfold takeSlot
  (repeat' split) <;> rfl

theorem takeSlot_of_free {s : State} {i : SlotNo} (found : lowestFree s.fs.slots = some i) :
    takeSlot s = s.modFs fun f => { f with slots := setSlot i .filling f.slots } := by
  rw [takeSlot, found]

theorem takeSlot_of_oldest {s : State} {i : SlotNo} (no_free : lowestFree s.fs.slots = none)
    (found : oldestUnchosen s.fs.slots = some i) :
    takeSlot s =
      countDropped (s.modFs fun f => discardSlot i { f with slots := renumber (setSlot i .filling f.slots) }) := by
  rw [takeSlot, no_free]
  dsimp only
  rw [found]

theorem withRank_eq_free_iff (x : Slot) (q : Nat) : x.withRank q = .free ↔ x = .free := by
  cases x <;> simp [Slot.withRank]

/-- What an input frame start makes of the slots, the FIFO and DROPPED, from `s` to `w`: a FREE slot of lowest index is
taken, or the unchosen READY slot of lowest rank with its pixels dropped. -/
structure SlotTaken (s w : State) (i : SlotNo) : Prop where
  taken : slotAt w.fs.slots i = .filling
  others : ∀ j, j ≠ i → ∃ q, slotAt w.fs.slots j = (slotAt s.fs.slots j).ended.withRank q
  free : (∃ j, (slotAt s.fs.slots j).ended = .free) →
    (slotAt s.fs.slots i).ended = .free ∧ (∀ j, j < i → (slotAt s.fs.slots j).ended ≠ .free) ∧
    w.counters.dropped = s.counters.dropped ∧
    w.fs.fifo = s.fs.fifo.filter fun p => slotAt s.fs.slots p.slot != .filling
  dropped : (∀ j, (slotAt s.fs.slots j).ended ≠ .free) →
    (∃ f r, (slotAt s.fs.slots i).ended = .ready f r false ∧
      ∀ j g q, (slotAt s.fs.slots j).ended = .ready g q false → r ≤ q) ∧
    w.counters.dropped = min 65535 (s.counters.dropped + 1) ∧ w.fs.fifo = s.fs.fifo.filter fun p => p.slot != i

/-- A FREE slot is left or has been freed (R153). -/
theorem SlotTaken.of_free {s e : State} {i : SlotNo} (h : EndedShort s e) (found : lowestFree e.fs.slots = some i) :
    SlotTaken s (takeSlot e) i := by
  rw [takeSlot_of_free found]
  have free_iff (j : SlotNo) : slotAt e.fs.slots j = .free ↔ (slotAt s.fs.slots j).ended = .free := by
    obtain ⟨q, slot⟩ := h.slots j
    rw [slot, withRank_eq_free_iff]
  have free := (free_iff i).mp (lowestFree_eq_some found)
  refine ⟨slotAt_setSlot_same .., fun j hj => ?_, fun _ => ⟨free, fun j below => ?_, ?_, h.fifo⟩,
    fun no_free => absurd free (no_free i)⟩
  · obtain ⟨q, slot⟩ := h.slots j
    exact ⟨q, (slotAt_setSlot_ne hj ..).trans slot⟩
  · exact fun hj => lowestFree_least found below ((free_iff j).mpr hj)
  · rw [State.modFs_counters, h.counters]

/-- Every slot is taken, and the oldest unchosen READY frame is dropped: no frame has then ended short, which would have
freed its slot (R153). -/
theorem SlotTaken.of_oldest {s e : State} (h : EndedShort s e) (sound : StoreSound s)
    (no_free : lowestFree e.fs.slots = none) : ∃ i, SlotTaken s (takeSlot e) i := by
  have idle (j : SlotNo) : slotAt s.fs.slots j ≠ .filling := fun filling => by
    obtain ⟨q, slot⟩ := h.slots j
    rw [filling] at slot
    exact lowestFree_eq_none no_free j slot
  obtain same_part : e = s := h.idle idle
  rw [same_part] at no_free ⊢
  have same (j : SlotNo) : (slotAt s.fs.slots j).ended = slotAt s.fs.slots j := ended_of_ne_filling (idle j)
  cases found : oldestUnchosen s.fs.slots with
  | none =>
    obtain ⟨j, f, r, ready⟩ := sound.held.exists_unchosen (lowestFree_eq_none no_free) idle
    exact absurd ready (oldestUnchosen_eq_none found j f r)
  | some i =>
    refine ⟨i, ?_⟩
    rw [takeSlot_of_oldest no_free found]
    have slot (j : SlotNo) := slotAt_renumber (setSlot i .filling s.fs.slots) j
    refine ⟨?_, fun j hj => ?_, fun ⟨j, free⟩ => ?_, fun _ => ⟨?_, rfl, rfl⟩⟩
    · obtain ⟨q, slot⟩ := slot i
      rw [slotAt_setSlot_same] at slot
      exact slot
    · obtain ⟨q, slot⟩ := slot j
      rw [slotAt_setSlot_ne hj] at slot
      rw [same]
      exact ⟨q, slot⟩
    · rw [same] at free
      exact absurd free (lowestFree_eq_none no_free j)
    · simp only [same]
      exact oldestUnchosen_least found

/-- An input frame start takes a slot (R153). -/
theorem exists_slotTaken {s e : State} (h : EndedShort s e) (sound : StoreSound s) :
    ∃ i, SlotTaken s (takeSlot e) i := by
  cases found : lowestFree e.fs.slots with
  | none => exact SlotTaken.of_oldest h sound found
  | some i => exact ⟨i, .of_free h found⟩

/-- Settles O42: the end of a frame in progress (`endFrameInProgress_endedShort`), the slot taken (`exists_slotTaken`),
and the port in PICTURE. -/
theorem inputFrameStart : Obligations.InputFrameStart := by
  unfold Obligations.InputFrameStart
  intro dt s live running port order after ended
  have sound : StoreSound (s.advance dt) :=
    (KeepsStore.of_blocks (s := s) (t := s.advance dt) rfl rfl rfl rfl).sound ((storeInOrder_iff s).mp order)
  obtain ⟨e, he⟩ : ∃ e, e = if (s.advance dt).fs.frameInProgress = true then endFrameShort (s.advance dt)
    else s.advance dt := ⟨_, rfl⟩
  have short : EndedShort (s.advance dt) e := he ▸ endFrameInProgress_endedShort sound
  obtain ⟨i, slot⟩ := exists_slotTaken short sound
  obtain ⟨w, hw⟩ : ∃ w, w = takeSlot e := ⟨_, rfl⟩
  obtain ⟨u, hu⟩ : ∃ u, u = w.modFs (beginInput (s.now + dt)) := ⟨_, rfl⟩
  have taken : takeInputFrameStart (s.advance dt) = settleStore u := by rw [hu, hw, he]; rfl
  have exec_eq := eventWhen_due dt s _ takeInputFrameStart live (portOpen_advance running port)
  rw [← hw] at slot
  have frame : w = { e with
      fs := { e.fs with slots := w.fs.slots, fifo := w.fs.fifo, arb := w.fs.arb },
      counters := { e.counters with dropped := w.counters.dropped } } := by
    rw [hw]
    exact takeSlot_frame e
  have counters : w.counters = { s.counters with
      dropped := w.counters.dropped,
      short := if ended ∧ s.fs.damaged = false then min 65535 (s.counters.short + 1) else s.counters.short,
      overrun := if ended ∧ s.fs.damaged = true then min 65535 (s.counters.overrun + 1) else s.counters.overrun } := by
    have dropped := congrArg State.counters frame
    rw [short.counters] at dropped
    exact dropped
  have store : u.fs = { s.fs with
      slots := w.fs.slots, fifo := w.fs.fifo, arb := w.fs.arb, port := .picture, lineCount := 0, linePixels := 0,
      damaged := false, trailer := [], lossStart := some ((s.now + dt) / 1000), lost := false } := by
    have moved := congrArg State.fs frame
    rw [short.rest] at moved
    rw [hu]
    exact congrArg (beginInput (s.now + dt)) moved
  have after_eq (j : SlotNo) : after j = (slotAt s.fs.slots j).ended := by
    show (if slotAt s.fs.slots j = .filling then .free else slotAt s.fs.slots j) = _
    split
    · next filling => rw [filling]; rfl
    · next other => rw [ended_of_ne_filling other]
  simp only [after_eq]
  refine ⟨_, i, exec_eq.trans (congrArg _ taken), ?_, fun j hj => ?_, fun free => ?_, fun full => ?_,
    fun some_ended whole => ?_, fun some_ended damaged => ?_, fun none_ended => ?_, ?_, ?_⟩
  · rw [settleStore_fs_slots, store]
    exact slot.taken
  · obtain ⟨q, here⟩ : ∃ q, slotAt w.fs.slots j = (slotAt s.fs.slots j).ended.withRank q := slot.others j hj
    rw [settleStore_fs_slots, store]
    dsimp only
    rw [here]
    cases (slotAt s.fs.slots j).ended with
    | ready f r c => exact ⟨q, rfl⟩
    | _ => rfl
  · rw [settleStore_counters, settleStore_fs_fifo, store, hu]
    exact slot.free free
  · rw [settleStore_counters, settleStore_fs_fifo, store, hu]
    exact slot.dropped full
  · rw [settleStore_counters, hu]
    exact counters.trans (by simp [some_ended, whole])
  · rw [settleStore_counters, hu]
    exact counters.trans (by simp [some_ended, damaged])
  · rw [settleStore_counters, hu]
    exact counters.trans (by simp [none_ended])
  · have settled := settleStore_storeIs u
    rw [settleStore_fs_slots, settleStore_fs_fifo]
    rw [State.storeIs, store] at settled
    rw [store]
    exact settled
  · rw [settleStore_counters]
    have changed := settleStore_rest u
    rw [hu, frame, short.rest] at changed ⊢
    exact changed

end Sys2Proof.Machine

/-! SUPPORT. The service port (R169 to R173, R179, R185): the bytes that the bits of SVC_SDI form, the row they name,
where a command of the port is taken, and an action that only writes its result. -/

namespace Sys2Proof.Machine

/-! ### The bytes of a transaction (R169, R180) -/

theorem numberOf_append_bit (bits : List Bool) (b : Bool) : numberOf (bits ++ [b]) = 2 * numberOf bits + b.toNat := by
  simp [numberOf]

/-- The first `k` bits of a field, most significant first, spell the field without the bits that follow them. -/
theorem numberOf_leading_bits {n : Nat} (v : BitVec n) (k : Nat) (within : k ≤ n) :
    numberOf ((List.range k).map fun i => v.getMsbD i) = v.toNat / 2 ^ (n - k) := by
  induction k with
  | zero => simp [numberOf, Nat.div_eq_of_lt v.isLt]
  | succ k ih =>
    have bit : (v.getMsbD k).toNat = v.toNat / 2 ^ (n - (k + 1)) % 2 := by
      have place : n - 1 - k = n - (k + 1) := by omega
      simp [BitVec.getMsbD, BitVec.getLsbD, Nat.lt_of_succ_le within, place, Nat.toNat_testBit]
    have halved : v.toNat / 2 ^ (n - k) = v.toNat / 2 ^ (n - (k + 1)) / 2 := by
      have next : n - k = n - (k + 1) + 1 := by omega
      rw [next, Nat.pow_succ, Nat.div_div_eq_div_mul]
    rw [List.range_succ, List.map_append, List.map_singleton, numberOf_append_bit, ih (by omega), bit, halved]
    omega

theorem numberOf_bitsOf {n : Nat} (v : BitVec n) : numberOf (bitsOf v) = v.toNat := by
  simpa [bitsOf] using numberOf_leading_bits v n le_rfl

theorem bytesOfBits_of_length_lt {bits : List Bool} (short : bits.length < 8) : bytesOfBits bits = [] := by
  unfold bytesOfBits
  split
  · simp at short
    omega
  · rfl

theorem bytesOfBits_bitsOf_append (b : Byte) (rest : List Bool) :
    bytesOfBits (bitsOf b ++ rest) = b :: bytesOfBits rest := by
  have formed : bytesOfBits (bitsOf b ++ rest) = BitVec.ofNat 8 (numberOf (bitsOf b)) :: bytesOfBits rest := rfl
  rw [formed, numberOf_bitsOf, BitVec.ofNat_toNat, BitVec.setWidth_eq]

/-- The bits of whole bytes spell those bytes, and a final partial byte is discarded (R169). -/
theorem bytesOfBits_flatMap_append (bytes : List Byte) {partialByte : List Bool} (short : partialByte.length < 8) :
    bytesOfBits (bytes.flatMap bitsOf ++ partialByte) = bytes := by
  induction bytes with
  | nil => exact bytesOfBits_of_length_lt short
  | cons b bytes ih => rw [List.flatMap_cons, List.append_assoc, bytesOfBits_bitsOf_append, ih]

theorem withReceived_of_incomplete {s : State} (dt : Nat) (line : LineLevel) (short : s.svp.received.length < 8) :
    s.withReceived dt line = s := by
  simp [State.withReceived, bitsInstr, bytesOfBits_of_length_lt short]

theorem withReceived_of_bytes {s : State} (dt : Nat) (line : LineLevel) {code : Byte} {payload : List Byte}
    (bytes : bytesOfBits s.svp.received = code :: payload) :
    s.withReceived dt line = s.withTransaction dt line code payload := by
  simp [State.withReceived, State.withTransaction, bitsInstr, bytes]

/-! ### The row that bytes name (R144, R170, R171, R185) -/

/-- A command byte outside R185's table names no command. -/
theorem decodeCommand_eq_none {code : Byte}
    (other : code ∉ ([0x10, 0x11, 0x20, 0x21, 0x2F, 0x30, 0x80, 0x81, 0x82, 0x83, 0x84] : List Byte)) :
    decodeCommand code = none := by
  unfold decodeCommand
  split
  case h_12 => rfl
  all_goals
    next code_eq =>
    refine absurd ?_ other
    simp [BitVec.toNat_eq, code_eq]

section

variable {dt : Nat} {line : LineLevel} {code : Byte} {payload : List Byte} {c : CommandName} {needed : Nat}

/-- An action is short while less than its full payload has arrived (R171). -/
theorem shortTransaction_of_needed (named : decodeCommand code = some c)
    (needs : payloadNeeded c payload = some needed) :
    shortTransaction code payload = decide (payload.length < needed) := by
  simp [shortTransaction, named, needs]

theorem transactionInstr_of_unnamed (unnamed : decodeCommand code = none) :
    transactionInstr dt line code payload = .unknown dt code := by
  simp [transactionInstr, unnamed]

theorem transactionInstr_of_short (named : decodeCommand code = some c)
    (short : shortTransaction code payload = true) :
    transactionInstr dt line code payload = .length dt code payload := by
  simp [transactionInstr, named, short]

theorem transactionInstr_profile :
    transactionInstr dt line 0x10 payload =
      if payload.length < 45 then .length dt 0x10 payload else .profile dt payload := by
  have named : decodeCommand 0x10 = some .profile := rfl
  have short : shortTransaction 0x10 payload = decide (payload.length < 45) := shortTransaction_of_needed named rfl
  simp only [transactionInstr, named, short, decide_eq_true_eq]

theorem transactionInstr_mesh :
    transactionInstr dt line 0x11 payload =
      if payload.length < 3 + 16 * min 64 (payload.getD 2 0).toNat then .length dt 0x11 payload
      else .mesh dt payload := by
  have named : decodeCommand 0x11 = some .mesh := rfl
  have count : meshCount payload = min 64 (payload.getD 2 0).toNat := Nat.min_comm ..
  have short : shortTransaction 0x11 payload = decide (payload.length < 3 + 16 * min 64 (payload.getD 2 0).toNat) := by
    rw [← count]
    exact shortTransaction_of_needed named rfl
  simp only [transactionInstr, named, short, decide_eq_true_eq]

theorem sampleInstr_eq (channel mode : Byte) :
    sampleInstr dt channel mode =
      if mode = 0 then .sampleSingle dt channel 0
      else if mode = 1 then .sampleContinuous dt channel 1
      else .sampleStop dt channel mode := by
  unfold sampleInstr
  split
  · next single => rw [BitVec.eq_of_toNat_eq (y := 0) single]; rfl
  · next continuous => rw [BitVec.eq_of_toNat_eq (y := 1) continuous]; rfl
  · next single continuous =>
    rw [if_neg fun h => single (congrArg BitVec.toNat h), if_neg fun h => continuous (congrArg BitVec.toNat h)]

theorem transactionInstr_sample (channel mode : Byte) (rest : List Byte) :
    transactionInstr dt line 0x30 (channel :: mode :: rest) = sampleInstr dt channel mode := by
  have named : decodeCommand 0x30 = some .sample := rfl
  have full : shortTransaction 0x30 (channel :: mode :: rest) = false := by
    rw [shortTransaction_of_needed named (rfl : _ = some 2)]
    simp
  simp only [transactionInstr, named, full]
  rfl

end

/-! ### The port's pins (R169, R179) -/

section

variable {dt : Nat} {s : State}

theorem csnLow_iff : s.csnLow = true ↔ s.svp.transaction ≠ .closed ∧ s.now < s.svp.rise := by
  simp [State.csnLow]

/-- SVC_CSN is high: no transaction is taken, or its rise has come. -/
theorem csnLow_eq_false_iff : s.csnLow = false ↔ s.svp.transaction = .closed ∨ s.svp.rise ≤ s.now := by
  rw [← Bool.not_eq_true, csnLow_iff, not_and_or, not_not, not_lt]

theorem sdoDriven_of_live (live : s.rstnLow = false) : s.sdoDriven = s.csnLow := by
  simp [State.sdoDriven, live]

/-- SVC_CSN falls where it is high: a transaction is open to its rise. -/
theorem execTransactionBegin_high {low : Nat} (live : s.rstnLow = false)
    (high : s.svp.transaction = .closed ∨ s.svp.rise ≤ s.now + dt) :
    execTransactionBegin ⟨dt, low⟩ s = .next { s.advance dt with
      svp := { s.svp with
        transaction := .opened, rise := s.now + dt + low, received := [], shiftOut := [] } } := by
  have high : (s.advance dt).csnLow = false := csnLow_eq_false_iff.mpr high
  exact eventWhen_due dt s (fun u => !u.csnLow) _ live (by simp only [high, Bool.not_false])

/-- SVC_CSN cannot fall while it is low: only time passes. -/
theorem execTransactionBegin_low {low : Nat} (opened : s.svp.transaction ≠ .closed)
    (before : s.now + dt < s.svp.rise) :
    execTransactionBegin ⟨dt, low⟩ s = .next (s.advance dt) := by
  have held : (s.advance dt).csnLow = true := csnLow_iff.mpr ⟨opened, before⟩
  exact eventWhen_not_due dt s (fun u => !u.csnLow) _ (by simp only [held, Bool.not_true])

/-! ### Where a command of the port is taken (R169, R170, R179; assumption log, entries 3 and 24) -/

/-- At any instant but the rise that ends a transaction, an action lets only time pass. -/
theorem actionCommand_not_taken (f : State → State) (live : s.rstnLow = false) (none_taken : ¬s.takesAction dt) :
    actionCommand dt s f = .next (s.advance dt) := by
  refine eventWhen_not_due dt s _ _ (Bool.eq_false_iff.mpr fun due => ?_)
  obtain ⟨opened, rises⟩ := Bool.and_eq_true_iff.mp due
  exact none_taken ⟨live, eq_of_beq opened, eq_of_beq rises⟩

/-- Outside a transaction that has taken no command, a read lets only time pass. -/
theorem readCommand_not_taken (record : State → List Byte) (f : State → State) (live : s.rstnLow = false)
    (none_taken : ¬s.takesRead dt) : readCommand dt s record f = .next (s.advance dt) := by
  refine eventWhen_not_due dt s _ _ (Bool.eq_false_iff.mpr fun due => ?_)
  obtain ⟨opened, before⟩ := Bool.and_eq_true_iff.mp due
  exact none_taken ⟨live, eq_of_beq opened, of_decide_eq_true before⟩

/-! ### An action that only writes its result (R171 to R173) -/

/-- An action whose effect, on any state with this station and this mesh, is its result alone leaves the part
answered. -/
theorem actionCommand_answered {f : State → State} {r : ResultCode} {index : Nat} (takes : s.takesAction dt)
    (answers : ∀ u : State, u.sc = s.sc → u.mt = s.mt → f u = setResult r index u) :
    actionCommand dt s f = .next (s.answered dt r index) := by
  rw [actionCommand_open dt s f takes, answers (endTransaction (s.advance dt)) rfl rfl]
  rfl

/-- An unknown command byte at the rise of SVC_CSN is the index of its result (R171). -/
theorem execUnknown_answered {code : Byte} (takes : s.takesAction dt) (unnamed : decodeCommand code = none) :
    execUnknown dt code s = .next (s.answered dt .unknown code.toNat) :=
  actionCommand_answered takes fun _ _ _ => if_pos unnamed

/-- A short action is seen by no block (R171). -/
theorem execLength_answered {code : Byte} {payload : List Byte} (takes : s.takesAction dt)
    (short : shortTransaction code payload = true) :
    execLength dt code payload s = .next (s.answered dt .length 0) :=
  actionCommand_answered takes fun _ _ _ => if_pos short

theorem profileCommand_busy (r : RawProfile) (running : s.sc.state ≠ .config) :
    profileCommand r s = setResult .busy 0 s := if_neg running

theorem meshCommand_busy (payload : List Byte) (running : s.sc.state ≠ .config) :
    meshCommand payload s = setResult .busy 0 s := if_pos running

theorem meshCommand_noProfile (payload : List Byte) (config : s.sc.state = .config)
    (invalid : s.sc.profileValid = false) : meshCommand payload s = setResult .noProfile 0 s := by
  simp [meshCommand, config, invalid]

theorem sampleCommand_busy (channel mode : Byte) (f : Channel → Lamp → Lamp) (running : s.sc.state ≠ .config) :
    sampleCommand channel mode f s = setResult .busy 0 s := if_pos running

/-- A full MESH is taken as `meshCommand` takes it. -/
theorem execMesh_of_full {payload : List Byte}
    (full : 3 + Config.vertexBytes * meshCount payload ≤ payload.length) :
    execMesh dt payload s = actionCommand dt s (meshCommand payload) := by
  have arrived : ¬(payload.length < 3 + Config.vertexBytes * meshCount payload ∨ payload.length < 3) := by omega
  simp only [execMesh, if_neg arrived]

/-- A full PROFILE is taken as `profileCommand` takes it. -/
theorem execProfile_of_full {payload : List Byte} (full : Config.profileBytes ≤ payload.length) :
    execProfile dt payload s = actionCommand dt s (profileCommand (readProfile payload)) := by
  simp only [execProfile, if_neg (Nat.not_lt.mpr full)]

end

/-- Settles O2: the pins by the level of SVC_CSN (`csnLow_iff`), the bytes by the number each eight bits spell
(`bytesOfBits_flatMap_append`), and the rows by whether the payload has arrived. -/
theorem portTransactions : Obligations.PortTransactions := by
  unfold Obligations.PortTransactions
  refine ⟨fun dt low s live => ?port, fun dt line s => ?bytes, fun dt line payload => ?rows⟩
  case port =>
    have driven : (s.advance dt).sdoDriven = (s.advance dt).csnLow := sdoDriven_of_live live
    refine ⟨execTransactionBegin_high live, execTransactionBegin_low, ?driven,
      fun bit => ⟨fun low => ?sampled, fun high => ?ignored⟩, fun takes => ?answered,
      fun none_taken payload code => ?noAction, fun none_taken => ?noRead⟩
    case driven => rw [sdoDriven_of_live live, csnLow_iff]
    case sampled => rw [State.clockIn_eq, driven, if_pos (csnLow_iff.mpr low)]
    case ignored =>
      rw [State.clockIn_eq, driven, csnLow_eq_false_iff.mpr high]
      rfl
    case answered => exact ⟨fun code => execUnknown_answered takes, fun code payload => execLength_answered takes⟩
    case noAction =>
      have passes (f : State → State) := actionCommand_not_taken f live none_taken
      exact ⟨(passes _ : execProfile dt payload s = _), (passes _ : execStop dt s = _),
        (passes _ : execUnknown dt code s = _), (passes _ : execLength dt code payload s = _)⟩
    case noRead =>
      exact ⟨(readCommand_not_taken _ _ live none_taken : execStatus dt s = _),
        (readCommand_not_taken _ _ live none_taken : execCounters dt s = _)⟩
  case bytes =>
    refine ⟨withReceived_of_incomplete dt line, fun code payload partialByte short received => ?_⟩
    refine withReceived_of_bytes dt line ?_
    rw [received]
    exact bytesOfBits_flatMap_append (code :: payload) short
  case rows =>
    refine ⟨rfl, rfl, rfl, rfl, rfl, rfl, rfl, rfl, transactionInstr_profile, transactionInstr_mesh, fun short => ?_,
      fun channel mode rest bytes => ?_, fun code other => transactionInstr_of_unnamed (decodeCommand_eq_none other)⟩
    · refine transactionInstr_of_short rfl ?_
      rw [shortTransaction_of_needed rfl rfl]
      exact decide_eq_true short
    · subst bytes
      exact (transactionInstr_sample channel mode rest).trans (sampleInstr_eq channel mode)

/-- Settles O4: each refusal is a result written and nothing else (`actionCommand_answered`), by the station state, the
profile and the mesh that the command finds. -/
theorem commandsRefused : Obligations.CommandsRefused := by
  unfold Obligations.CommandsRefused
  intro dt s takes
  refine ⟨fun running payload channel mode => ?busy, fun config invalid payload => ?noProfile,
    fun config valid incomplete => ?noMesh, fun config => ?notRunning, fun stopping => ?stopping⟩
  case busy =>
    have busy {u : State} (sc : u.sc = s.sc) : u.sc.state ≠ .config := sc ▸ running
    have sample (f : State → Channel → Lamp → Lamp) :
        actionCommand dt s (fun u => sampleCommand channel mode (f u) u) = .next (s.answered dt .busy 0) :=
      actionCommand_answered takes fun u sc _ => sampleCommand_busy channel mode (f u) (busy sc)
    refine ⟨fun full => ?_, fun full => ?_, ?_, (sample _ : execSampleSingle dt channel mode s = _),
      (sample _ : execSampleContinuous dt channel mode s = _), (sample _ : execSampleStop dt channel mode s = _)⟩
    · exact (execProfile_of_full full).trans
        (actionCommand_answered takes fun u sc _ => profileCommand_busy _ (busy sc))
    · exact (execMesh_of_full full).trans
        (actionCommand_answered takes fun u sc _ => meshCommand_busy _ (busy sc))
    · exact (actionCommand_answered takes fun u sc _ => if_pos (busy sc) : execStart dt s = _)
  case noProfile =>
    refine ⟨fun full => ?_, ?_⟩
    · exact (execMesh_of_full full).trans
        (actionCommand_answered takes fun u sc _ => meshCommand_noProfile payload (sc ▸ config) (sc ▸ invalid))
    · change execStart dt s = _
      refine actionCommand_answered takes fun u sc _ => ?_
      simp [sc, config, invalid]
  case noMesh =>
    change execStart dt s = _
    refine actionCommand_answered takes fun u sc mt => ?_
    simp [sc, mt, config, valid, State.meshComplete, incomplete]
  case notRunning =>
    change execStop dt s = _
    refine actionCommand_answered takes fun u sc _ => ?_
    simp [sc, config]
  case stopping =>
    change execStop dt s = _
    refine actionCommand_answered takes fun u sc _ => ?_
    simp [sc, stopping]

end Sys2Proof.Machine

/-! SUPPORT. One step by the command queue (00_scope.md, Conventions; assumption log, entry 4). -/

namespace Sys2Proof.Machine

/-- The command at the front runs on a state whose queue it has already left (00_scope.md, Conventions). -/
theorem step_of_front {c : Instr} {rest : List Instr} {s : State} (front : s.pending = c :: rest) :
    step s = exec c { s with pending := rest } := by
  rw [step, front]

/-- The block idles where no command waits (assumption log, entry 4). -/
theorem step_of_empty {s : State} (empty : s.pending = []) : step s = .next s := by
  rw [step, empty]

/-- Settles O1: the queue's two shapes (`step_of_front`, `step_of_empty`). -/
theorem stepTakesFront : Obligations.StepTakesFront := by
  unfold Obligations.StepTakesFront
  exact ⟨fun _ _ _ => step_of_front, fun _ => step_of_empty⟩

end Sys2Proof.Machine

/-! SUPPORT. One step by what it moves (R1 to R185). Most commands move nothing that the standing statements about the
station, its peers, its lock and its lamp rest on, which `Stands` says; the others do so by one of the effects that
`Effect` lists, and `exec_takes` says of every command that it makes at most one of them. -/

namespace Sys2Proof.Machine

/-! ### What stands -/

/-- The link holds no message (R30, R35). -/
def Link.Quiet (l : Link) : Prop := l.queue = TransmitQueue.empty ∧ l.onLine = none

/-- No record lists more than three coverers (R19, R22). -/
def Mesh.Narrow (m : Mesh) : Prop := ∀ r ∈ m.records, r.2.coverers.length ≤ 3

/-- From `s` to `t` nothing moves that the standing statements about the station (R3, R8), its peers (R57, R62), its lock
(R69) and its lamp (R142) rest on. A waiver may end, a mesh may be written, a link outside CONFIG may move, and a frame
may turn BLACK. -/
structure Stands (s t : State) : Prop where
  state : t.sc.state = s.sc.state
  profile : t.sc.profile = s.sc.profile
  valid : t.sc.profileValid = s.sc.profileValid
  waived : t.sc.lockWaived = true → s.sc.lockWaived = true
  narrow : s.mt.Narrow → t.mt.Narrow
  quiet : s.sc.state = .config → s.slc.Quiet → t.slc.Quiet
  pt : t.pt = s.pt
  timer : t.cu.running = s.cu.running
  lock : t.cu.lock = s.cu.lock
  reference : t.cu.reference = s.cu.reference
  promoted : t.we.promoted = s.we.promoted
  kLocal : t.we.kLocal = s.we.kLocal
  l0 : t.ls.l0 = s.ls.l0
  l1 : t.ls.l1 = s.ls.l1
  lMeas : t.ls.lMeas = s.ls.lMeas
  lAnn : t.ls.lAnn = s.ls.lAnn
  picture : t.wbp.mode = .picture → s.wbp.mode = .picture ∨ s.sc.state = .showing

namespace Stands

theorem refl (s : State) : Stands s s :=
  ⟨rfl, rfl, rfl, id, id, fun _ => id, rfl, rfl, rfl, rfl, rfl, rfl, rfl, rfl, rfl, rfl, .inl⟩

theorem trans {s t u : State} (h : Stands s t) (k : Stands t u) : Stands s u where
  state := k.state.trans h.state
  profile := k.profile.trans h.profile
  valid := k.valid.trans h.valid
  waived := h.waived ∘ k.waived
  narrow := k.narrow ∘ h.narrow
  quiet hs q := k.quiet (h.state.trans hs) (h.quiet hs q)
  pt := k.pt.trans h.pt
  timer := k.timer.trans h.timer
  lock := k.lock.trans h.lock
  reference := k.reference.trans h.reference
  promoted := k.promoted.trans h.promoted
  kLocal := k.kLocal.trans h.kLocal
  l0 := k.l0.trans h.l0
  l1 := k.l1.trans h.l1
  lMeas := k.lMeas.trans h.lMeas
  lAnn := k.lAnn.trans h.lAnn
  picture hu := (k.picture hu).elim h.picture fun ht => .inr (h.state ▸ ht)

theorem after {s t u : State} (k : Stands t u) (h : Stands s t) : Stands s u := h.trans k

/-- What leaves all blocks alone but the link, the Frame Store, the port and the counters, and the link too where it holds
no message in CONFIG. -/
theorem of_link {s t : State} (sc : t.sc = s.sc) (mt : t.mt = s.mt) (pt : t.pt = s.pt) (cu : t.cu = s.cu)
    (we : t.we = s.we) (ls : t.ls = s.ls) (mode : t.wbp.mode = s.wbp.mode)
    (quiet : s.sc.state = .config → s.slc.Quiet → t.slc.Quiet) : Stands s t where
  state := by rw [sc]
  profile := by rw [sc]
  valid := by rw [sc]
  waived h := sc ▸ h
  narrow h := mt ▸ h
  quiet := quiet
  pt := pt
  timer := by rw [cu]
  lock := by rw [cu]
  reference := by rw [cu]
  promoted := by rw [we]
  kLocal := by rw [we]
  l0 := by rw [ls]
  l1 := by rw [ls]
  lMeas := by rw [ls]
  lAnn := by rw [ls]
  picture h := .inl (mode ▸ h)

/-- What leaves all blocks alone but the Frame Store, the port and the counters. -/
theorem of_blocks {s t : State} (sc : t.sc = s.sc) (mt : t.mt = s.mt) (pt : t.pt = s.pt) (cu : t.cu = s.cu)
    (we : t.we = s.we) (ls : t.ls = s.ls) (mode : t.wbp.mode = s.wbp.mode) (slc : t.slc = s.slc) : Stands s t :=
  of_link sc mt pt cu we ls mode fun _ q => slc ▸ q

/-- What changes the Frame Store, the port and the counters alone. -/
theorem of_store {s t : State} (h : t = { s with fs := t.fs, svp := t.svp, counters := t.counters }) : Stands s t := by
  rw [h]
  exact of_blocks rfl rfl rfl rfl rfl rfl rfl rfl

/-- What changes the link alone, besides the Frame Store, the port and the counters, in a station outside CONFIG. -/
theorem of_message {s t : State} (running : s.sc.state ≠ .config)
    (h : t = { s with slc := t.slc, fs := t.fs, svp := t.svp, counters := t.counters }) : Stands s t := by
  rw [h]
  exact of_link rfl rfl rfl rfl rfl rfl rfl fun hc => absurd hc running

/-- What changes the Lamp Sampler alone, but for its figures. -/
theorem modLs {g : Lamp → Lamp} {s : State} (l0 : (g s.ls).l0 = s.ls.l0) (l1 : (g s.ls).l1 = s.ls.l1)
    (lMeas : (g s.ls).lMeas = s.ls.lMeas) (lAnn : (g s.ls).lAnn = s.ls.lAnn) : Stands s (s.modLs g) :=
  ⟨rfl, rfl, rfl, id, id, fun _ => id, rfl, rfl, rfl, rfl, rfl, rfl, l0, l1, lMeas, lAnn, .inl⟩

/-- What changes the Station Controller alone, but for its state, its profile and the waiver. -/
theorem modSc {g : Station → Station} {s : State} (state : (g s.sc).state = s.sc.state)
    (profile : (g s.sc).profile = s.sc.profile) (valid : (g s.sc).profileValid = s.sc.profileValid)
    (waived : (g s.sc).lockWaived = true → s.sc.lockWaived = true) : Stands s (s.modSc g) :=
  ⟨state, profile, valid, waived, id, fun _ => id, rfl, rfl, rfl, rfl, rfl, rfl, rfl, rfl, rfl, rfl, .inl⟩

/-- What changes the Cadence Unit alone, but for the running timer, the lock state and the reference. -/
theorem modCu {g : Cadence → Cadence} {s : State} (timer : (g s.cu).running = s.cu.running)
    (lock : (g s.cu).lock = s.cu.lock) (reference : (g s.cu).reference = s.cu.reference) : Stands s (s.modCu g) :=
  ⟨rfl, rfl, rfl, id, id, fun _ => id, rfl, timer, lock, reference, rfl, rfl, rfl, rfl, rfl, rfl, .inl⟩

end Stands

/-! ### Operations under which everything stands -/

theorem setResult_stands (r : ResultCode) (i : Nat) (s : State) : Stands s (setResult r i s) :=
  .modSc rfl rfl rfl id

theorem advance_stands (dt : Nat) (s : State) : Stands s (s.advance dt) :=
  .of_blocks rfl rfl rfl rfl rfl rfl rfl rfl

theorem runPass_stands (s : State) : Stands s (runPass s) := by
  rw [runPass_frame]
  exact ⟨rfl, rfl, rfl, id, id, fun _ => id, rfl, rfl, rfl, rfl, rfl, rfl, rfl, rfl, rfl, rfl, .inl⟩

theorem settleStore_stands (s : State) : Stands s (settleStore s) := by
  rw [settleStore_frame]
  exact .of_blocks rfl rfl rfl rfl rfl rfl rfl rfl

theorem endBurst_stands (s : State) : Stands s (endBurst s) := by
  rw [endBurst_frame]
  exact .of_blocks rfl rfl rfl rfl rfl rfl rfl rfl

/-- A new output frame is in PICTURE only in SHOWING (R120). -/
theorem beginOutputFrame_stands (s : State) : Stands s (beginOutputFrame s) := by
  rw [beginOutputFrame_frame]
  refine ⟨rfl, rfl, rfl, id, id, fun _ => id, rfl, rfl, rfl, rfl, rfl, rfl, rfl, rfl, rfl, rfl, fun h => .inr ?_⟩
  by_contra hidden
  simp [hidden] at h

/-- The order of the blocks at a frame start moves the PULSE and the output alone (R47, R120). -/
theorem applyOrder_stands (order : SameInstant) (before s : State) : Stands s (applyOrder order before s) := by
  have pulsed : Stands s (if order.pulseAfter = true then refreshPulse s else s) := by
    split
    · refine .of_link rfl rfl rfl rfl rfl rfl rfl fun _ quiet => ?_
      obtain ⟨queue, onLine⟩ := quiet
      exact ⟨by simp [refreshPulse, modQueue, queue, TransmitQueue.empty], onLine⟩
    · exact .refl s
  unfold applyOrder
  dsimp only
  split
  · exact pulsed.trans (beginOutputFrame_stands _)
  · exact pulsed

/-- The timer, the enactment and the marks of an own frame start leave lock, reference and figures (R70, R92, R93). -/
theorem periodBegun_stands (s : State) : Stands s s.periodBegun := by
  have timed : Stands s (s.modCu (timerFrameStart s.profile.period (micros s.now))) := .modCu rfl rfl rfl
  refine timed.trans (.of_blocks ?_ ?_ ?_ ?_ ?_ ?_ ?_ ?_) <;> simp [State.periodBegun]

theorem takeCutoff_stands (s : State) : Stands s (takeCutoff s) := by
  rw [takeCutoff_frame]
  exact ⟨rfl, rfl, rfl, id, id, fun _ => id, rfl, rfl, rfl, rfl, rfl, rfl, rfl, rfl, rfl, rfl, .inl⟩

/-! ### The seam link -/

/-- A quiet link offers nothing. -/
theorem dueOffer_of_quiet {s : State} (h : s.slc.Quiet) : s.dueOffer = none := by
  simp [State.dueOffer, h.1, TransmitQueue.empty, TransmitQueue.offer]

theorem beginOffer_frame (o : Offer) (t0 : Nat) (s : State) :
    beginOffer o t0 s = { s with slc := (beginOffer o t0 s).slc, counters := (beginOffer o t0 s).counters } := by
  unfold beginOffer
  dsimp only
  (repeat' split) <;> rfl

theorem takeStartMark_stands (joined : Nat) (s : State) : Stands s (takeStartMark joined s) := by
  unfold takeStartMark
  split
  · next o due =>
    rw [beginOffer_frame]
    refine .of_link rfl rfl rfl rfl rfl rfl rfl fun _ quiet => ?_
    rw [dueOffer_of_quiet quiet] at due
    cases due
  · exact .refl s

theorem takeArbitrationLoss_stands (s : State) : Stands s (takeArbitrationLoss s) := by
  unfold takeArbitrationLoss
  split
  · next m onLine =>
    rw [returnToQueue_frame]
    refine .of_link rfl rfl rfl rfl rfl rfl rfl fun _ quiet => ?_
    rw [quiet.2] at onLine
    cases onLine
  · exact .refl s

theorem takeFieldEnd_stands (s : State) : Stands s (takeFieldEnd s) := by
  refine .of_link rfl rfl rfl rfl rfl rfl rfl fun _ quiet => ⟨quiet.1, ?_⟩
  show s.slc.onLine.map _ = none
  rw [quiet.2]
  rfl

theorem dropPulse_stands (s : State) : Stands s (dropPulse s) := by
  refine .of_link rfl rfl rfl rfl rfl rfl rfl fun _ quiet => ⟨?_, quiet.2⟩
  show { s.slc.queue with pulse := none } = TransmitQueue.empty
  rw [quiet.1]
  rfl

theorem takeStuck_stands (s : State) : Stands s (takeStuck s) := by
  unfold takeStuck
  dsimp only
  split <;> exact .of_link rfl rfl rfl rfl rfl rfl rfl fun _ quiet => quiet

theorem takeMark_stands (c2 c3 c4 : Bool) (run : Nat) (s : State) : Stands s (takeMark c2 c3 c4 run s) := by
  unfold takeMark
  dsimp only
  split <;> exact .of_link rfl rfl rfl rfl rfl rfl rfl fun _ quiet => quiet

theorem takeStartMarkSeen_stands (c2 c3 c4 : Bool) (run : Nat) (s : State) :
    Stands s (takeStartMarkSeen c2 c3 c4 run s) := by
  unfold takeStartMarkSeen
  dsimp only
  split
  · exact (takeMark_stands ..).after (.of_link rfl rfl rfl rfl rfl rfl rfl fun _ quiet => quiet)
  · split <;> exact .of_link rfl rfl rfl rfl rfl rfl rfl fun _ quiet => quiet

theorem takeShort_stands (c : ShortCause) (run : Nat) (s : State) : Stands s (takeShort c run s) := by
  have spent (t0 : Nat) (u : State) : Stands u (if runIsSpentMark c run then takeSpentMark t0 run u else u) := by
    unfold takeSpentMark
    split
    · split
      · exact .of_link rfl rfl rfl rfl rfl rfl rfl fun _ quiet => quiet
      · exact takeMark_stands ..
    · exact .refl u
  unfold takeShort
  split
  · refine .trans ?_ (spent ..)
    split <;> exact .of_link rfl rfl rfl rfl rfl rfl rfl fun _ quiet => quiet
  · exact .refl s

theorem takeStray_stands (width : Nat) (s : State) : Stands s (takeStray width s) := by
  unfold takeStray
  split
  · exact .of_link rfl rfl rfl rfl rfl rfl rfl fun _ quiet => quiet
  · exact .refl s

theorem endReception_stands (length : Nat) (crc : Byte) (s : State) : Stands s (endReception length crc s) :=
  .of_link rfl rfl rfl rfl rfl rfl rfl fun _ quiet => quiet

/-! ### Pixels -/

theorem endFrameInProgress_stands (s : State) : Stands s (if s.fs.frameInProgress then endFrameShort s else s) := by
  unfold endFrameShort
  dsimp only
  (repeat' split) <;> exact .of_store rfl

theorem takeSlot_stands (s : State) : Stands s (takeSlot s) := by
  unfold takeSlot
  (repeat' split) <;> exact .of_store rfl

theorem takeInputFrameStart_stands (s : State) : Stands s (takeInputFrameStart s) :=
  (settleStore_stands _).after (((endFrameInProgress_stands s).trans (takeSlot_stands _)).trans (.of_store rfl))

theorem takePixel_stands (px : Pixel) (s : State) : Stands s (takePixel px s) := by
  unfold takePixel
  split
  · split
    · exact (settleStore_stands _).after (.of_store rfl)
    · exact .refl s
  · split
    · exact .of_store rfl
    · exact .refl s
  all_goals exact .refl s

theorem takeLineEnd_stands (s : State) : Stands s (takeLineEnd s) :=
  (settleStore_stands _).after (.of_store rfl)

/-- The end of a trailer line can request a READY, which a station in CONFIG does not reach (R152, R156). -/
theorem takeTrailerEnd_stands {s : State} (running : s.sc.state ≠ .config) : Stands s (takeTrailerEnd s) := by
  have judged (i : SlotNo) : Stands s (judgeFrame i s) := by
    unfold judgeFrame
    (repeat' split) <;> exact .of_message running rfl
  unfold takeTrailerEnd
  dsimp only
  split
  · exact (settleStore_stands _).after ((judged _).trans (.of_store rfl))
  · exact (settleStore_stands _).after (.of_store rfl)

theorem takeInputLoss_stands (s : State) : Stands s (takeInputLoss s) :=
  (settleStore_stands _).after ((endFrameInProgress_stands s).trans (.of_store rfl))

theorem takeWriteBurst_stands (s : State) : Stands s (takeWriteBurst s) := by
  unfold takeWriteBurst
  split
  · split
    · exact (endBurst_stands _).after (.of_store rfl)
    · exact endBurst_stands s
  · exact .refl s

theorem takeReadBurst_stands (upsets : List Upset) (s : State) : Stands s (takeReadBurst upsets s) := by
  have failed (n : Need) (u : State) : Stands u (noteFailedBurst n u) := by
    unfold noteFailedBurst
    dsimp only
    split <;> exact .of_store rfl
  unfold takeReadBurst
  split
  · next n kept _ =>
    have fetched (f : FrameStore → FrameStore) : Stands s (if kept = true then s.modFs f else s) := by
      split <;> exact .of_store rfl
    dsimp only
    split
    · exact ((fetched _).trans (failed n _)).trans (endBurst_stands _)
    · exact (fetched _).trans (endBurst_stands _)
  · exact .refl s

theorem sendPixel_stands (p : Pixel) (s : State) : Stands s (sendPixel p s) :=
  .of_blocks rfl rfl rfl rfl rfl rfl rfl rfl

theorem formPixel_stands (y x : Nat) (s : State) : Stands s (formPixel y x s) := by
  have sent (p : Pixel) : Stands s (sendPixel p (s.modFs noteOccupancy)) :=
    (sendPixel_stands p _).after (.of_store rfl)
  have underrun (u : State) : Stands u (noteUnderrun u) := by
    unfold noteUnderrun
    split <;> exact .of_blocks rfl rfl rfl rfl rfl rfl rfl rfl
  unfold formPixel
  split
  · unfold formPicturePixel
    dsimp only
    split
    · exact (sent _).trans (underrun _)
    · exact sent _
    · split
      · exact (sent _).trans (.of_store rfl)
      · exact sent _
  · exact sendPixel_stands ..
  · exact sendPixel_stands ..
  · exact .refl s

theorem takePixelDue_stands (s : State) : Stands s (takePixelDue s) := by
  unfold takePixelDue stepPosition
  split
  · next y x _ =>
    exact (settleStore_stands _).after
      ((formPixel_stands y x s).trans (.of_blocks rfl rfl rfl rfl rfl rfl rfl rfl))
  · exact .refl s

/-! ### The sampler -/

theorem afterManual_figures (now : Nat) (channel : Channel) (l : Lamp) :
    (afterManual now channel l).l0 = l.l0 ∧ (afterManual now channel l).l1 = l.l1 ∧
      (afterManual now channel l).lMeas = l.lMeas ∧ (afterManual now channel l).lAnn = l.lAnn := by
  unfold afterManual
  (repeat' split) <;> exact ⟨rfl, rfl, rfl, rfl⟩

theorem takeManualCode_stands (code : BitVec 12) (s : State) : Stands s (takeManualCode code s) := by
  unfold takeManualCode
  split
  · exact .refl s
  · next c _ =>
    obtain ⟨l0, l1, lMeas, lAnn⟩ := afterManual_figures s.now c.channel
      { s.ls with conversion := none, result := some { channel := c.channel, code := code }, fresh := true }
    exact .modLs l0 l1 lMeas lAnn

/-- A SAMPLE leaves the sampler's figures. -/
theorem sampleCommand_stands (channel mode : Byte) {f : Channel → Lamp → Lamp}
    (figures : ∀ c l, (f c l).l0 = l.l0 ∧ (f c l).l1 = l.l1 ∧ (f c l).lMeas = l.lMeas ∧ (f c l).lAnn = l.lAnn)
    (s : State) : Stands s (sampleCommand channel mode f s) := by
  unfold sampleCommand
  split
  · exact setResult_stands ..
  · split
    · exact setResult_stands ..
    · next c _ =>
      obtain ⟨l0, l1, lMeas, lAnn⟩ := figures c s.ls
      split
      · exact setResult_stands ..
      · exact (setResult_stands ..).after (.modLs l0 l1 lMeas lAnn)

/-! ### The mesh -/

/-- A stored record has as many coverers as it lists, at most three (R22, R24). -/
theorem narrow_takeRecords (own : StationNo) (count : Nat) (l : List RawVertex) (i : Nat) {m : Mesh} (h : m.Narrow) :
    (takeRecords own count l i m).1.Narrow := by
  induction l generalizing i m with
  | nil => exact h
  | cons r l ih =>
    unfold takeRecords
    split
    · exact h
    · split
      · exact h
      · next passes =>
        refine ih (i + 1) fun q hq => ?_
        obtain rfl | hq := mem_putRecord hq
        · exact (RawVertex.stored_sound (Bool.eq_false_of_not_eq_true passes)).1
        · exact h q hq

/-- What leaves all alone but the mesh, in which no record comes to list more than three coverers. -/
theorem Stands.modMt {g : Mesh → Mesh} {s : State} (narrow : s.mt.Narrow → (g s.mt).Narrow) : Stands s (s.modMt g) :=
  ⟨rfl, rfl, rfl, id, narrow, fun _ => id, rfl, rfl, rfl, rfl, rfl, rfl, rfl, rfl, rfl, rfl, .inl⟩

theorem meshCommand_stands (payload : List Byte) (s : State) : Stands s (meshCommand payload s) := by
  have written (stored : Bool) : Stands s (s.modMt fun _ =>
      let m := (takeRecords s.profile.station s.sc.vertexCount (readVertices payload) (wordAt payload 0) s.mt).1
      if stored = true then m.refreshNeighbours else m) := by
    refine .modMt fun h => ?_
    have taken := narrow_takeRecords s.profile.station s.sc.vertexCount (readVertices payload) (wordAt payload 0) h
    dsimp only
    split <;> exact taken
  unfold meshCommand meshRecords
  split
  · exact setResult_stands ..
  · split
    · exact setResult_stands ..
    · dsimp only
      split <;> exact (setResult_stands ..).after (written _)

end Sys2Proof.Machine

/-! SUPPORT. The effects of one step: what acting on a message and handing it on may do (R52 to R56, R77), the effects that
move the standing figures, and every command as at most one of them. -/

namespace Sys2Proof.Machine

/-! ### Acting on a message (R49, R53 to R56) -/

/-- What stands of a peer's entry: its silence count within the limit, at it where the entry is SILENT, and its figures
in their ranges (R49, R57). -/
structure PeerEntry.Sound (limit : Nat) (e : PeerEntry) : Prop where
  within : e.silence ≤ limit
  silent : e.status = .silent → e.silence = limit
  depth : ∀ k ∈ e.depth, 1 ≤ k ∧ k ≤ 4
  level : ∀ l ∈ e.level, l ≤ Config.one

theorem PeerEntry.absent_sound (limit : Nat) : PeerEntry.absent.Sound limit :=
  ⟨Nat.zero_le _, nofun, nofun, nofun⟩

/-- A list without its missing places is written at one of them without effect. -/
theorem set_getD_self {α : Type} (l : List α) (n : Nat) (a : α) : l.set n (l.getD n a) = l := by
  by_cases h : n < l.length
  · rw [List.getD_eq_getElem _ _ h, List.set_getElem_self]
  · exact List.set_eq_of_length_le (Nat.le_of_not_lt h)

/-- Acting on a message of a peer writes its entry, and raises causes at most; a sound entry stays sound. -/
structure Acts (n : StationNo) (act : State → State) : Prop where
  frame : ∀ s, act s = { s with pt := { s.pt with entries := (act s).pt.entries }, svp := (act s).svp }
  entries : ∀ s, ∃ e : PeerEntry, (act s).pt.entries = s.pt.entries.set n.val e ∧
    ∀ limit, (s.pt.entry n).Sound limit → e.Sound limit

/-- An entry written by a message, from the entry before (R27). -/
theorem changeEntry_acts (n : StationNo) {write : State → PeerEntry}
    (sound : ∀ s limit, (s.pt.entry n).Sound limit → (write s).Sound limit) :
    Acts n fun s => changeEntry n (write s) s where
  frame s := by rw [changeEntry_eq]
  entries s := ⟨write s, by rw [changeEntry_eq], sound s⟩

theorem statusOf_ne_silent (tMin : Nat) (a : AnnouncedState) (level : Nat) : statusOf tMin a level ≠ .silent := by
  cases a with
  | joining => simp [statusOf]
  | showing =>
    unfold statusOf
    dsimp only
    split <;> simp
  | dark => simp [statusOf]

/-- A PULSE stores figures in their ranges (R49, R53, R54). -/
theorem actOnPulse_acts (n : StationNo) (p : BitVec 64) : Acts n (actOnPulse n (readPulse p)) := by
  have stored (a : AnnouncedState) : Acts n (storePulse n (readPulse p) a) :=
    changeEntry_acts n fun s limit _ => ⟨Nat.zero_le _, fun h => absurd h (statusOf_ne_silent _ _ _),
      fun k hk => by
        cases hk
        simp only [readPulse]
        have := (p.extractLsb' 10 2).isLt
        omega,
      fun l hl => by cases hl; exact Nat.min_le_left ..⟩
  have marked : Acts n fun s => changeEntry n { s.pt.entry n with status := .mismatch, silence := 0 } s :=
    changeEntry_acts n fun s limit h => ⟨Nat.zero_le _, nofun, h.depth, h.level⟩
  have kept (s : State) : ∃ e : PeerEntry, s.pt.entries = s.pt.entries.set n.val e ∧
      ∀ limit, (s.pt.entry n).Sound limit → e.Sound limit :=
    ⟨s.pt.entry n, (set_getD_self ..).symm, fun _ h => h⟩
  constructor
  · intro s
    unfold actOnPulse mismatchPulse
    dsimp only
    split
    · split
      · exact (stored _).frame s
      · rfl
    · split
      · exact marked.frame s
      · simp only [raiseFault, State.modSvp]
        rw [marked.frame s]
  · intro s
    unfold actOnPulse mismatchPulse
    dsimp only
    split
    · split
      · exact (stored _).entries s
      · exact kept s
    · split
      · exact marked.entries s
      · exact marked.entries s

theorem actOnReady_acts (n : StationNo) (frame : FrameNo) : Acts n (actOnReady n frame) := by
  constructor <;> intro s <;> unfold actOnReady <;> dsimp only <;> split
  · rfl
  · rfl
  · exact ⟨s.pt.entry n, (set_getD_self ..).symm, fun _ h => h⟩
  · exact ⟨_, rfl, fun limit h => ⟨h.within, h.silent, h.depth, h.level⟩⟩

theorem actOnLeave_acts (n : StationNo) (reason : BitVec 4) : Acts n (actOnLeave n reason) := by
  have left : Acts n fun s => changeEntry n { s.pt.entry n with
      reason := some reason, status := if (s.pt.entry n).status.heard then .dark else (s.pt.entry n).status } s := by
    refine changeEntry_acts n fun s limit h => ⟨h.within, fun silent => h.silent ?_, h.depth, h.level⟩
    dsimp only at silent
    split at silent
    · cases silent
    · exact silent
  constructor <;> intro s <;> unfold actOnLeave <;> dsimp only <;> split
  · rfl
  · exact left.frame s
  · exact ⟨s.pt.entry n, (set_getD_self ..).symm, fun _ h => h⟩
  · exact left.entries s

/-! ### Handing a message on (R65, R74, R77) -/

/-- The Cadence Unit of a station that runs in a NORMAL table: neither IDLE nor in HOLD, and a REFERENCE is its own
reference (R69, R81, R82, R84). -/
structure Cadence.Led (own : StationNo) (c : Cadence) : Prop where
  ne_idle : c.lock ≠ .idle
  ne_hold : c.lock ≠ .hold
  reference : c.lock = .reference → c.reference = some own

/-- A Cadence Unit that is SEEKING, LOCKED or FREE is led. -/
theorem Cadence.Led.of_lock {own : StationNo} {c : Cadence}
    (h : c.lock = .seeking ∨ c.lock = .locked ∨ c.lock = .free) : c.Led own := by
  obtain h | h | h := h <;> exact ⟨by simp [h], by simp [h], by simp [h]⟩

theorem setReference_reference (r : Option StationNo) (c : Cadence) : (setReference r c).reference = r := by
  unfold setReference
  split
  · assumption
  · rfl

theorem setReference_running (r : Option StationNo) (c : Cadence) : (setReference r c).running = c.running := by
  unfold setReference
  split <;> rfl

theorem toReference_led (own : StationNo) (period : Nat) (c : Cadence) : (toReference own period c).Led own :=
  ⟨nofun, nofun, fun _ => setReference_reference ..⟩

/-- The choice of reference leads a Cadence Unit that is led (R74, R82). -/
theorem chooseReference_led {own : StationNo} {peers : List StationNo} {period : Nat} {c : Cadence} (h : c.Led own) :
    (chooseReference own peers period c).Led own := by
  have seeks (r : Option StationNo) (d : Cadence) : (setReference r (toSeeking d)).Led own :=
    .of_lock (.inl (setReference_lock ..))
  unfold chooseReference
  cases lock : c.lock with
  | idle => exact absurd lock h.ne_idle
  | hold => exact absurd lock h.ne_hold
  | reference =>
    dsimp only
    split
    · split
      · exact seeks ..
      · exact h
    · exact h
  | seeking =>
    dsimp only
    split
    · exact .of_lock (.inl ((setReference_lock ..).trans lock))
    · exact .of_lock (.inl ((setReference_lock ..).trans lock))
  | locked =>
    dsimp only
    split
    · split
      · exact .of_lock (.inr (.inl ((setReference_lock ..).trans lock)))
      · exact toReference_led ..
    · exact toReference_led ..
  | free =>
    dsimp only
    split
    · exact h
    · exact seeks ..

theorem chooseReference_running (own : StationNo) (peers : List StationNo) (period : Nat) (c : Cadence) :
    (chooseReference own peers period c).running = c.running := by
  unfold chooseReference toReference toSeeking setReference
  dsimp only
  (repeat' split) <;> rfl

/-- A reference PULSE leaves a station SEEKING, LOCKED or FREE (R77, R79, R80). -/
theorem moved_lock {p : Profile} {now : Nat} {tRef : Int} {beat : BitVec 8} {c : Cadence}
    (known : c.lock = .seeking ∨ c.lock = .locked ∨ c.lock = .free) :
    let m := c.moved p now tRef beat
    m.lock = .seeking ∨ m.lock = .locked ∨ m.lock = .free := by
  intro m
  by_cases enters : c.freed p (beatDelta c tRef beat)
  · have lock : m.lock = .free := by rw [show m = _ from moved_of_freed known enters]
    exact .inr (.inr lock)
  · by_cases stays : c.staysFree p (beatDelta c tRef beat)
    · have lock : m.lock = c.lock := by rw [show m = _ from moved_of_staysFree stays]
      rwa [lock]
    · have pick {q : Prop} [Decidable q] {a b : LockState} (ha : a = .seeking ∨ a = .locked ∨ a = .free)
          (hb : b = .seeking ∨ b = .locked ∨ b = .free) :
          (if q then a else b) = .seeking ∨ (if q then a else b) = .locked ∨ (if q then a else b) = .free := by
        split <;> assumption
      rw [show m = _ from moved_of_corrects known enters stays]
      exact pick (.inr (.inl rfl)) (pick (.inl rfl) (pick (.inl rfl) known))

theorem lockRule_running (p : Profile) (e : Int) (c : Cadence) : (lockRule p e c).running = c.running := by
  unfold lockRule
  dsimp only
  (repeat' split) <;> rfl

theorem freeTest_running (p : Profile) (d : Option Int) (c : Cadence) : (freeTest p d c).running = c.running := by
  unfold freeTest
  dsimp only
  (repeat' split) <;> rfl

theorem applyCorrection_running (p : Profile) (now : Nat) (e : Int) (c : Cadence) :
    (applyCorrection p now e c).1.running = c.running := by
  unfold applyCorrection
  dsimp only
  (repeat' split) <;> rfl

theorem moved_running (p : Profile) (now : Nat) (tRef : Int) (beat : BitVec 8) (c : Cadence) :
    (c.moved p now tRef beat).running = c.running := by
  unfold Cadence.moved Cadence.corrected
  dsimp only
  split
  · rw [lockRule_running]
    exact (applyCorrection_running ..).trans (freeTest_running ..)
  · exact freeTest_running ..

/-- Handing a message on moves the Cadence Unit, which stays led, and the Swap Unit's figures (R52). -/
structure Hands (handOn : State → State) : Prop where
  frame : ∀ s, handOn s = { s with
    cu := (handOn s).cu, swu := (handOn s).swu, fs := (handOn s).fs, counters := (handOn s).counters }
  timer : ∀ s, (handOn s).cu.running = s.cu.running
  led : ∀ s, s.cu.Led s.profile.station → (handOn s).cu.Led s.profile.station

theorem id_hands : Hands id := ⟨fun _ => rfl, fun _ => rfl, fun _ h => h⟩

theorem timed_running (n : StationNo) (ts : Int) (beat : BitVec 8) (s : State) :
    (s.timed n ts beat).cu.running = s.cu.running := by
  unfold State.timed
  split
  · rw [takeReferencePulse_cu]
    dsimp only
    split
    · exact moved_running ..
    · exact (chooseReference_running ..).trans (moved_running ..)
  · rfl

theorem timed_led {n : StationNo} {ts : Int} {beat : BitVec 8} {s : State} (h : s.cu.Led s.profile.station) :
    (s.timed n ts beat).cu.Led s.profile.station := by
  unfold State.timed
  split
  · next takes =>
    have moved := moved_lock (p := s.profile) (now := s.now) (tRef := ts) (beat := beat)
      ((takesPulse_iff n s.cu).mp takes).2
    rw [takeReferencePulse_cu]
    dsimp only
    split
    · exact .of_lock moved
    · exact chooseReference_led (.of_lock moved)
  · exact h

theorem handPulseOn_eq (n : StationNo) (f : PulseFields) (t0 : Nat) (s : State) :
    handPulseOn n f t0 s = s ∨ ∃ diverge, handPulseOn n f t0 s =
      { s.timed n (senderFrameStart t0 f.delay) f.beat with
        counters := { (s.timed n (senderFrameStart t0 f.delay) f.beat).counters with diverge := diverge } } := by
  by_cases tag : f.tag = s.sc.domeTag
  · exact .inr ⟨_, handPulseOn_stored tag⟩
  · exact .inl (if_neg tag)

theorem handPulseOn_hands (n : StationNo) (f : PulseFields) (t0 : Nat) : Hands (handPulseOn n f t0) := by
  constructor <;> intro s <;> obtain h | ⟨d, h⟩ := handPulseOn_eq n f t0 s <;> rw [h]
  · rw [timed_frame]
  · exact timed_running ..
  · exact id
  · exact timed_led

/-! ### The effects -/

/-- The effects that move what `Stands` leaves alone, each with what is known where it is made. -/
inductive Effect : State → State → Prop where
  /-- An accepted PROFILE (R4, R6). -/
  | profile {r : RawProfile} {s : State} : s.sc.state = .config → structuralFault r = none →
      Effect s (acceptProfile r s)
  /-- An accepted START (R9). -/
  | start {s : State} : s.sc.state = .config → s.sc.profileValid = true → Effect s (startShow s)
  /-- STOP in a running state (R14). -/
  | stop {s : State} : s.sc.state ≠ .config → Effect s (stopShow s)
  /-- The entry to CONFIG (R15). -/
  | config {s : State} : Effect s (enterConfig s)
  /-- RSTN low (R17). -/
  | held {s : State} : Effect s (heldInReset s)
  /-- An own frame start of a running station, past its timer and its enactment (R57, R73, R110). -/
  | frame {order : SameInstant} {s : State} : s.sc.state ≠ .config → Effect s (frameStartRunning order s)
  /-- A peer's message (R52). -/
  | message {n : StationNo} {act handOn : State → State} {s : State} : s.sc.state ≠ .config →
      n ≠ s.profile.station → Acts n act → Hands handOn → Effect s (deliverMessage act handOn s)
  /-- A peer that becomes SILENT (R57). -/
  | silent {n : StationNo} {order : SameInstant} {s : State} : s.silentDue n = true → Effect s (takeSilent n order s)
  /-- The table becomes ISOLATED (R59). -/
  | isolated {order : SameInstant} {s : State} : s.isolatedDue = true → Effect s (takeIsolated order s)
  /-- A station without a leader becomes REFERENCE (R75, R76). -/
  | reference {order : SameInstant} {s : State} : s.sc.state ≠ .config → s.leaderless = true →
      Effect s (becomeReference order s)
  /-- The lock timeout (R11). -/
  | lockTimeout {order : SameInstant} {s : State} : s.sc.state = .joining → Effect s (takeLockTimeout order s)
  /-- A pass completes (R108). -/
  | pass {s : State} : s.sc.state ≠ .config → Effect s (takePassComplete s)
  /-- A four-sequence average (R140). -/
  | average {s : State} : s.sc.state ≠ .config → Effect s (formAverage s)

/-- From `s` to `t` everything stands but for one effect at most. -/
def Takes (s t : State) : Prop := Stands s t ∨ ∃ u v, Stands s u ∧ Effect u v ∧ Stands v t

namespace Takes

theorem of_stands {s t : State} (h : Stands s t) : Takes s t := .inl h

theorem of_effect {s t : State} (h : Effect s t) : Takes s t := .inr ⟨s, t, .refl s, h, .refl t⟩

theorem after {s t u : State} (k : Takes t u) (h : Stands s t) : Takes s u := by
  obtain k | ⟨v, w, hv, effect, hw⟩ := k
  · exact .inl (h.trans k)
  · exact .inr ⟨v, w, h.trans hv, effect, hw⟩

theorem followed {s t u : State} (h : Takes s t) (k : Stands t u) : Takes s u := by
  obtain h | ⟨v, w, hv, effect, hw⟩ := h
  · exact .inl (h.trans k)
  · exact .inr ⟨v, w, hv, effect, hw.trans k⟩

/-- What stands under everything and is kept by every effect is kept. -/
theorem keeps {s t : State} (h : Takes s t) {P : State → Prop} (stands : ∀ {s t}, Stands s t → P s → P t)
    (effect : ∀ {s t}, Effect s t → P s → P t) (hs : P s) : P t := by
  obtain h | ⟨u, v, hu, he, hv⟩ := h
  · exact stands h hs
  · exact stands hv (effect he (stands hu hs))

end Takes

/-! ### The commands that make effects -/

theorem stopComplete_takes (s : State) : Takes s (stopComplete s) := by
  unfold stopComplete
  split
  · exact .of_effect .config
  · exact .of_stands (.refl s)

theorem takeBitFault_takes (line : LineLevel) (s : State) : Takes s (takeBitFault line s) := by
  unfold takeBitFault
  split
  · next m onLine =>
    have received : Stands s ((countBitFault s).modSlc fun l =>
        setLine line.dominant (s.now - line.run) (receiveOn m.t0 true l)) :=
      .of_link rfl rfl rfl rfl rfl rfl rfl fun _ quiet => ⟨quiet.1, rfl⟩
    unfold retryOrDrop
    dsimp only
    split
    · rw [returnToQueue_frame]
      refine .of_stands (.of_link rfl rfl rfl rfl rfl rfl rfl fun _ quiet => ?_)
      rw [quiet.2] at onLine
      cases onLine
    · have dropped := received.trans (u := countTxDrop _) (.of_store rfl)
      split
      · exact (stopComplete_takes _).after dropped
      · exact .of_stands dropped
  · exact .of_stands (.refl s)

theorem takeCompletion_takes (s : State) : Takes s (takeCompletion s) := by
  unfold takeCompletion
  split
  · next m _ =>
    have done : Stands s (s.modSlc fun l =>
        setLine false (lastPulseEnd m.t0 m.body.length (sentCrc s.profile.station m.body))
          { l with lastWon := true, onLine := none, receiver := .waiting }) :=
      .of_link rfl rfl rfl rfl rfl rfl rfl fun _ quiet => ⟨quiet.1, rfl⟩
    dsimp only
    split
    · exact (stopComplete_takes _).after done
    · exact .of_stands done
  · exact .of_stands (.refl s)

theorem softReset_takes (line : LineLevel) (s : State) : Takes s (softReset line s) := by
  have heard : Stands s (s.modSlc fun l => if l.busy then setLine line.dominant (s.now - line.run) l else l) := by
    refine .of_link rfl rfl rfl rfl rfl rfl rfl fun _ quiet => ?_
    rw [State.modSlc_slc]
    split
    · exact quiet
    · exact quiet
  have cleared (u : State) : Stands u (((clearCounters u).modLs fun l => { l with fresh := false }).modSc fun c =>
      { c with joinCount := 0, lockTimeoutCount := 0, lockWaived := false }) :=
    ((Stands.of_store rfl).trans (.modLs rfl rfl rfl rfl)).trans (.modSc rfl rfl rfl nofun)
  unfold softReset
  exact ((Takes.of_effect .config).after heard).followed (cleared _)

theorem profileCommand_takes (r : RawProfile) (s : State) : Takes s (profileCommand r s) := by
  unfold profileCommand
  split
  · next config =>
    split
    · exact .of_stands ((setResult_stands ..).after (.modMt fun _ => nofun))
    · next sound => exact (Takes.of_effect (.profile config sound)).followed (setResult_stands ..)
  · exact .of_stands (setResult_stands ..)

theorem takeFrameStart_takes (order : SameInstant) (s : State) : Takes s (takeFrameStart order s) := by
  by_cases running : s.running = true
  · rw [takeFrameStart_of_running order running]
    have runs : s.periodBegun.sc.state ≠ .config := by rw [periodBegun_sc]; exact ne_config_of_running running
    exact (Takes.of_effect (.frame runs)).after (periodBegun_stands s)
  · rw [takeFrameStart_of_not_running order (Bool.eq_false_of_not_eq_true running)]
    exact .of_stands ((periodBegun_stands s).trans (beginOutputFrame_stands _))

/-- A received message is delivered where it passes its checks, and then is none of the station's own (R45). -/
theorem takeMessage_takes {length : Nat} {crc : Byte} {n : StationNo} {covered : List Bool} {bad : Bool}
    {act handOn : State → State} {s : State} (due : s.messageEndDue length = true) (acts : Acts n act)
    (hands : Hands handOn) :
    Takes s (takeMessage length crc (verdictOf s.profile.station n covered crc bad) (deliverMessage act handOn) s) := by
  have ended := endReception_stands length crc s
  cases verdict : verdictOf s.profile.station n covered crc bad with
  | checkFail => exact .of_stands (ended.trans (.of_store rfl))
  | duplicate => exact .of_stands (ended.trans (.of_store rfl))
  | deliver =>
    have other : n ≠ s.profile.station := by
      rintro rfl
      unfold verdictOf at verdict
      rw [if_pos rfl] at verdict
      (repeat' split at verdict) <;> cases verdict
    have running : (endReception length crc s).sc.state ≠ .config := running_of_messageEndDue (s := s) due
    exact (Takes.of_effect (.message running other acts hands)).after ended

theorem takeColdStartTest_takes (order : SameInstant) {s : State} (running : s.sc.state ≠ .config) :
    Takes s (takeColdStartTest order s) := by
  unfold takeColdStartTest
  split
  · next leads => exact .of_effect (.reference running (Bool.and_eq_true_iff.mp leads).1)
  · exact .of_stands (.refl s)

theorem takeOrphanTest_takes (order : SameInstant) {s : State} (running : s.sc.state ≠ .config) :
    Takes s (takeOrphanTest order s) := by
  unfold takeOrphanTest
  split
  · next leads => exact .of_effect (.reference running (Bool.and_eq_true_iff.mp leads).1)
  · exact .of_stands (.refl s)

theorem takeCode_figures (channel : Channel) (code : Nat) (l : Lamp) :
    (takeCode channel code l).l0 = l.l0 ∧ (takeCode channel code l).l1 = l.l1 ∧
      (takeCode channel code l).lMeas = l.lMeas ∧ (takeCode channel code l).lAnn = l.lAnn := by
  cases channel <;> exact ⟨rfl, rfl, rfl, rfl⟩

theorem takeSequenceCode_takes (code : Nat) {s : State} (running : s.sc.state ≠ .config) :
    Takes s (takeSequenceCode code s) := by
  unfold takeSequenceCode
  split
  · exact .of_stands (.refl s)
  · next c _ =>
    obtain ⟨l0, l1, lMeas, lAnn⟩ := takeCode_figures c.channel code s.ls
    have taken : Stands s (s.modLs (takeCode c.channel code)) := .modLs l0 l1 lMeas lAnn
    dsimp only
    split
    · exact .of_stands (taken.trans (.modLs rfl rfl rfl rfl))
    · have ended := taken.trans (u := State.modLs (fun l => { l with conversion := none, sequences := l.sequences + 1 }) _)
        (.modLs rfl rfl rfl rfl)
      unfold completeSequence
      dsimp only
      split
      · exact (Takes.of_effect (.average (s := State.modLs _ (s.modLs _)) running)).after ended
      · exact .of_stands ended

/-! ### One step -/

theorem Takes.eventWhen {dt : Nat} {s t : State} {due : State → Bool} {f : State → State}
    (h : Machine.eventWhen dt s due f = .next t) (hf : ∀ u, due u = true → Takes u (f u)) : Takes s t := by
  obtain rfl | ⟨due_now, rfl⟩ := eventWhen_outcome h
  · exact .of_stands (advance_stands dt s)
  · exact (hf _ due_now).after (advance_stands dt s)

/-- An event whose effect lets everything stand. -/
theorem Stands.eventWhen {dt : Nat} {s t : State} {due : State → Bool} {f : State → State}
    (h : Machine.eventWhen dt s due f = .next t) (hf : ∀ u, Stands u (f u)) : Takes s t :=
  Takes.eventWhen h fun u _ => .of_stands (hf u)

theorem Takes.actionCommand {dt : Nat} {s t : State} {f : State → State}
    (h : Machine.actionCommand dt s f = .next t) (hf : ∀ u, Takes u (f u)) : Takes s t :=
  Takes.eventWhen h fun u _ => (hf (endTransaction u)).after (.of_store rfl)

theorem Stands.readCommand {dt : Nat} {s t : State} {record : State → List Byte} {f : State → State}
    (h : Machine.readCommand dt s record f = .next t) (hf : ∀ u, Stands u (f u)) : Takes s t :=
  Stands.eventWhen h fun u => (hf u).trans (.of_store rfl)

theorem execStart_takes {dt : Nat} {s t : State} (h : execStart dt s = .next t) : Takes s t := by
  unfold execStart at h
  refine Takes.actionCommand h fun u => ?_
  split
  · exact .of_stands (setResult_stands ..)
  · next config =>
    split
    · exact .of_stands (setResult_stands ..)
    · next valid =>
      split
      · exact .of_stands (setResult_stands ..)
      · exact (Takes.of_effect (.start (not_not.mp config) (Bool.eq_true_of_not_eq_false valid))).followed
          (setResult_stands ..)

theorem execStop_takes {dt : Nat} {s t : State} (h : execStop dt s = .next t) : Takes s t := by
  unfold execStop at h
  refine Takes.actionCommand h fun u => ?_
  have stopped (running : u.sc.state ≠ .config) : Takes u (setResult .ok 0 (stopShow u)) :=
    (Takes.of_effect (.stop running)).followed (setResult_stands ..)
  split
  · exact .of_stands (setResult_stands ..)
  · exact .of_stands (setResult_stands ..)
  · next joining => exact stopped (by simp [joining])
  · next showing => exact stopped (by simp [showing])
  · next dark => exact stopped (by simp [dark])

/-- Every command makes one effect at most. -/
theorem exec_takes {c : Instr} {s t : State} (h : exec c s = .next t) : Takes s t := by
  cases c <;> simp only [exec, execProfile, execMesh, execReset, execSampleSingle, execSampleContinuous,
    execSampleStop, execStatus, execPeers, execCounters, execTrap, execReadSample, execUnknown, execLength,
    execHardwareReset, execRstnRelease, execFrameStart, execCutoff, execStartMarkBegin, execArbitrationLost,
    execBitFault, execMessageComplete, execPulseExpired, execStuck, execLinkNormal, execStartMarkRecognised,
    execMessageEndedShort, execPulse, execReady, execLeave, execSilent, execIsolated, execColdStartTest,
    execOrphanTest, execLockTimeout, execPassComplete, execConversionComplete, execManualConversionComplete,
    execInputFrameStart, execInputPixel, execLineEnd, execTrailerLineEnd, execInputLost, execWriteBurst,
    execReadBurst, execPixelDue, execStrayPulse, execArbitrationFieldEnd, execTransactionBegin] at h
  case profile dt payload =>
    refine Takes.actionCommand h fun u => ?_
    split
    · exact .of_stands (setResult_stands ..)
    · exact profileCommand_takes ..
  case mesh dt payload =>
    refine Takes.actionCommand h fun u => .of_stands ?_
    split
    · exact setResult_stands ..
    · exact meshCommand_stands ..
  case start dt => exact execStart_takes h
  case stop dt => exact execStop_takes h
  case reset taken =>
    exact Takes.actionCommand h fun u => (softReset_takes taken.line u).followed (setResult_stands ..)
  case sampleSingle dt channel mode =>
    exact Takes.actionCommand h fun u =>
      .of_stands (sampleCommand_stands _ _ (f := startManual u.now _) (fun _ _ => ⟨rfl, rfl, rfl, rfl⟩) u)
  case sampleContinuous dt channel mode =>
    exact Takes.actionCommand h fun u =>
      .of_stands (sampleCommand_stands _ _ (f := startManual u.now _) (fun _ _ => ⟨rfl, rfl, rfl, rfl⟩) u)
  case sampleStop dt channel mode =>
    refine Takes.actionCommand h fun u => .of_stands (sampleCommand_stands _ _ (fun _ l => ?_) u)
    unfold stopManual
    split <;> exact ⟨rfl, rfl, rfl, rfl⟩
  case status dt => exact Stands.readCommand h fun u => (runPass_stands u).trans (.of_store rfl)
  case peers dt => exact Stands.readCommand h .refl
  case counters dt => exact Stands.readCommand h fun u => (runPass_stands u).trans (.of_store rfl)
  case trap dt => exact Stands.readCommand h fun u => .of_store rfl
  case readSample dt => exact Stands.readCommand h fun u => .modLs rfl rfl rfl rfl
  case unknown dt code =>
    refine Takes.actionCommand h fun u => .of_stands ?_
    split
    · exact setResult_stands ..
    · exact .refl u
  case length dt code payload =>
    refine Takes.actionCommand h fun u => .of_stands ?_
    split
    · exact setResult_stands ..
    · exact .refl u
  case hardwareReset dt => cases h; exact (Takes.of_effect .held).after (advance_stands dt s)
  case rstnRelease dt =>
    cases h
    refine .of_stands ((advance_stands dt s).trans ?_)
    unfold releaseReset
    split
    · exact .of_link rfl rfl rfl rfl rfl rfl rfl fun _ quiet => quiet
    · exact .refl _
  case frameStart dt order => exact Takes.eventWhen h fun u _ => takeFrameStart_takes order u
  case cutoff dt => exact Stands.eventWhen h takeCutoff_stands
  case startMarkBegin dt joined => exact Stands.eventWhen h (takeStartMark_stands joined)
  case arbitrationLost dt => exact Stands.eventWhen h takeArbitrationLoss_stands
  case bitFault dt line => exact Takes.eventWhen h fun u _ => takeBitFault_takes line u
  case messageComplete dt => exact Takes.eventWhen h fun u _ => takeCompletion_takes u
  case pulseExpired dt => exact Stands.eventWhen h dropPulse_stands
  case stuck dt => exact Stands.eventWhen h takeStuck_stands
  case linkNormal dt => exact Stands.eventWhen h fun u => .of_link rfl rfl rfl rfl rfl rfl rfl fun _ quiet => quiet
  case startMarkRecognised dt c2 c3 c4 run => exact Stands.eventWhen h (takeStartMarkSeen_stands c2 c3 c4 run)
  case messageEndedShort dt cause run => exact Stands.eventWhen h (takeShort_stands cause run)
  case pulse dt sender payload crc =>
    exact Takes.eventWhen h fun u due =>
      takeMessage_takes due (actOnPulse_acts sender payload) (handPulseOn_hands sender _ u.receptionStart)
  case ready dt sender payload crc =>
    exact Takes.eventWhen h fun u due => takeMessage_takes due (actOnReady_acts sender payload) id_hands
  case leave dt sender payload crc =>
    exact Takes.eventWhen h fun u due => takeMessage_takes due (actOnLeave_acts sender _) id_hands
  case silent dt peer order => exact Takes.eventWhen h fun u due => .of_effect (.silent due)
  case isolated dt order => exact Takes.eventWhen h fun u due => .of_effect (.isolated due)
  case coldStartTest dt order =>
    refine Takes.eventWhen h fun u due => takeColdStartTest_takes order (ne_config_of_running ?_)
    simp_all [State.coldStartDue]
  case orphanTest dt order =>
    refine Takes.eventWhen h fun u due => takeOrphanTest_takes order (ne_config_of_running ?_)
    simp_all [State.orphanDue]
  case lockTimeout dt order =>
    refine Takes.eventWhen h fun u due => .of_effect (.lockTimeout ?_)
    simp_all [State.lockTimeoutDue]
  case passComplete dt =>
    refine Takes.eventWhen h fun u due => .of_effect (.pass (ne_config_of_running ?_))
    simp_all [State.passCompleteDue]
  case conversionComplete dt code =>
    refine Takes.eventWhen h fun u due => takeSequenceCode_takes _ (ne_config_of_running ?_)
    simp_all
  case manualConversionComplete dt code => exact Stands.eventWhen h (takeManualCode_stands code)
  case inputFrameStart dt => exact Stands.eventWhen h takeInputFrameStart_stands
  case inputPixel dt pixel => exact Stands.eventWhen h (takePixel_stands pixel)
  case lineEnd dt => exact Stands.eventWhen h takeLineEnd_stands
  case trailerLineEnd dt =>
    refine Takes.eventWhen h fun u due => .of_stands (takeTrailerEnd_stands (ne_config_of_portOpen ?_))
    simp_all [State.trailerEndDue]
  case inputLost dt => exact Stands.eventWhen h takeInputLoss_stands
  case writeBurst dt => exact Stands.eventWhen h takeWriteBurst_stands
  case readBurst dt upsets => exact Stands.eventWhen h (takeReadBurst_stands upsets)
  case pixelDue dt => exact Stands.eventWhen h takePixelDue_stands
  case strayPulse dt width => exact Stands.eventWhen h (takeStray_stands width)
  case arbitrationFieldEnd dt => exact Stands.eventWhen h takeFieldEnd_stands
  case transactionBegin select => exact Stands.eventWhen h fun u => .of_store rfl

/-- Every step makes one effect at most, and an empty queue idles. -/
theorem step_takes {s t : State} (h : step s = .next t) : Takes s t := by
  unfold step at h
  split at h
  · cases h; exact .of_stands (.refl s)
  · next c rest _ =>
    exact (exec_takes h).after (.of_blocks rfl rfl rfl rfl rfl rfl rfl rfl)

end Sys2Proof.Machine

/-! SUPPORT. PROFILE (R4 to R7, R28): the structural checks field by field, the clamped record in its ranges, and what a
refused and an accepted PROFILE leave. -/

namespace Sys2Proof.Machine

/-! ### The structural checks (R4) -/

/-- Each structural check is that of its field. -/
theorem structuralChecks_passes {r : RawProfile} {c : Nat × Bool} (h : c ∈ structuralChecks r) :
    c.2 = true ↔ r.passes c.1 := by
  simp only [structuralChecks, List.mem_cons, List.not_mem_nil, or_false] at h
  rcases h with rfl | rfl | rfl | rfl | rfl | rfl | rfl | rfl | rfl | rfl | rfl | rfl <;>
    simp only [RawProfile.passes, inRange, Bool.and_eq_true, Bool.or_eq_true, decide_eq_true_eq, beq_iff_eq, bne_iff_ne] <;>
    omega

/-- The checks stand in the order of their fields. -/
theorem structuralChecks_index {r : RawProfile} {i : Nat} (h : i < (structuralChecks r).length) :
    (structuralChecks r)[i].1 = i := by
  have indices : (structuralChecks r).map Prod.fst = List.range 12 := rfl
  have here : ((structuralChecks r).map Prod.fst)[i]'(by simpa using h) = i := by simp only [indices, List.getElem_range]
  rwa [List.getElem_map] at here

/-- The ranges of R4 are the twelve checks. -/
theorem structuralInRange_iff (r : RawProfile) : StructuralInRange r ↔ ∀ c ∈ structuralChecks r, r.passes c.1 := by
  simp only [structuralChecks, List.forall_mem_cons, List.not_mem_nil, false_implies, implies_true, and_true,
    RawProfile.passes, StructuralInRange]
  tauto

/-- No structural field fails exactly where all lie in their ranges (R4). -/
theorem structuralFault_eq_none_iff (r : RawProfile) : structuralFault r = none ↔ StructuralInRange r := by
  rw [structuralInRange_iff, structuralFault, Option.map_eq_none_iff, List.find?_eq_none]
  refine forall₂_congr fun c hc => ?_
  rw [← structuralChecks_passes hc]
  simp

/-- The first failing field fails, and every field of a lower index passes (R4). -/
theorem structuralFault_first {r : RawProfile} {i : Nat} (h : structuralFault r = some i) :
    ¬r.passes i ∧ ∀ j < i, r.passes j := by
  obtain ⟨c, found, rfl⟩ := Option.map_eq_some_iff.mp h
  obtain ⟨fails, k, hk, rfl, before⟩ := List.find?_eq_some_iff_getElem.mp found
  have index {j : Nat} (hj : j < (structuralChecks r).length) :
      (structuralChecks r)[j].2 = true ↔ r.passes j := by
    rw [structuralChecks_passes (List.getElem_mem hj), structuralChecks_index hj]
  rw [structuralChecks_index hk]
  refine ⟨fun passes => ?_, fun j hj => (index (hj.trans hk)).mp (by simpa using before j hj)⟩
  rw [(index hk).mpr passes] at fails
  cases fails

/-- A SAMPLE refused for its channel or its mode answers BADFIELD (R144). -/
theorem sampleCommand_badChannel {channel mode : Byte} (f : Channel → Lamp → Lamp) {s : State}
    (config : s.sc.state = .config) (unnamed : 2 ≤ channel.toNat) :
    sampleCommand channel mode f s = setResult .badField 0 s := by
  have none_named : Channel.ofByte channel = none := by
    unfold Channel.ofByte
    split
    · omega
    · omega
    · rfl
  simp [sampleCommand, config, none_named]

theorem sampleCommand_badMode {channel mode : Byte} (f : Channel → Lamp → Lamp) {s : State}
    (config : s.sc.state = .config) (named : channel.toNat < 2) (unnamed : 2 < mode.toNat) :
    sampleCommand channel mode f s = setResult .badField 1 s := by
  have some_named : ∃ c, Channel.ofByte channel = some c := by
    obtain h | h : channel.toNat = 0 ∨ channel.toNat = 1 := by omega
    · exact ⟨.lamp0, by simp [Channel.ofByte, h]⟩
    · exact ⟨.lamp1, by simp [Channel.ofByte, h]⟩
  obtain ⟨c, hc⟩ := some_named
  simp [sampleCommand, config, hc, unnamed]

/-- Settles O5: the checks in their order (`structuralFault_eq_none_iff`, `structuralFault_first`), and each refusal as a
result written, besides the mesh that a refused PROFILE unmarks. -/
theorem badFieldRefused : Obligations.BadFieldRefused := by
  unfold Obligations.BadFieldRefused
  refine ⟨structuralFault_eq_none_iff, fun r i => structuralFault_first, fun dt s takes config => ⟨?profile, ?sample⟩⟩
  case profile =>
    intro payload i full fault
    have refused : profileCommand (readProfile payload) (endTransaction (s.advance dt)) =
        setResult .badField i ((endTransaction (s.advance dt)).modMt fun _ => Mesh.blank) := by
      simp [profileCommand, endTransaction, config, fault]
    refine (execProfile_of_full full).trans ?_
    rw [actionCommand_open dt s _ takes, refused]
    rfl
  case sample =>
    intro channel mode
    have answered {index : Nat} (refused : ∀ (f : Channel → Lamp → Lamp) (u : State), u.sc.state = .config →
        sampleCommand channel mode f u = setResult .badField index u) (f : State → Channel → Lamp → Lamp) :
        actionCommand dt s (fun u => sampleCommand channel mode (f u) u) = .next (s.answered dt .badField index) :=
      actionCommand_answered takes fun u sc _ => refused (f u) u (sc ▸ config)
    have all {index : Nat} (refused : ∀ (f : Channel → Lamp → Lamp) (u : State), u.sc.state = .config →
        sampleCommand channel mode f u = setResult .badField index u) :
        exec (.sampleSingle dt channel mode) s = .next (s.answered dt .badField index) ∧
          exec (.sampleContinuous dt channel mode) s = .next (s.answered dt .badField index) ∧
          exec (.sampleStop dt channel mode) s = .next (s.answered dt .badField index) :=
      ⟨(answered refused _ : execSampleSingle dt channel mode s = _),
        (answered refused _ : execSampleContinuous dt channel mode s = _),
        (answered refused _ : execSampleStop dt channel mode s = _)⟩
    exact ⟨fun unnamed => all fun f u hu => sampleCommand_badChannel f hu unnamed,
      fun named unnamed => all fun f u hu => sampleCommand_badMode f hu named unnamed⟩

/-! ### The clamped record (R5) -/

theorem clampTo_within {lo hi : Nat} (h : lo ≤ hi) (v : Nat) : lo ≤ clampTo lo hi v ∧ clampTo lo hi v ≤ hi := by
  unfold clampTo
  split
  · exact ⟨Nat.le_refl _, h⟩
  · split <;> omega

/-- A record whose structural fields pass is clamped into its ranges (R4, R5). -/
theorem clampProfile_inRange {r : RawProfile} (h : StructuralInRange r) : ProfileInRange (clampProfile r) := by
  obtain ⟨-, period, outWidth, outHeight, inWidth, inHeight, -, -, dark0, rated0, lamp1⟩ := h
  have tMin := clampTo_within (show 8192 ≤ 32768 by omega) r.tMin
  have tolerance := clampTo_within (show 5 ≤ 500 by omega) r.lockTolerance
  have enter := clampTo_within (show 10 ≤ 2000 by omega) r.freeEnter
  have dual : (clampProfile r).lampMode = .dual → r.lampMode = 1 := by
    intro hd
    by_contra single
    simp [clampProfile, single] at hd
  exact ⟨period, outWidth, outHeight, inWidth, inHeight, dark0, rated0, fun hd => lamp1 (dual hd),
    (clampTo_within (Nat.zero_le 1024) _).2, tMin, clampTo_within tMin.2 _, clampTo_within (by omega) _,
    clampTo_within (by omega) _, tolerance,
    clampTo_within (lo := clampTo 5 500 r.lockTolerance + 1) (by omega) _, enter,
    clampTo_within (hi := clampTo 10 2000 r.freeEnter - 1) (by omega) _, clampTo_within (by omega) _,
    clampTo_within (by omega) _, clampTo_within (by omega) _,
    (clampTo_within (Nat.zero_le 7) _).2, (clampTo_within (Nat.zero_le 15) _).2⟩

/-! ### An accepted PROFILE (R6, R7, R28, R84, R117) -/

section

variable (r : RawProfile) (s : State)

theorem acceptProfile_sc : (acceptProfile r s).sc = { s.sc with
    profile := clampProfile r, profileValid := true, domeTag := domeTagOf (clampProfile r),
    clamped := (firstClamped r).isSome, firstClamped := (firstClamped r).getD 0 } := by
  simp [acceptProfile]

theorem acceptProfile_cu :
    (acceptProfile r s).cu = timerProfile (clampProfile r).period (micros s.now) s.cu := by
  simp [acceptProfile]

/-- The weight tables are sized for the new grid, of zeros (R18, R117). -/
theorem acceptProfile_we :
    let size := ((clampProfile r).outWidth / 32 + 1) * ((clampProfile r).outHeight / 32 + 1)
    (acceptProfile r s).we = { s.we with
      shown := List.replicate size ⟨0, 0⟩, work := List.replicate size ⟨0, 0⟩, kLocal := 1, position := 0,
      passMaximum := 1 } := by
  simp [acceptProfile, zeroTable, Station.vertexCount, Profile.columns, Profile.rows, Config.gridPitch]

/-- The output frame that an accepted PROFILE begins is BLACK, since the station stands in CONFIG (R119, R120). -/
theorem acceptProfile_wbp (config : s.sc.state = .config) : (acceptProfile r s).wbp = { s.wbp with
    mode := .black, frameSlot := none, position := some (0, 0), underrun := false, frameAt := s.now, nextLine := 0,
    inFlight := [] } := by
  unfold acceptProfile
  dsimp only
  generalize state : State.modFs latchMarks _ = u
  have hidden : u.sc.state ≠ .showing := by rw [← state]; simp [config]
  have now : u.now = s.now := by rw [← state]; rfl
  rw [beginOutputFrame_frame, (beginOutputFrame_sequence u hidden).2]
  simp only [hidden, if_false, now]

theorem acceptProfile_rest : acceptProfile r s = { s with
    sc := (acceptProfile r s).sc, mt := (acceptProfile r s).mt, cu := (acceptProfile r s).cu, we := (acceptProfile r s).we,
    wbp := (acceptProfile r s).wbp, fs := (acceptProfile r s).fs } := by
  apply State.ext <;> simp [acceptProfile]

end

/-- Settles O6: the clamped record in its ranges (`clampProfile_inRange`), and each block as an accepted PROFILE leaves
it. -/
theorem profileAccepted : Obligations.ProfileAccepted := by
  unfold Obligations.ProfileAccepted
  refine ⟨fun r => clampProfile_inRange, fun dt payload s takes config full sound => ?_⟩
  intro r p now
  let u := endTransaction (s.advance dt)
  have config : u.sc.state = .config := config
  have accepted : profileCommand r u = setResult .ok 0 (acceptProfile r u) := by
    simp [profileCommand, config, (structuralFault_eq_none_iff r).mpr sound]
  have run : exec (.profile dt payload) s = .next (setResult .ok 0 (acceptProfile r u)) := by
    refine (execProfile_of_full full).trans ?_
    rw [actionCommand_open dt s _ takes, accepted]
  refine ⟨_, run, ?sc, ?mt, ?cu, acceptProfile_we r u, acceptProfile_wbp r u config, ?slots, ?memory, ?parity, ?trap,
    ?fifo, ?port, ?rest⟩
  case sc => simp only [setResult, State.modSc_sc, acceptProfile_sc]; rfl
  case cu => exact acceptProfile_cu r u
  case rest =>
    simp only [setResult, State.modSc]
    rw [acceptProfile_rest]
    rfl
  all_goals simp [setResult, acceptProfile, latchMarks, u, endTransaction]

end Sys2Proof.Machine

/-! SUPPORT. What a running station keeps through the effects of one step: its profile, its frame timer, and PICTURE to
SHOWING (R8, R120). -/

namespace Sys2Proof.Machine

/-! ### Running on -/

/-- From `s` to `t` no station comes to CONFIG, and profile, frame timer and PICTURE stand as R8 and R120 want them. -/
structure RunsOn (s t : State) : Prop where
  config : t.sc.state = .config → s.sc.state = .config
  profile : t.sc.profile = s.sc.profile
  valid : t.sc.profileValid = s.sc.profileValid
  timer : t.cu.running = s.cu.running
  picture : PictureOnlyShowing s → PictureOnlyShowing t

namespace RunsOn

theorem trans {s t u : State} (h : RunsOn s t) (k : RunsOn t u) : RunsOn s u where
  config := h.config ∘ k.config
  profile := k.profile.trans h.profile
  valid := k.valid.trans h.valid
  timer := k.timer.trans h.timer
  picture := k.picture ∘ h.picture

theorem after {s t u : State} (k : RunsOn t u) (h : RunsOn s t) : RunsOn s u := h.trans k

theorem of_stands {s t : State} (h : Stands s t) : RunsOn s t where
  config ht := h.state ▸ ht
  profile := h.profile
  valid := h.valid
  timer := h.timer
  picture shows ht := h.state.trans ((h.picture ht).elim shows id)

theorem refl (s : State) : RunsOn s s := of_stands (.refl s)

/-- What leaves the station, the timer and the output mode alone. -/
theorem of_blocks {s t : State} (sc : t.sc = s.sc) (timer : t.cu.running = s.cu.running)
    (mode : t.wbp.mode = s.wbp.mode) : RunsOn s t where
  config ht := sc ▸ ht
  profile := by rw [sc]
  valid := by rw [sc]
  timer := timer
  picture shows ht := by rw [sc]; exact shows (mode ▸ ht)

/-- A running station runs on. -/
theorem running {s t : State} (h : RunsOn s t) (hs : s.sc.state ≠ .config) : t.sc.state ≠ .config :=
  fun ht => hs (h.config ht)

end RunsOn

/-! ### The operations -/

/-- A frame that turns BLACK with its station leaves PICTURE to SHOWING (R120). -/
theorem TurnsBlack.pictureOnlyShowing {s t : State} (h : TurnsBlack s t) (shows : PictureOnlyShowing s) :
    PictureOnlyShowing t := by
  intro picture
  obtain ⟨wbp, -⟩ := h
  by_contra hidden
  by_cases mode : s.wbp.mode = .picture
  · have moved : t.sc.state ≠ s.sc.state := fun h => hidden (h.trans (shows mode))
    rw [wbp] at picture
    simp [mode, moved, hidden] at picture
  · rw [wbp] at picture
    simp [mode] at picture

theorem setState_runsOn {st : ShowState} (running : st ≠ .config) (s : State) : RunsOn s (setState st s) where
  config h := absurd (by rw [setState_frame] at h; exact h) running
  profile := by simp
  valid := by simp
  timer := by simp
  picture := (setState_turnsBlack st s).pictureOnlyShowing

theorem joiningTest_runsOn (s : State) : RunsOn s (joiningTest s) := by
  obtain h | ⟨-, -, -, h⟩ := joiningTest_cases s
  · rw [h]; exact .refl s
  · rw [h]
    exact (setState_runsOn (joiningExit_ne_config s) s).trans (.of_stands (.modSc rfl rfl rfl id))

theorem lockTest_runsOn (b s : State) : RunsOn s (lockTest b s) := by
  unfold lockTest
  split
  · exact .refl s
  · exact joiningTest_runsOn s

theorem lampTest_runsOn (s : State) : RunsOn s (lampTest s) := by
  unfold lampTest
  split
  · exact setState_runsOn (joiningExit_ne_config s) s
  · split
    · split
      · exact (setState_runsOn (by nofun) s).trans (.of_blocks rfl rfl rfl)
      · exact .refl s
    · split
      · exact setState_runsOn (by nofun) s
      · exact .refl s
    · exact joiningTest_runsOn s
    · exact .refl s
    · exact .refl s

theorem recomputeView_runsOn (s : State) : RunsOn s (recomputeView s) :=
  .of_blocks (by simp) (by simp) (by simp)

theorem changeEntry_runsOn (n : StationNo) (e : PeerEntry) (s : State) : RunsOn s (changeEntry n e s) :=
  .of_blocks (by simp) (by simp) (by simp)

theorem weighIfChanged_runsOn (b s : State) : RunsOn s (weighIfChanged b s) := by
  refine .of_blocks (by simp) ?_ (by simp)
  unfold weighIfChanged
  split
  · rfl
  · exact chooseReference_running ..

theorem hearPeer_runsOn (s : State) : RunsOn s (hearPeer s) := by
  refine .of_blocks (by simp) ?_ (by simp)
  unfold hearPeer
  dsimp only
  split
  · split
    · exact chooseReference_running ..
    · rfl
  · rfl

theorem Acts.runsOn {n : StationNo} {act : State → State} (h : Acts n act) (s : State) : RunsOn s (act s) := by
  rw [h.frame s]
  exact .of_blocks rfl rfl rfl

theorem Hands.runsOn {handOn : State → State} (h : Hands handOn) (s : State) : RunsOn s (handOn s) := by
  refine .of_blocks ?_ (h.timer s) ?_ <;> rw [h.frame s]

theorem deliverMessage_runsOn {n : StationNo} {act handOn : State → State} (acts : Acts n act) (hands : Hands handOn)
    (s : State) : RunsOn s (deliverMessage act handOn s) :=
  have viewed := ((hearPeer_runsOn s).trans (acts.runsOn _)).trans (recomputeView_runsOn _)
  ((viewed.trans (weighIfChanged_runsOn ..)).trans (hands.runsOn _)).trans (lockTest_runsOn ..)

theorem joinTick_frame (c : Station) : joinTick c =
    { c with joinCount := (joinTick c).joinCount, lockTimeoutCount := (joinTick c).lockTimeoutCount } := by
  unfold joinTick
  (repeat' split) <;> rfl

/-- The join counts move nothing else of the station (R11). -/
theorem joinTick_stands (s : State) : Stands s (s.modSc joinTick) :=
  .modSc (by rw [joinTick_frame]) (by rw [joinTick_frame]) (by rw [joinTick_frame]) (by rw [joinTick_frame]; exact id)

theorem frameCounted_runsOn (s : State) : RunsOn s s.frameCounted :=
  have counted : RunsOn s ((silenceTick (s.modCu frameCounts)).modLs (lampFrameStart s.now)) :=
    .of_blocks (by simp) (by simp [frameCounts]) (by simp)
  counted.trans (.of_stands (joinTick_stands _))

theorem frameTested_runsOn (order : SameInstant) (s : State) : RunsOn s (s.frameTested order) := by
  have tested (u : State) : RunsOn u (joiningTest (promote u)) :=
    (joiningTest_runsOn _).after (.of_blocks (by simp) (by simp) (by simp))
  unfold State.frameTested
  split
  · exact (frameCounted_runsOn s).trans (tested _)
  · exact (frameCounted_runsOn s).trans ((tested _).after (.of_stands (beginOutputFrame_stands _)))

theorem frameStartRunning_runsOn (order : SameInstant) (s : State) : RunsOn s (frameStartRunning order s) := by
  have pulsed (p : PulseRequest) (u : State) : RunsOn u (requestPulse p u) := .of_blocks rfl rfl rfl
  rw [frameStartRunning_eq]
  split
  · exact ((frameTested_runsOn order s).trans (pulsed ..)).trans (.of_stands (beginOutputFrame_stands _))
  · exact (frameTested_runsOn order s).trans (pulsed ..)

theorem takeSilent_runsOn (n : StationNo) (order : SameInstant) (s : State) : RunsOn s (takeSilent n order s) :=
  have viewed := (changeEntry_runsOn n { s.pt.entry n with status := .silent } s).trans (recomputeView_runsOn _)
  ((viewed.trans (weighIfChanged_runsOn s _)).trans (lockTest_runsOn ..)).trans (.of_stands (applyOrder_stands ..))

theorem takeIsolated_runsOn (order : SameInstant) (s : State) : RunsOn s (takeIsolated order s) :=
  .after (.trans (lockTest_runsOn ..) (.of_stands (applyOrder_stands ..))) (.of_blocks rfl rfl rfl)

theorem becomeReference_runsOn (order : SameInstant) (s : State) : RunsOn s (becomeReference order s) :=
  .after (.trans (lockTest_runsOn ..) (.of_stands (applyOrder_stands ..)))
    (.of_blocks rfl (setReference_running ..) rfl)

theorem takeLockTimeout_runsOn (order : SameInstant) (s : State) : RunsOn s (takeLockTimeout order s) :=
  .after (.trans (joiningTest_runsOn _) (.of_stands (applyOrder_stands ..)))
    ⟨id, rfl, rfl, rfl, id⟩

theorem takePassComplete_runsOn (s : State) : RunsOn s (takePassComplete s) :=
  (recomputeView_runsOn _).after (.of_blocks (by simp) (by simp) (by simp))

theorem formAverage_runsOn (s : State) : RunsOn s (formAverage s) := by
  have averaged (f : State → State) (sc : ∀ u, (f u).sc = u.sc) (cu : ∀ u, (f u).cu = u.cu)
      (wbp : ∀ u, (f u).wbp = u.wbp) : RunsOn s (announceLamp s.ls.lAnn (f (s.modLs (averageLamp s.profile)))) := by
    have formed : RunsOn s (f (s.modLs (averageLamp s.profile))) :=
      .of_blocks (sc _) (by rw [cu]; rfl) (by rw [wbp]; rfl)
    unfold announceLamp
    split
    · exact formed
    · exact (formed.trans (recomputeView_runsOn _)).trans (lampTest_runsOn _)
  unfold formAverage
  dsimp only
  split
  · exact averaged raiseFault (fun _ => rfl) (fun _ => rfl) (fun _ => rfl)
  · exact averaged id (fun _ => rfl) (fun _ => rfl) (fun _ => rfl)

theorem stopShow_runsOn (s : State) : RunsOn s (stopShow s) :=
  (setState_runsOn (by nofun) s).trans (.of_blocks rfl rfl rfl)

theorem startShow_runsOn (s : State) : RunsOn s (startShow s) := by
  have joined : RunsOn s ((setState .joining s).modSc fun c =>
      { c with joinCount := 0, lockTimeoutCount := 0, lockWaived := false }) :=
    (setState_runsOn (by nofun) s).trans ⟨id, rfl, rfl, rfl, id⟩
  refine joined.trans (.of_blocks ?_ ?_ ?_) <;> simp [startShow, formViewAfresh, cadenceStart]

theorem startShow_state (s : State) : (startShow s).sc.state = .joining := by
  simp only [startShow, formViewAfresh]
  rw [engineViewChange_frame, setState_frame]
  rfl

/-! ### O57 -/

/-- The three standing statements of a station in agreement (R8, R30, R35, R120). -/
def StationSound (s : State) : Prop := TimerRuns s ∧ QuietInConfig s ∧ PictureOnlyShowing s

/-- A station outside CONFIG with a valid profile stays sound while it runs on. -/
theorem RunsOn.stationSound {s t : State} (h : RunsOn s t) (running : t.sc.state ≠ .config)
    (valid : s.sc.profileValid = true) (sound : StationSound s) : StationSound t := by
  obtain ⟨⟨timer, -⟩, -, shows⟩ := sound
  exact ⟨⟨h.timer.trans (timer.trans h.valid.symm), fun _ => h.valid.trans valid⟩, fun hc => absurd hc running,
    h.picture shows⟩

theorem running_iff {s : State} : s.running = true ↔ s.sc.state ≠ .config := by
  unfold State.running
  cases s.sc.state <;> simp [ShowState.running]

theorem Stands.stationSound {s t : State} (h : Stands s t) (sound : StationSound s) : StationSound t := by
  obtain ⟨⟨timer, valid⟩, quiet, shows⟩ := sound
  refine ⟨⟨h.timer.trans (timer.trans h.valid.symm), fun running => ?_⟩, fun config => ?_,
    (RunsOn.of_stands h).picture shows⟩
  · rw [running_iff, h.state] at running
    exact h.valid.trans (valid (running_iff.mpr running))
  · rw [h.state] at config
    exact h.quiet config (quiet config)

theorem enterConfig_stationSound {s : State} (sound : StationSound s) : StationSound (enterConfig s) := by
  obtain ⟨⟨timer, -⟩, -⟩ := sound
  obtain ⟨config, sc, slc, -, cu, -, -, wbp, -⟩ := enterConfig_enters s
  refine ⟨⟨?_, fun running => absurd config (running_iff.mp running)⟩, fun _ => ?_, fun picture => ?_⟩
  · rw [cu, sc]
    exact timer
  · rw [slc]
    exact ⟨rfl, rfl⟩
  · rw [wbp] at picture
    split at picture <;> cases picture

/-- An accepted PROFILE starts the timer as it marks the profile valid, and begins a BLACK frame (R6, R8, R120). -/
theorem acceptProfile_stationSound {r : RawProfile} {s : State} (config : s.sc.state = .config)
    (sound : StationSound s) : StationSound (acceptProfile r s) := by
  obtain ⟨-, quiet, -⟩ := sound
  refine ⟨⟨?_, fun _ => ?_⟩, fun _ => ?_, fun picture => ?_⟩
  · rw [acceptProfile_cu, acceptProfile_sc]
    rfl
  · rw [acceptProfile_sc]
  · have slc : (acceptProfile r s).slc = s.slc := by rw [acceptProfile_rest]
    rw [slc]
    exact quiet config
  · rw [acceptProfile_wbp r s config] at picture
    cases picture

theorem Effect.stationSound {s t : State} (h : Effect s t) (sound : StationSound s) : StationSound t := by
  have valid (running : s.sc.state ≠ .config) : s.sc.profileValid = true := sound.1.2 (running_iff.mpr running)
  have kept {u : State} (runs : RunsOn s u) (running : s.sc.state ≠ .config) : StationSound u :=
    runs.stationSound (runs.running running) (valid running) sound
  cases h with
  | profile config _ => exact acceptProfile_stationSound config sound
  | start _ valid => exact (startShow_runsOn s).stationSound (by simp [startShow_state]) valid sound
  | stop running => exact kept (stopShow_runsOn s) running
  | config => exact enterConfig_stationSound sound
  | held => exact ⟨⟨rfl, nofun⟩, fun _ => ⟨rfl, rfl⟩, nofun⟩
  | frame running => exact kept (frameStartRunning_runsOn ..) running
  | message running _ acts hands => exact kept (deliverMessage_runsOn acts hands s) running
  | silent due => exact kept (takeSilent_runsOn ..) (ne_config_of_running (by simp_all [State.silentDue]))
  | isolated due => exact kept (takeIsolated_runsOn ..) (ne_config_of_running (by simp_all [State.isolatedDue]))
  | reference running _ => exact kept (becomeReference_runsOn ..) running
  | lockTimeout joining => exact kept (takeLockTimeout_runsOn ..) (by simp [joining])
  | pass running => exact kept (takePassComplete_runsOn s) running
  | average running => exact kept (formAverage_runsOn s) running

/-- Settles O57: by what stands (`Stands`) and what each effect does (`RunsOn`). -/
theorem stationKept : Obligations.StationKept := by
  unfold Obligations.StationKept
  intro s t timer quiet shows next
  exact (step_takes next).keeps Stands.stationSound Effect.stationSound ⟨timer, quiet, shows⟩

end Sys2Proof.Machine

/-! SUPPORT. The profile and the announced luminance through one step (R4, R9, R142). -/

namespace Sys2Proof.Machine

/-! ### The lamp's figures and K_local -/

/-- From `s` to `t` the lamp's figures and K_local stay, and the mesh lists no more coverers (R19, R106, R136). -/
structure KeepsFigures (s t : State) : Prop where
  l0 : t.ls.l0 = s.ls.l0
  l1 : t.ls.l1 = s.ls.l1
  lMeas : t.ls.lMeas = s.ls.lMeas
  lAnn : t.ls.lAnn = s.ls.lAnn
  kLocal : t.we.kLocal = s.we.kLocal
  narrow : s.mt.Narrow → t.mt.Narrow

namespace KeepsFigures

theorem of_stands {s t : State} (h : Stands s t) : KeepsFigures s t :=
  ⟨h.l0, h.l1, h.lMeas, h.lAnn, h.kLocal, h.narrow⟩

theorem trans {s t u : State} (h : KeepsFigures s t) (k : KeepsFigures t u) : KeepsFigures s u :=
  ⟨k.l0.trans h.l0, k.l1.trans h.l1, k.lMeas.trans h.lMeas, k.lAnn.trans h.lAnn, k.kLocal.trans h.kLocal,
    k.narrow ∘ h.narrow⟩

/-- What leaves the sampler, K_local and the mesh alone. -/
theorem of_blocks {s t : State} (ls : t.ls = s.ls) (kLocal : t.we.kLocal = s.we.kLocal) (mt : t.mt = s.mt) :
    KeepsFigures s t :=
  ⟨by rw [ls], by rw [ls], by rw [ls], by rw [ls], kLocal, fun h => mt ▸ h⟩

end KeepsFigures

theorem engineViewChange_kLocal (s : State) : (engineViewChange s).we.kLocal = s.we.kLocal := by
  unfold engineViewChange
  (repeat' split) <;> rfl

theorem recomputeView_kLocal (s : State) : (recomputeView s).we.kLocal = s.we.kLocal := (recomputeView_engine s).2

theorem lockTest_figures (b s : State) : KeepsFigures s (lockTest b s) := by
  rw [lockTest_rest]
  exact .of_blocks rfl rfl rfl

theorem Acts.figures {n : StationNo} {act : State → State} (h : Acts n act) (s : State) : KeepsFigures s (act s) := by
  rw [h.frame s]
  exact .of_blocks rfl rfl rfl

theorem Hands.figures {handOn : State → State} (h : Hands handOn) (s : State) : KeepsFigures s (handOn s) := by
  rw [h.frame s]
  exact .of_blocks rfl rfl rfl

theorem recomputeView_figures (s : State) : KeepsFigures s (recomputeView s) :=
  .of_blocks (by simp) (recomputeView_kLocal s) (by simp)

theorem weighIfChanged_figures (b s : State) : KeepsFigures s (weighIfChanged b s) :=
  .of_blocks (by simp) (by simp) (by simp)

theorem deliverMessage_figures {n : StationNo} {act handOn : State → State} (acts : Acts n act)
    (hands : Hands handOn) (s : State) : KeepsFigures s (deliverMessage act handOn s) :=
  have heard : KeepsFigures s (hearPeer s) := .of_blocks (by simp) (by simp) (by simp)
  have viewed := (heard.trans (acts.figures _)).trans (recomputeView_figures _)
  ((viewed.trans (weighIfChanged_figures ..)).trans (hands.figures _)).trans (lockTest_figures ..)

theorem takeSilent_figures (n : StationNo) (order : SameInstant) (s : State) :
    KeepsFigures s (takeSilent n order s) :=
  have changed : KeepsFigures s (changeEntry n { s.pt.entry n with status := .silent } s) :=
    .of_blocks (by simp) (by simp) (by simp)
  have weighed := (changed.trans (recomputeView_figures _)).trans (weighIfChanged_figures s _)
  (weighed.trans (lockTest_figures ..)).trans (.of_stands (applyOrder_stands ..))

theorem takeIsolated_figures (order : SameInstant) (s : State) : KeepsFigures s (takeIsolated order s) :=
  have held : KeepsFigures s
      ((raiseFault (s.modPt fun t => { t with condition := .isolated })).modCu (toHold s.profile.period)) :=
    .of_blocks rfl rfl rfl
  (held.trans (lockTest_figures ..)).trans (.of_stands (applyOrder_stands ..))

theorem becomeReference_figures (order : SameInstant) (s : State) : KeepsFigures s (becomeReference order s) :=
  have led : KeepsFigures s (s.modCu (toReference s.profile.station s.profile.period)) := .of_blocks rfl rfl rfl
  (led.trans (lockTest_figures ..)).trans (.of_stands (applyOrder_stands ..))

theorem joiningTest_figures (s : State) : KeepsFigures s (joiningTest s) := .of_blocks (by simp) (by simp) (by simp)

theorem takeLockTimeout_figures (order : SameInstant) (s : State) : KeepsFigures s (takeLockTimeout order s) :=
  have waived : KeepsFigures s (s.modSc fun c => { c with lockWaived := true }) := .of_blocks rfl rfl rfl
  (waived.trans (joiningTest_figures _)).trans (.of_stands (applyOrder_stands ..))

theorem stopShow_figures (s : State) : KeepsFigures s (stopShow s) :=
  have stopping : KeepsFigures s (setState .stopping s) := .of_blocks (by simp) (by simp) (by simp)
  stopping.trans (.of_blocks rfl rfl rfl)

theorem frameCounted_figures (s : State) : KeepsFigures s s.frameCounted := by
  have begun : KeepsFigures s (s.modLs (lampFrameStart s.now)) := by
    constructor
    case kLocal => rfl
    case narrow => exact id
    all_goals simp only [State.modLs_ls, lampFrameStart]; split <;> rfl
  refine ⟨?_, ?_, ?_, ?_, ?_, fun h => ?_⟩
  · simpa [State.frameCounted] using begun.l0
  · simpa [State.frameCounted] using begun.l1
  · simpa [State.frameCounted] using begun.lMeas
  · simpa [State.frameCounted] using begun.lAnn
  · simp [State.frameCounted]
  · simpa [State.frameCounted] using h

theorem frameTested_figures (order : SameInstant) (s : State) : KeepsFigures s (s.frameTested order) := by
  have tested (u : State) : KeepsFigures u (joiningTest (promote u)) :=
    .trans (.of_blocks (by simp) (promote_kLocal u) (by simp)) (joiningTest_figures _)
  unfold State.frameTested
  split
  · exact (frameCounted_figures s).trans (tested _)
  · exact ((frameCounted_figures s).trans (.of_stands (beginOutputFrame_stands _))).trans (tested _)

theorem frameStartRunning_figures (order : SameInstant) (s : State) : KeepsFigures s (frameStartRunning order s) := by
  have pulsed (p : PulseRequest) (u : State) : KeepsFigures u (requestPulse p u) := .of_blocks rfl rfl rfl
  rw [frameStartRunning_eq]
  split
  · exact ((frameTested_figures order s).trans (pulsed ..)).trans (.of_stands (beginOutputFrame_stands _))
  · exact (frameTested_figures order s).trans (pulsed ..)

theorem takePassComplete_ls (s : State) : (takePassComplete s).ls = s.ls := by simp [takePassComplete]

/-! ### What START and the average leave of the figures (R9, R140 to R142) -/

/-- A START clears the figures (R134). -/
theorem startShow_ls (s : State) : (startShow s).ls = lampStart s.now s.ls := by simp [startShow, formViewAfresh]

theorem lampStart_figures (now : Nat) (l : Lamp) :
    (lampStart now l).l0 = 0 ∧ (lampStart now l).l1 = 0 ∧ (lampStart now l).lMeas = 0 ∧ (lampStart now l).lAnn = 0 := by
  unfold lampStart
  dsimp only
  (repeat' split) <;> exact ⟨rfl, rfl, rfl, rfl⟩

theorem lampTest_ls (s : State) : (lampTest s).ls = s.ls := by
  unfold lampTest
  (repeat' split) <;> simp [requestLeave, modQueue_frame]

/-- The sampler of the four-sequence average is its figures' alone (R140). -/
theorem formAverage_ls (s : State) : (formAverage s).ls = averageLamp s.profile s.ls := by
  have announced (before : Nat) (u : State) : (announceLamp before u).ls = u.ls := by
    unfold announceLamp
    split
    · rfl
    · rw [lampTest_ls, recomputeView_ls]
  unfold formAverage
  dsimp only
  rw [announced]
  split <;> rfl

/-- What L_ann becomes lies within L_step of L_meas (R142). -/
theorem announced_near {p : Profile} (step : 0 < p.lStep) (meas ann : Nat) :
    ((meas : Int) - ((if announces p meas ann then meas else ann : Nat) : Int)).natAbs < p.lStep := by
  split
  · simpa using step
  · next quiet =>
    simp only [announces, Bool.or_eq_true, decide_eq_true_eq, not_or, not_le] at quiet
    exact quiet.1.1

theorem averageLamp_near {p : Profile} (step : 0 < p.lStep) (l : Lamp) :
    (((averageLamp p l).lMeas : Int) - ((averageLamp p l).lAnn : Int)).natAbs < p.lStep := announced_near step ..

/-! ### O59 -/

/-- The two standing statements of profile and luminance (R4, R5, R9, R142). -/
def ProfileHeld (s : State) : Prop := ProfileSound s ∧ AnnouncedNearMeasured s

theorem Stands.profileHeld {s t : State} (h : Stands s t) (held : ProfileHeld s) : ProfileHeld t := by
  obtain ⟨⟨ranges, valid⟩, near⟩ := held
  have running (ht : t.running = true) : s.running = true := by rwa [running_iff, ← h.state, ← running_iff]
  refine ⟨⟨fun ht => ?_, fun ht => ?_⟩, fun ht => ?_⟩
  · rw [State.profile, h.profile]
    exact ranges (h.valid.symm.trans ht)
  · exact h.valid.trans (valid (running ht))
  · rw [h.lMeas, h.lAnn, State.profile, h.profile]
    exact near (running ht)

/-- A station with a valid profile stays sound while it runs on, where its luminance is announced. -/
theorem RunsOn.profileHeld {s t : State} (h : RunsOn s t) (valid : s.sc.profileValid = true) (sound : ProfileSound s)
    (near : ((t.ls.lMeas : Int) - (t.ls.lAnn : Int)).natAbs < s.profile.lStep) : ProfileHeld t := by
  refine ⟨⟨fun _ => ?_, fun _ => h.valid.trans valid⟩, fun _ => ?_⟩
  · rw [State.profile, h.profile]
    exact sound.1 valid
  · rw [State.profile, h.profile]
    exact near

theorem enterConfig_profileHeld {s : State} (sound : ProfileSound s) : ProfileHeld (enterConfig s) := by
  obtain ⟨config, sc, -⟩ := enterConfig_enters s
  refine ⟨⟨fun valid => ?_, fun running => absurd config (running_iff.mp running)⟩,
    fun running => absurd config (running_iff.mp running)⟩
  rw [sc] at valid
  rw [State.profile, sc]
  exact sound.1 valid

theorem acceptProfile_profileHeld {r : RawProfile} {s : State} (config : s.sc.state = .config)
    (sound : structuralFault r = none) : ProfileHeld (acceptProfile r s) := by
  have stays : (acceptProfile r s).sc.state = .config := by rw [acceptProfile_sc]; exact config
  refine ⟨⟨fun _ => ?_, fun running => absurd stays (running_iff.mp running)⟩,
    fun running => absurd stays (running_iff.mp running)⟩
  rw [State.profile, acceptProfile_sc]
  exact clampProfile_inRange ((structuralFault_eq_none_iff r).mp sound)

theorem Effect.profileHeld {s t : State} (h : Effect s t) (held : ProfileHeld s) : ProfileHeld t := by
  obtain ⟨sound, near⟩ := held
  have valid (running : s.sc.state ≠ .config) : s.sc.profileValid = true := sound.2 (running_iff.mpr running)
  have step (valid : s.sc.profileValid = true) : 0 < s.profile.lStep := by
    obtain ⟨-, -, -, -, -, -, -, -, -, -, -, ⟨least, -⟩, -⟩ := sound.1 valid
    omega
  have kept {u : State} (runs : RunsOn s u) (lMeas : u.ls.lMeas = s.ls.lMeas) (lAnn : u.ls.lAnn = s.ls.lAnn)
      (running : s.sc.state ≠ .config) : ProfileHeld u :=
    runs.profileHeld (valid running) sound (by rw [lMeas, lAnn]; exact near (running_iff.mpr running))
  have keptFigures {u : State} (runs : RunsOn s u) (figures : KeepsFigures s u) (running : s.sc.state ≠ .config) :
      ProfileHeld u := kept runs figures.lMeas figures.lAnn running
  cases h with
  | profile config fits => exact acceptProfile_profileHeld config fits
  | start _ valid =>
    obtain ⟨-, -, lMeas, lAnn⟩ := lampStart_figures s.now s.ls
    exact (startShow_runsOn s).profileHeld valid sound (by rw [startShow_ls, lMeas, lAnn]; exact step valid)
  | stop running => exact keptFigures (stopShow_runsOn s) (stopShow_figures s) running
  | config => exact enterConfig_profileHeld sound
  | held => exact ⟨⟨nofun, nofun⟩, nofun⟩
  | frame running => exact keptFigures (frameStartRunning_runsOn ..) (frameStartRunning_figures ..) running
  | message running _ acts hands =>
    exact keptFigures (deliverMessage_runsOn acts hands s) (deliverMessage_figures acts hands s) running
  | silent due =>
    exact keptFigures (takeSilent_runsOn ..) (takeSilent_figures ..)
      (ne_config_of_running (by simp_all [State.silentDue]))
  | isolated due =>
    exact keptFigures (takeIsolated_runsOn ..) (takeIsolated_figures ..)
      (ne_config_of_running (by simp_all [State.isolatedDue]))
  | reference running _ => exact keptFigures (becomeReference_runsOn ..) (becomeReference_figures ..) running
  | lockTimeout joining =>
    exact keptFigures (takeLockTimeout_runsOn ..) (takeLockTimeout_figures ..) (by simp [joining])
  | pass running =>
    exact kept (takePassComplete_runsOn s) (by rw [takePassComplete_ls]) (by rw [takePassComplete_ls]) running
  | average running =>
    refine (formAverage_runsOn s).profileHeld (valid running) sound ?_
    rw [formAverage_ls]
    exact averageLamp_near (step (valid running)) _

/-- Settles O59: by what stands (`Stands`), and by each effect's figures (`KeepsFigures`, `averageLamp_near`). -/
theorem profileKept : Obligations.ProfileKept := by
  unfold Obligations.ProfileKept
  intro s t sound near next
  exact (step_takes next).keeps Stands.profileHeld Effect.profileHeld ⟨sound, near⟩

end Sys2Proof.Machine

/-! SUPPORT. Lock state, table condition and station state in agreement through one step (R3, R10, R69, R81, R82, R84). -/

namespace Sys2Proof.Machine

/-! ### Agreement of a running station -/

/-- What R69, R81 and R82 say of the Cadence Unit of a running station. -/
structure State.LockAgrees (s : State) : Prop where
  ne_idle : s.cu.lock ≠ .idle
  hold : s.cu.lock = .hold ↔ s.pt.condition = .isolated
  reference : s.cu.lock = .reference → s.cu.reference = some s.profile.station

namespace State.LockAgrees

/-- In a NORMAL table a Cadence Unit agrees where it is led. -/
theorem of_led {s : State} (normal : s.pt.condition = .normal) (led : s.cu.Led s.profile.station) : s.LockAgrees :=
  ⟨led.ne_idle, by simp [normal, led.ne_hold], led.reference⟩

theorem led {s : State} (h : s.LockAgrees) (normal : s.pt.condition = .normal) : s.cu.Led s.profile.station :=
  ⟨h.ne_idle, fun hold => absurd (h.hold.mp hold) (by simp [normal]), h.reference⟩

theorem congr {s t : State} (h : s.LockAgrees) (lock : t.cu.lock = s.cu.lock)
    (reference : t.cu.reference = s.cu.reference) (condition : t.pt.condition = s.pt.condition)
    (profile : t.sc.profile = s.sc.profile) : t.LockAgrees where
  ne_idle := lock ▸ h.ne_idle
  hold := by rw [lock, condition]; exact h.hold
  reference ht := by
    rw [reference, State.profile, profile]
    exact h.reference (lock ▸ ht)

theorem of_coherent {s : State} (h : LockCoherent s) (running : s.sc.state ≠ .config) : s.LockAgrees :=
  ⟨fun idle => running (h.1.mp idle), h.2.1, h.2.2⟩

end State.LockAgrees

/-- The two standing statements about the lock (R3, R10, R69, R81, R82, R84). -/
def LockHeld (s : State) : Prop := LockCoherent s ∧ TransitionsMade s

theorem lockHeld_of_agrees {s : State} (running : s.sc.state ≠ .config) (agrees : s.LockAgrees)
    (made : TransitionsMade s) : LockHeld s :=
  ⟨⟨⟨fun idle => absurd idle agrees.ne_idle, fun config => absurd config running⟩, agrees.hold, agrees.reference⟩, made⟩

/-- An IDLE Cadence Unit in CONFIG, its table NORMAL. -/
theorem lockHeld_of_config {s : State} (config : s.sc.state = .config) (idle : s.cu.lock = .idle)
    (normal : s.pt.condition = .normal) : LockHeld s :=
  ⟨⟨by simp [idle, config], by simp [idle, normal], by simp [idle]⟩, by simp [TransitionsMade, config]⟩

/-! ### Transitions made -/

theorem TransitionsMade.congr {s t : State} (made : TransitionsMade s) (state : t.sc.state = s.sc.state)
    (lock : t.cu.lock = s.cu.lock) (waived : t.sc.lockWaived = true → s.sc.lockWaived = true)
    (promoted : t.we.promoted = s.we.promoted) : TransitionsMade t := by
  rintro joining ⟨met, table⟩
  refine made (state ▸ joining) ⟨?_, promoted ▸ table⟩
  simp only [State.lockMet, lock, Bool.or_eq_true] at met ⊢
  exact met.imp_right waived

/-- The JOINING test leaves no station in JOINING that could leave it (R3, R10). -/
theorem transitionsMade_joiningTest (s : State) : TransitionsMade (joiningTest s) := by
  intro joining
  obtain ⟨state, -⟩ := joiningTest_state s
  have met : (joiningTest s).lockMet = s.lockMet := by simp [State.lockMet]
  rw [met, joiningTest_we]
  rintro ⟨met, table⟩
  rw [state] at joining
  split at joining
  · split at joining <;> cases joining
  · next stays => exact stays ⟨joining, met, table⟩

/-- A test on a moved lock makes the transition that the move makes possible (R10, R83). -/
theorem transitionsMade_lockTest {b s : State} (made : TransitionsMade b) (sc : s.sc = b.sc)
    (promoted : s.we.promoted = b.we.promoted) : TransitionsMade (lockTest b s) := by
  unfold lockTest
  split
  · next same => exact made.congr (by rw [sc]) same.symm (by rw [sc]; exact id) promoted
  · exact transitionsMade_joiningTest s

theorem transitionsMade_of_ne_joining {s : State} (h : s.sc.state ≠ .joining) : TransitionsMade s :=
  fun joining => absurd joining h

theorem transitionsMade_lampTest {s : State} (made : TransitionsMade s) : TransitionsMade (lampTest s) := by
  have moved (st : ShowState) (h : st ≠ .joining) : TransitionsMade (setState st s) :=
    transitionsMade_of_ne_joining (by rw [setState_frame]; exact h)
  have leaves : s.joiningExit ≠ .joining := by unfold State.joiningExit; split <;> nofun
  unfold lampTest
  split
  · exact moved _ leaves
  · split
    · split
      · exact moved .dark nofun
      · exact made
    · split
      · exact moved .showing nofun
      · exact made
    · exact transitionsMade_joiningTest s
    · exact made
    · exact made

theorem Stands.transitionsMade {s t : State} (h : Stands s t) (made : TransitionsMade s) : TransitionsMade t :=
  made.congr h.state h.lock h.waived h.promoted

theorem Stands.lockAgrees {s t : State} (h : Stands s t) (agrees : s.LockAgrees) : t.LockAgrees :=
  agrees.congr h.lock h.reference (by rw [h.pt]) h.profile

theorem Stands.lockHeld {s t : State} (h : Stands s t) (held : LockHeld s) : LockHeld t := by
  obtain ⟨coherent, made⟩ := held
  refine ⟨?_, h.transitionsMade made⟩
  simp only [LockCoherent, State.profile, h.lock, h.state, h.pt, h.reference, h.profile]
  exact coherent

/-! ### What the parts of a delivery do -/

/-- What each part of a delivery keeps, from `s` to `t`, of what its JOINING test reads, and of a led Cadence Unit. -/
structure KeepsLed (s t : State) : Prop where
  sc : t.sc = s.sc
  promoted : t.we.promoted = s.we.promoted
  condition : t.pt.condition = s.pt.condition
  led : s.cu.Led s.profile.station → t.cu.Led s.profile.station

namespace KeepsLed

theorem trans {s t u : State} (h : KeepsLed s t) (k : KeepsLed t u) : KeepsLed s u where
  sc := k.sc.trans h.sc
  promoted := k.promoted.trans h.promoted
  condition := k.condition.trans h.condition
  led hs := by
    have ht := k.led (by rw [State.profile, h.sc]; exact h.led hs)
    rwa [State.profile, h.sc] at ht

theorem of_blocks {s t : State} (sc : t.sc = s.sc) (cu : t.cu = s.cu) (promoted : t.we.promoted = s.we.promoted)
    (condition : t.pt.condition = s.pt.condition) : KeepsLed s t :=
  ⟨sc, promoted, condition, fun h => cu ▸ h⟩

/-- A led Cadence Unit in a NORMAL table agrees after a test on its lock. -/
theorem lockAgrees {s t : State} (h : KeepsLed s t) (normal : s.pt.condition = .normal)
    (led : s.cu.Led s.profile.station) (b : State) : (lockTest b t).LockAgrees := by
  have agrees : t.LockAgrees := .of_led (h.condition.trans normal) (by rw [State.profile, h.sc]; exact h.led led)
  exact agrees.congr (by simp) (by simp) (by simp) (by simp)

end KeepsLed

theorem recomputeView_keepsLed (s : State) : KeepsLed s (recomputeView s) :=
  .of_blocks (by simp) (by simp) (recomputeView_keepsHeard s).promoted (by simp)

theorem changeEntry_keepsLed (n : StationNo) (e : PeerEntry) (s : State) : KeepsLed s (changeEntry n e s) :=
  .of_blocks (by simp) (by simp) (by simp) (by simp)

theorem weighIfChanged_keepsLed (b s : State) : KeepsLed s (weighIfChanged b s) := by
  unfold weighIfChanged
  split
  · exact .of_blocks rfl rfl rfl rfl
  · exact ⟨rfl, rfl, rfl, chooseReference_led⟩

theorem Acts.keepsLed {n : StationNo} {act : State → State} (h : Acts n act) (s : State) : KeepsLed s (act s) := by
  rw [h.frame s]
  exact .of_blocks rfl rfl rfl rfl

theorem Hands.keepsLed {handOn : State → State} (h : Hands handOn) (s : State) : KeepsLed s (handOn s) := by
  refine ⟨?_, ?_, ?_, h.led s⟩ <;> rw [h.frame s]

/-- A table that hears a peer is NORMAL, and its Cadence Unit led (R61, R81). -/
theorem hearPeer_led {s : State} (agrees : s.LockAgrees) : (hearPeer s).cu.Led s.profile.station := by
  cases condition : s.pt.condition with
  | normal =>
    have cu : (hearPeer s).cu = s.cu := by simp [hearPeer, condition]
    rw [cu]
    exact agrees.led condition
  | isolated =>
    have hold := agrees.hold.mpr condition
    rw [hearPeer_of_isolated condition hold]
    exact .of_lock (.inl rfl)

/-! ### The effects -/

section

variable {s : State} (agrees : s.LockAgrees) (made : TransitionsMade s)

include agrees made in
theorem deliverMessage_lockHeld {n : StationNo} {act handOn : State → State} (acts : Acts n act)
    (hands : Hands handOn) : (deliverMessage act handOn s).LockAgrees ∧ TransitionsMade (deliverMessage act handOn s) := by
  have handed : KeepsLed (hearPeer s) (handOn (weighIfChanged (hearPeer s) (recomputeView (act (hearPeer s))))) :=
    (((acts.keepsLed _).trans (recomputeView_keepsLed _)).trans (weighIfChanged_keepsLed ..)).trans (hands.keepsLed _)
  have normal : (hearPeer s).pt.condition = .normal := by rw [hearPeer_frame]
  have led : (hearPeer s).cu.Led (hearPeer s).profile.station := by
    rw [State.profile, hearPeer_sc]
    exact hearPeer_led agrees
  exact ⟨handed.lockAgrees normal led s, transitionsMade_lockTest made (handed.sc.trans (hearPeer_sc s))
    (handed.promoted.trans (by simp))⟩

include agrees made in
theorem takeSilent_lockHeld (n : StationNo) (order : SameInstant) (normal : s.pt.condition = .normal) :
    (takeSilent n order s).LockAgrees ∧ TransitionsMade (takeSilent n order s) := by
  have weighed : KeepsLed s (weighIfChanged s
      (recomputeView (changeEntry n { s.pt.entry n with status := .silent } s))) :=
    ((changeEntry_keepsLed ..).trans (recomputeView_keepsLed _)).trans (weighIfChanged_keepsLed ..)
  have stands := applyOrder_stands order s (lockTest s (weighIfChanged s
      (recomputeView (changeEntry n { s.pt.entry n with status := .silent } s))))
  exact ⟨stands.lockAgrees (weighed.lockAgrees normal (agrees.led normal) s),
    stands.transitionsMade (transitionsMade_lockTest made weighed.sc weighed.promoted)⟩

include made in
theorem takeIsolated_lockHeld (order : SameInstant) :
    (takeIsolated order s).LockAgrees ∧ TransitionsMade (takeIsolated order s) := by
  have stands := applyOrder_stands order s (lockTest s s.isolatedAt)
  have isolated : s.isolatedAt.LockAgrees := ⟨nofun, by simp [State.isolatedAt, toHold], nofun⟩
  exact ⟨stands.lockAgrees (isolated.congr (by simp) (by simp) (by simp) (by simp)),
    stands.transitionsMade (transitionsMade_lockTest made rfl rfl)⟩

include agrees made in
theorem becomeReference_lockHeld (order : SameInstant) (leaderless : s.leaderless = true) :
    (becomeReference order s).LockAgrees ∧ TransitionsMade (becomeReference order s) := by
  have seeking : s.cu.lock = .seeking := by simp_all [State.leaderless]
  have normal : s.pt.condition = .normal := by
    cases condition : s.pt.condition with
    | normal => rfl
    | isolated => simpa [seeking] using agrees.hold.mpr condition
  have led : KeepsLed s (s.modCu (toReference s.profile.station s.profile.period)) :=
    ⟨rfl, rfl, rfl, fun _ => toReference_led ..⟩
  have stands := applyOrder_stands order s (lockTest s (s.modCu (toReference s.profile.station s.profile.period)))
  exact ⟨stands.lockAgrees (led.lockAgrees normal (agrees.led normal) s),
    stands.transitionsMade (transitionsMade_lockTest made rfl rfl)⟩

include agrees in
theorem takeLockTimeout_lockHeld (order : SameInstant) :
    (takeLockTimeout order s).LockAgrees ∧ TransitionsMade (takeLockTimeout order s) := by
  have stands := applyOrder_stands order s (joiningTest (s.modSc fun c => { c with lockWaived := true }))
  exact ⟨stands.lockAgrees (agrees.congr (by simp) (by simp) (by simp) (by simp)),
    stands.transitionsMade (transitionsMade_joiningTest _)⟩

include agrees in
theorem frameStartRunning_lockHeld (order : SameInstant) :
    (frameStartRunning order s).LockAgrees ∧ TransitionsMade (frameStartRunning order s) := by
  have cu := frameStartRunning_cu order s
  have condition : (frameStartRunning order s).pt.condition = s.pt.condition := by
    rw [frameStartRunning_eq]
    split <;> simp [State.frameTested, State.frameCounted, requestPulse, modQueue_frame] <;> split <;> simp
  have tested : TransitionsMade (s.frameTested order) := transitionsMade_joiningTest _
  refine ⟨agrees.congr (by rw [cu]; rfl) (by rw [cu]; rfl) condition (frameStartRunning_runsOn order s).profile, ?_⟩
  rw [frameStartRunning_eq]
  split
  · exact (beginOutputFrame_stands _).transitionsMade tested
  · exact tested

include agrees made in
theorem takePassComplete_lockHeld : (takePassComplete s).LockAgrees ∧ TransitionsMade (takePassComplete s) := by
  refine ⟨agrees.congr ?_ ?_ ?_ ?_, made.congr ?_ ?_ ?_ ?_⟩
  case refine_8 => exact (recomputeView_keepsHeard _).promoted.trans (by rw [runPass_frame]; rfl)
  all_goals simp [takePassComplete]

theorem lampTest_rest (s : State) : lampTest s = { s with
    sc := (lampTest s).sc, slc := (lampTest s).slc, svp := (lampTest s).svp, wbp := (lampTest s).wbp,
    fs := (lampTest s).fs } := by
  have moved (st : ShowState) : setState st s = { s with
      sc := (setState st s).sc, slc := (setState st s).slc, svp := (setState st s).svp, wbp := (setState st s).wbp,
      fs := (setState st s).fs } := by
    apply State.ext <;> simp
  have tested : joiningTest s = { s with
      sc := (joiningTest s).sc, slc := (joiningTest s).slc, svp := (joiningTest s).svp, wbp := (joiningTest s).wbp,
      fs := (joiningTest s).fs } := by
    apply State.ext <;> simp
  unfold lampTest
  split
  · exact moved _
  · split
    · split
      · unfold requestLeave
        rw [modQueue_frame, moved]
      · rfl
    · split
      · exact moved _
      · rfl
    · exact tested
    · rfl
    · rfl

include agrees made in
theorem formAverage_lockHeld : (formAverage s).LockAgrees ∧ TransitionsMade (formAverage s) := by
  have announced (u : State) (agrees : u.LockAgrees) (made : TransitionsMade u) (before : Nat) :
      (announceLamp before u).LockAgrees ∧ TransitionsMade (announceLamp before u) := by
    have viewed := recomputeView_keepsHeard u
    have agrees' : (recomputeView u).LockAgrees := agrees.congr (by simp) (by simp) (by simp) (by simp)
    have made' : TransitionsMade (recomputeView u) := made.congr (by simp) (by simp) (by simp) viewed.promoted
    unfold announceLamp
    split
    · exact ⟨agrees, made⟩
    · refine ⟨agrees'.congr ?_ ?_ ?_ (lampTest_runsOn _).profile, transitionsMade_lampTest made'⟩ <;> rw [lampTest_rest]
  unfold formAverage
  dsimp only
  split
  · exact announced (raiseFault (s.modLs _)) (agrees.congr rfl rfl rfl rfl) (made.congr rfl rfl id rfl) _
  · exact announced (s.modLs _) (agrees.congr rfl rfl rfl rfl) (made.congr rfl rfl id rfl) _

include agrees in
theorem stopShow_lockHeld : (stopShow s).LockAgrees ∧ TransitionsMade (stopShow s) := by
  have stopping : (stopShow s).sc.state = .stopping := by
    simp only [stopShow, requestLeave, modQueue_frame]
    rw [setState_frame]
  refine ⟨agrees.congr ?_ ?_ ?_ (stopShow_runsOn s).profile, transitionsMade_of_ne_joining (by simp [stopping])⟩ <;>
    simp [stopShow, requestLeave, modQueue_frame]

end

/-- A station that starts seeks a reference in a NORMAL table, its lock condition unmet (R9, R84). -/
theorem startShow_lockHeld {s : State} (normal : s.pt.condition = .normal) : LockHeld (startShow s) := by
  have lock : (startShow s).cu.lock = .seeking := by simp [startShow, formViewAfresh, cadenceStart]
  have condition : (startShow s).pt.condition = .normal := by simpa [startShow, formViewAfresh] using normal
  have waived : (startShow s).sc.lockWaived = false := by simp [startShow, formViewAfresh]
  refine lockHeld_of_agrees (by simp [startShow_state]) (.of_led condition (.of_lock (.inl lock))) fun _ ⟨met, _⟩ => ?_
  simp [State.lockMet, lock, waived] at met

theorem Effect.lockHeld {s t : State} (h : Effect s t) (held : LockHeld s) : LockHeld t := by
  obtain ⟨coherent, made⟩ := held
  have agrees (running : s.sc.state ≠ .config) : s.LockAgrees := .of_coherent coherent running
  have normal (config : s.sc.state = .config) : s.pt.condition = .normal := by
    cases condition : s.pt.condition with
    | normal => rfl
    | isolated =>
      have idle := coherent.1.mpr config
      simpa [idle] using coherent.2.1.mpr condition
  have kept {u : State} (runs : RunsOn s u) (running : s.sc.state ≠ .config)
      (agreed : s.LockAgrees → u.LockAgrees ∧ TransitionsMade u) : LockHeld u := by
    obtain ⟨agrees', made'⟩ := agreed (agrees running)
    exact lockHeld_of_agrees (runs.running running) agrees' made'
  cases h with
  | profile config _ =>
    refine lockHeld_of_config ?_ ?_ ?_
    · rw [acceptProfile_sc]; exact config
    · rw [acceptProfile_cu]; rfl
    · rw [acceptProfile_rest]; exact normal config
  | start config _ => exact startShow_lockHeld (normal config)
  | stop running => exact kept (stopShow_runsOn s) running stopShow_lockHeld
  | config =>
    obtain ⟨config, -, -, pt, cu, -⟩ := enterConfig_enters s
    exact lockHeld_of_config config (by rw [cu]) (by rw [pt])
  | held => exact lockHeld_of_config rfl rfl rfl
  | frame running =>
    exact kept (frameStartRunning_runsOn ..) running fun agrees => frameStartRunning_lockHeld agrees _
  | message running _ acts hands =>
    exact kept (deliverMessage_runsOn acts hands s) running fun agrees =>
      deliverMessage_lockHeld agrees made acts hands
  | silent due =>
    simp only [State.silentDue, Bool.and_eq_true, beq_iff_eq] at due
    obtain ⟨⟨⟨⟨⟨-, running⟩, normal⟩, -⟩, -⟩, -⟩ := due
    exact kept (takeSilent_runsOn ..) (ne_config_of_running running) fun agrees =>
      takeSilent_lockHeld agrees made _ _ normal
  | isolated due =>
    exact kept (takeIsolated_runsOn ..) (ne_config_of_running (by simp_all [State.isolatedDue])) fun _ =>
      takeIsolated_lockHeld made _
  | reference running leaderless =>
    exact kept (becomeReference_runsOn ..) running fun agrees => becomeReference_lockHeld agrees made _ leaderless
  | lockTimeout joining =>
    exact kept (takeLockTimeout_runsOn ..) (by simp [joining]) fun agrees => takeLockTimeout_lockHeld agrees _
  | pass running =>
    exact kept (takePassComplete_runsOn s) running fun agrees => takePassComplete_lockHeld agrees made
  | average running => exact kept (formAverage_runsOn s) running fun agrees => formAverage_lockHeld agrees made

/-- Settles O56: agreement of a running station (`State.LockAgrees`) and the JOINING test at the end of every event that
can make its condition true. -/
theorem lockKept : Obligations.LockKept := by
  unfold Obligations.LockKept
  intro s t coherent made next
  exact (step_takes next).keeps Stands.lockHeld Effect.lockHeld ⟨coherent, made⟩

end Sys2Proof.Machine

/-! SUPPORT. The peer table, the figures and the view through one step (R15, R50, R57, R58, R62 to R64, R106). -/

namespace Sys2Proof.Machine

/-! ### Sound tables and figures -/

/-- Sixteen sound entries, none at the own number, and an unheard count within the limit (R51, R57, R58). -/
structure PeerTable.Sound (own : StationNo) (limit : Nat) (t : PeerTable) : Prop where
  full : t.entries.length = 16
  own : t.entry own = .absent
  entries : ∀ e ∈ t.entries, e.Sound limit
  unheard : t.unheard ≤ limit

/-- The own figures in their ranges (R19, R106, R136). -/
structure State.FiguresSound (s : State) : Prop where
  kLocal : 1 ≤ s.we.kLocal ∧ s.we.kLocal ≤ 4
  lAnn : s.ls.lAnn ≤ Config.one
  l0 : s.ls.l0 ≤ Config.one
  l1 : s.ls.l1 ≤ Config.one
  narrow : s.mt.Narrow

/-- The view is what the entries and the own figures make it (R62, R63). -/
def State.ViewFormed (s : State) : Prop := s.pt.view = s.formedView s.pt.view.serial

/-- The table that the station's profile wants. -/
def State.TableSound (s : State) : Prop := s.pt.Sound s.profile.station s.profile.silenceLimit

/-- The standing statements about the peers (R15, R50, R57, R58, R62 to R64, R106). -/
def PeersHeld (s : State) : Prop := SilenceBounded s ∧ FiguresInRange s ∧ ViewFollows s

namespace PeerTable.Sound

variable {own : StationNo} {limit : Nat} {t u : PeerTable}

/-- Every entry of a sound table is sound, the absent ones too. -/
theorem entry (h : t.Sound own limit) (n : StationNo) : (t.entry n).Sound limit := by
  have lt : n.val < t.entries.length := h.full.symm ▸ n.isLt
  rw [PeerTable.entry, List.getD_eq_getElem _ _ lt]
  exact h.entries _ (List.getElem_mem lt)

theorem congr (h : t.Sound own limit) (entries : u.entries = t.entries) (unheard : u.unheard ≤ limit) :
    u.Sound own limit :=
  ⟨entries ▸ h.full, by rw [PeerTable.entry, entries]; exact h.own, entries ▸ h.entries, unheard⟩

/-- A sound entry written at a peer's number. -/
theorem set {n : StationNo} {e : PeerEntry} (h : t.Sound own limit) (peer : n ≠ own) (sound : e.Sound limit)
    (entries : u.entries = t.entries.set n.val e) (unheard : u.unheard = t.unheard) : u.Sound own limit where
  full := by rw [entries, List.length_set]; exact h.full
  own := by
    have other : n.val ≠ own.val := fun same => peer (Fin.ext same)
    rw [PeerTable.entry, entries, List.getD_eq_getElem?_getD, List.getElem?_set_ne other, ← List.getD_eq_getElem?_getD]
    exact h.own
  entries q hq := by
    rw [entries] at hq
    obtain hq | rfl := List.mem_or_eq_of_mem_set hq
    · exact h.entries q hq
    · exact sound
  unheard := unheard ▸ h.unheard

/-- A table of absent entries. -/
theorem of_absent (entries : t.entries = List.replicate 16 .absent) (unheard : t.unheard ≤ limit) :
    t.Sound own limit where
  full := by rw [entries]; rfl
  own := by
    have lt : own.val < (List.replicate 16 PeerEntry.absent).length := own.isLt
    rw [PeerTable.entry, entries, List.getD_eq_getElem _ _ lt, List.getElem_replicate]
  entries e he := by
    rw [entries] at he
    exact List.eq_of_mem_replicate he ▸ PeerEntry.absent_sound limit
  unheard := unheard

end PeerTable.Sound

/-- A running station's peers from its table, its figures and its view. -/
theorem peersHeld_of_running {s : State} (running : s.sc.state ≠ .config) (table : s.TableSound)
    (figures : s.FiguresSound) (formed : s.ViewFormed) : PeersHeld s :=
  ⟨⟨table.full, table.own, fun e he => ⟨(table.entries e he).within, (table.entries e he).silent⟩, table.unheard,
      fun config => absurd config running⟩,
    ⟨figures.kLocal, figures.lAnn, figures.l0, figures.l1,
      fun e he => ⟨(table.entries e he).depth, (table.entries e he).level⟩, figures.narrow⟩,
    fun _ => formed, fun config => absurd config running⟩

/-- The peers of a station in CONFIG, from its empty table, its view and its figures. -/
theorem peersHeld_of_config {s : State} (config : s.sc.state = .config) (entries : s.pt.entries = List.replicate 16 .absent)
    (unheard : s.pt.unheard = 0) (view : s.pt.view = View.config s.pt.view.serial) (lAnn : s.ls.lAnn = 0)
    (figures : s.FiguresSound) : PeersHeld s := by
  have table : s.TableSound := .of_absent entries (unheard ▸ Nat.zero_le _)
  exact ⟨⟨table.full, table.own, fun e he => ⟨(table.entries e he).within, (table.entries e he).silent⟩, table.unheard,
      fun _ => ⟨entries, unheard⟩⟩,
    ⟨figures.kLocal, figures.lAnn, figures.l0, figures.l1,
      fun e he => ⟨(table.entries e he).depth, (table.entries e he).level⟩, figures.narrow⟩,
    fun running => absurd config (running_iff.mp running), fun _ => ⟨view, lAnn, entries⟩⟩

namespace PeersHeld

variable {s : State} (h : PeersHeld s)

include h

theorem table : s.TableSound := by
  obtain ⟨⟨full, own, counts, unheard, -⟩, ⟨-, -, -, -, figures, -⟩, -⟩ := h
  exact ⟨full, own, fun e he => ⟨(counts e he).1, (counts e he).2, (figures e he).1, (figures e he).2⟩, unheard⟩

theorem figures : s.FiguresSound := by
  obtain ⟨-, ⟨kLocal, lAnn, l0, l1, -, narrow⟩, -⟩ := h
  exact ⟨kLocal, lAnn, l0, l1, narrow⟩

theorem formed (running : s.sc.state ≠ .config) : s.ViewFormed := h.2.2.1 (running_iff.mpr running)

theorem unheard_of_config (config : s.sc.state = .config) : s.pt.unheard = 0 := (h.1.2.2.2.2 config).2

theorem config (config : s.sc.state = .config) : s.pt.view = View.config s.pt.view.serial ∧ s.ls.lAnn = 0 ∧
    s.pt.entries = List.replicate 16 .absent := h.2.2.2 config

end PeersHeld

/-! ### What leaves table and view -/

theorem State.FiguresSound.kept {s t : State} (h : s.FiguresSound) (k : KeepsFigures s t) : t.FiguresSound :=
  ⟨k.kLocal ▸ h.kLocal, k.lAnn ▸ h.lAnn, k.l0 ▸ h.l0, k.l1 ▸ h.l1, k.narrow h.narrow⟩

/-- From `s` to `t` the entries, the unheard count, the view and the profile stay. -/
structure KeepsPeers (s t : State) : Prop where
  entries : t.pt.entries = s.pt.entries
  unheard : t.pt.unheard = s.pt.unheard
  view : t.pt.view = s.pt.view
  profile : t.sc.profile = s.sc.profile

namespace KeepsPeers

variable {s t u : State}

theorem trans (h : KeepsPeers s t) (k : KeepsPeers t u) : KeepsPeers s u :=
  ⟨k.entries.trans h.entries, k.unheard.trans h.unheard, k.view.trans h.view, k.profile.trans h.profile⟩

theorem of_pt (pt : t.pt = s.pt) (profile : t.sc.profile = s.sc.profile) : KeepsPeers s t :=
  ⟨by rw [pt], by rw [pt], by rw [pt], profile⟩

theorem of_stands (h : Stands s t) : KeepsPeers s t := .of_pt h.pt h.profile

theorem table (h : KeepsPeers s t) (sound : s.TableSound) : t.TableSound := by
  unfold State.TableSound State.profile
  rw [h.profile]
  exact sound.congr h.entries (h.unheard ▸ sound.unheard)

theorem formed (h : KeepsPeers s t) (k : KeepsFigures s t) (formed : s.ViewFormed) : t.ViewFormed := by
  have same := formedView_congr s t s.pt.view.serial h.entries (by rw [State.profile, h.profile]; rfl) k.lAnn k.kLocal
  unfold State.ViewFormed
  rw [h.view, same]
  exact formed

end KeepsPeers

theorem lockTest_peers (b s : State) : KeepsPeers s (lockTest b s) := .of_pt (by simp) (by simp)

theorem weighIfChanged_peers (b s : State) : KeepsPeers s (weighIfChanged b s) := .of_pt (by simp) (by simp)

theorem joiningTest_peers (s : State) : KeepsPeers s (joiningTest s) := .of_pt (by simp) (by simp)

theorem Hands.peers {handOn : State → State} (h : Hands handOn) (s : State) : KeepsPeers s (handOn s) := by
  rw [h.frame s]
  exact .of_pt rfl rfl

/-- What a running station's peers hold, its profile apart. -/
structure State.PeersSound (s : State) : Prop where
  table : s.TableSound
  figures : s.FiguresSound
  formed : s.ViewFormed

namespace State.PeersSound

variable {s t : State}

theorem kept (h : s.PeersSound) (peers : KeepsPeers s t) (figures : KeepsFigures s t) : t.PeersSound :=
  ⟨peers.table h.table, h.figures.kept figures, peers.formed figures h.formed⟩

theorem stands (h : s.PeersSound) (k : Stands s t) : t.PeersSound := h.kept (.of_stands k) (.of_stands k)

theorem lockTest (h : s.PeersSound) (b : State) : (lockTest b s).PeersSound :=
  h.kept (lockTest_peers ..) (lockTest_figures ..)

theorem weighed (h : s.PeersSound) (b : State) : (weighIfChanged b s).PeersSound :=
  h.kept (weighIfChanged_peers ..) (weighIfChanged_figures ..)

/-- A recomputation forms the view (R63). -/
theorem recomputed (table : s.TableSound) (figures : s.FiguresSound) : (recomputeView s).PeersSound := by
  refine ⟨?_, figures.kept (recomputeView_figures s), ?_⟩
  · have sound := table.congr (u := (recomputeView s).pt) (by simp) (by simpa using table.unheard)
    rwa [State.TableSound, State.profile, recomputeView_sc]
  · unfold State.ViewFormed
    have same (n : BitVec 8) : (recomputeView s).formedView n = s.formedView n :=
      formedView_congr s _ n (by simp) (by rw [State.profile, recomputeView_sc]; rfl) (by simp) (recomputeView_kLocal s)
    rw [same, recomputeView_view, formedView_serial]

end State.PeersSound

/-! ### Silence counts (R57, R58) -/

/-- An entry whose silence count advances where the peer is heard (R57). -/
def PeerEntry.advanced (limit : Nat) (e : PeerEntry) : PeerEntry :=
  if e.status.heard = true then { e with silence := min limit (e.silence + 1) } else e

theorem PeerEntry.advanced_absent (limit : Nat) : PeerEntry.absent.advanced limit = .absent := rfl

theorem PeerEntry.Sound.advanced {limit : Nat} {e : PeerEntry} (h : e.Sound limit) : (e.advanced limit).Sound limit := by
  unfold PeerEntry.advanced
  split
  · next heard => exact ⟨Nat.min_le_left .., fun silent => by simp_all [PeerStatus.heard], h.depth, h.level⟩
  · exact h

/-- A silence count is nothing that the view is formed of (R62). -/
theorem PeerEntry.advanced_view (limit : Nat) (e : PeerEntry) : (e.advanced limit).status = e.status ∧
    (e.advanced limit).level = e.level ∧ (e.advanced limit).depth = e.depth := by
  unfold PeerEntry.advanced
  split <;> exact ⟨rfl, rfl, rfl⟩

section

variable {f : PeerEntry → PeerEntry} {t u : PeerTable} (entries : u.entries = t.entries.map f)
  (absent : f .absent = .absent)

include entries absent

theorem entry_map (n : StationNo) : u.entry n = f (t.entry n) := by
  rw [PeerTable.entry, entries]
  conv_lhs => rw [← absent]
  exact List.getD_map ..

theorem PeerTable.Sound.map {own : StationNo} {limit : Nat} (h : t.Sound own limit)
    (sound : ∀ e : PeerEntry, e.Sound limit → (f e).Sound limit) (unheard : u.unheard ≤ limit) : u.Sound own limit where
  full := by rw [entries, List.length_map]; exact h.full
  own := by rw [entry_map entries absent, h.own, absent]
  entries e he := by
    rw [entries] at he
    obtain ⟨q, hq, rfl⟩ := List.mem_map.mp he
    exact sound q (h.entries q hq)
  unheard := unheard

end

/-- The formed view reads status, level and depth of the entries alone (R62). -/
theorem formedView_map {f : PeerEntry → PeerEntry} {s t : State} (entries : t.pt.entries = s.pt.entries.map f)
    (absent : f .absent = .absent)
    (view : ∀ e, (f e).status = e.status ∧ (f e).level = e.level ∧ (f e).depth = e.depth)
    (profile : t.profile = s.profile) (lAnn : t.ls.lAnn = s.ls.lAnn) (kLocal : t.we.kLocal = s.we.kLocal)
    (serial : BitVec 8) : t.formedView serial = s.formedView serial := by
  simp only [State.formedView, State.alive, State.peersWith, entry_map entries absent, view, profile, lAnn, kLocal]

/-- The silence counts of an own frame start (R57, R58, R59). -/
theorem silenceTick_pt (s : State) : (silenceTick s).pt = { s.pt with
    unheard := min s.profile.silenceLimit (s.pt.unheard + 1),
    entries :=
      if s.pt.condition = .normal ∧ ¬(min s.profile.silenceLimit (s.pt.unheard + 1) = s.profile.silenceLimit ∧
          s.somePeerHeard = true) then
        s.pt.entries.map fun e =>
          if e.status.heard = true then { e with silence := min s.profile.silenceLimit (e.silence + 1) } else e
      else s.pt.entries } := by
  have heard : (s.modPt fun t => { t with unheard := min s.profile.silenceLimit (t.unheard + 1) }).somePeerHeard =
      s.somePeerHeard := rfl
  unfold silenceTick
  simp only [heard, State.modPt_pt]
  split <;> rfl

/-- The silence counts of an own frame start leave the peers sound (R57, R58). -/
theorem silenceTick_peersSound {s : State} (h : s.PeersSound) : (silenceTick s).PeersSound := by
  have figures : KeepsFigures s (silenceTick s) := .of_blocks (by simp) (by simp) (by simp)
  have unheard : (silenceTick s).pt.unheard ≤ s.profile.silenceLimit := by
    rw [silenceTick_pt]
    exact Nat.min_le_left ..
  have profile : (silenceTick s).profile = s.profile := by rw [State.profile, silenceTick_sc]; rfl
  by_cases ticks : s.pt.condition = .normal ∧ ¬(min s.profile.silenceLimit (s.pt.unheard + 1) = s.profile.silenceLimit ∧
      s.somePeerHeard = true)
  · have entries : (silenceTick s).pt.entries = s.pt.entries.map (PeerEntry.advanced s.profile.silenceLimit) := by
      rw [silenceTick_pt, if_pos ticks]
      rfl
    refine ⟨?_, h.figures.kept figures, ?_⟩
    · rw [State.TableSound, profile]
      exact h.table.map entries (PeerEntry.advanced_absent _) (fun _ => PeerEntry.Sound.advanced) unheard
    · unfold State.ViewFormed
      rw [silenceTick_pt_view, formedView_map entries (PeerEntry.advanced_absent _) (PeerEntry.advanced_view _)
        profile figures.lAnn figures.kLocal]
      exact h.formed
  · have entries : (silenceTick s).pt.entries = s.pt.entries := by rw [silenceTick_pt, if_neg ticks]
    refine ⟨?_, h.figures.kept figures, ?_⟩
    · rw [State.TableSound, profile]
      exact h.table.congr entries unheard
    · unfold State.ViewFormed
      rw [silenceTick_pt_view, formedView_congr s _ _ entries (by rw [profile]) figures.lAnn figures.kLocal]
      exact h.formed

end Sys2Proof.Machine

/-! SUPPORT. The effects of one step on the peers, the figures and the view. -/

namespace Sys2Proof.Machine

/-! ### The figures that a pass and an average form (R106, R140 to R142) -/

/-- A record that the mesh holds, or a blank one, lists at most three coverers (R19). -/
theorem Mesh.Narrow.vertex {m : Mesh} (h : m.Narrow) (i : Nat) : (m.vertex i).coverers.length ≤ 3 := by
  have found (l : List (Nat × Vertex)) (narrow : ∀ r ∈ l, r.2.coverers.length ≤ 3) :
      ((findRecord l i).getD Vertex.blank).coverers.length ≤ 3 := by
    induction l with
    | nil => exact Nat.zero_le _
    | cons r l ih =>
      unfold findRecord
      split
      · exact narrow r List.mem_cons_self
      · exact ih fun q hq => narrow q (List.mem_cons_of_mem _ hq)
  exact found m.records h

/-- A vertex covered by at most three peers has coverage at most 4 (R101). -/
theorem computeVertex_k_le {p : Profile} {w : View} {x : Vertex} (narrow : x.coverers.length ≤ 3) :
    (computeVertex p w x).k ≤ 4 := by
  have alive : (aliveCoverers w x).length ≤ x.coverers.length := List.length_filter_le ..
  unfold computeVertex
  split
  · show 1 ≤ 4
    omega
  · show 1 + (aliveCoverers w x).length ≤ 4
    omega

theorem passMaximumOf_le {s : State} (narrow : s.mt.Narrow) : passMaximumOf (passResults s) ≤ 4 := by
  obtain one | ⟨r, found, greatest⟩ := passMaximumOf_attained (passResults s)
  · omega
  · obtain ⟨i, -, rfl⟩ := mem_passResults.mp found
    rw [← greatest]
    exact computeVertex_k_le (narrow.vertex i)

theorem channelValue_le (dark rated : Nat) (a : Accumulator) : channelValue dark rated a ≤ Config.one := by
  unfold channelValue
  dsimp only
  split
  · exact Nat.zero_le _
  · exact Nat.min_le_left ..

theorem averageLamp0_le {p : Profile} {l : Lamp} (l0 : l.l0 ≤ Config.one) (l1 : l.l1 ≤ Config.one)
    (lAnn : l.lAnn ≤ Config.one) : (averageLamp0 p l).l0 ≤ Config.one ∧ (averageLamp0 p l).l1 ≤ Config.one ∧
      (averageLamp0 p l).lAnn ≤ Config.one := by
  unfold averageLamp0
  split
  · exact ⟨l0, l1, lAnn⟩
  · exact ⟨channelValue_le .., l1, lAnn⟩

theorem averageLamp1_le {p : Profile} {l : Lamp} (l0 : l.l0 ≤ Config.one) (l1 : l.l1 ≤ Config.one)
    (lAnn : l.lAnn ≤ Config.one) : (averageLamp1 p l).l0 ≤ Config.one ∧ (averageLamp1 p l).l1 ≤ Config.one ∧
      (averageLamp1 p l).lAnn ≤ Config.one := by
  unfold averageLamp1
  split
  · exact ⟨l0, l1, lAnn⟩
  · exact ⟨l0, channelValue_le .., lAnn⟩

theorem measured_le {mode : LampMode} {l0 l1 : Nat} (h0 : l0 ≤ Config.one) (h1 : l1 ≤ Config.one) :
    measured mode l0 l1 ≤ Config.one := by
  cases mode with
  | single => exact h0
  | dual =>
    show (l0 + l1) / 2 ≤ Config.one
    omega

theorem averageLamp_le {p : Profile} {l : Lamp} (l0 : l.l0 ≤ Config.one) (l1 : l.l1 ≤ Config.one)
    (lAnn : l.lAnn ≤ Config.one) : (averageLamp p l).l0 ≤ Config.one ∧ (averageLamp p l).l1 ≤ Config.one ∧
      (averageLamp p l).lAnn ≤ Config.one := by
  obtain ⟨a0, a1, aAnn⟩ := averageLamp0_le (p := p) l0 l1 lAnn
  obtain ⟨b0, b1, bAnn⟩ := averageLamp1_le (p := p) a0 a1 aAnn
  have announced (m ann : Nat) (hm : m ≤ Config.one) (ha : ann ≤ Config.one) :
      (if announces p m ann = true then m else ann) ≤ Config.one := by
    split <;> assumption
  unfold averageLamp
  cases p.lampMode with
  | single => exact ⟨a0, a1, announced _ _ a0 aAnn⟩
  | dual => exact ⟨b0, b1, announced _ _ (measured_le b0 b1) bAnn⟩

/-! ### The effects on a running station -/

namespace State.PeersSound

variable {s : State} (h : s.PeersSound)

include h

theorem deliverMessage {n : StationNo} {act handOn : State → State} (other : n ≠ s.profile.station)
    (acts : Acts n act) (hands : Hands handOn) : (deliverMessage act handOn s).PeersSound := by
  obtain ⟨e, written, sound⟩ := acts.entries (hearPeer s)
  have heard : (hearPeer s).TableSound := by
    rw [State.TableSound, State.profile, hearPeer_sc]
    exact h.table.congr (by rw [hearPeer_frame]) (by rw [hearPeer_frame]; exact Nat.zero_le _)
  have acted : (act (hearPeer s)).TableSound := by
    have unheard : (act (hearPeer s)).pt.unheard = (hearPeer s).pt.unheard := by rw [acts.frame]
    have station : (act (hearPeer s)).sc = (hearPeer s).sc := by rw [acts.frame]
    rw [State.TableSound, State.profile, station]
    refine heard.set ?_ (sound _ (heard.entry n)) written unheard
    rw [State.profile, hearPeer_sc]
    exact other
  have figures : KeepsFigures s (act (hearPeer s)) :=
    .trans (.of_blocks (by simp) (by simp) (by simp)) (acts.figures _)
  have weighed := (recomputed acted (h.figures.kept figures)).weighed (hearPeer s)
  exact (weighed.kept (hands.peers _) (hands.figures _)).lockTest s

theorem takeSilent {n : StationNo} (order : SameInstant) (due : s.silentDue n = true) :
    (takeSilent n order s).PeersSound := by
  simp only [State.silentDue, Bool.and_eq_true, beq_iff_eq, bne_iff_ne] at due
  obtain ⟨⟨⟨-, other⟩, -⟩, limit⟩ := due
  have old := h.table.entry n
  have silent : { s.pt.entry n with status := PeerStatus.silent }.Sound s.profile.silenceLimit :=
    ⟨old.within, fun _ => limit, old.depth, old.level⟩
  have changed : (changeEntry n { s.pt.entry n with status := .silent } s).TableSound := by
    have written := h.table.set (u := (changeEntry n { s.pt.entry n with status := .silent } s).pt) other silent
      (by rw [changeEntry_eq]) (by rw [changeEntry_eq])
    rwa [State.TableSound, State.profile, changeEntry_sc]
  have figures : KeepsFigures s (changeEntry n { s.pt.entry n with status := .silent } s) :=
    .of_blocks (by simp) (by simp) (by simp)
  exact (((recomputed changed (h.figures.kept figures)).weighed s).lockTest s).stands (applyOrder_stands ..)

theorem takeIsolated (order : SameInstant) : (takeIsolated order s).PeersSound := by
  have isolated : s.isolatedAt.PeersSound := h.kept ⟨rfl, rfl, rfl, rfl⟩ (.of_blocks rfl rfl rfl)
  exact (isolated.lockTest s).stands (applyOrder_stands ..)

theorem becomeReference (order : SameInstant) : (becomeReference order s).PeersSound := by
  have led : (s.modCu (toReference s.profile.station s.profile.period)).PeersSound :=
    h.kept (.of_pt rfl rfl) (.of_blocks rfl rfl rfl)
  exact (led.lockTest s).stands (applyOrder_stands ..)

theorem takeLockTimeout (order : SameInstant) : (takeLockTimeout order s).PeersSound := by
  have waived : (s.modSc fun c => { c with lockWaived := true }).PeersSound :=
    h.kept (.of_pt rfl rfl) (.of_blocks rfl rfl rfl)
  exact (waived.kept (joiningTest_peers _) (joiningTest_figures _)).stands (applyOrder_stands ..)

theorem frameStartRunning (order : SameInstant) : (frameStartRunning order s).PeersSound := by
  have begun : (s.modCu frameCounts).PeersSound := h.kept (.of_pt rfl rfl) (.of_blocks rfl rfl rfl)
  have ticked := silenceTick_peersSound begun
  have counted : s.frameCounted.PeersSound := by
    have lamp : KeepsFigures (silenceTick (s.modCu frameCounts))
        ((silenceTick (s.modCu frameCounts)).modLs (lampFrameStart s.now)) := by
      constructor
      case kLocal => rfl
      case narrow => exact id
      all_goals simp only [State.modLs_ls, lampFrameStart]; split <;> rfl
    have lit : ((silenceTick (s.modCu frameCounts)).modLs (lampFrameStart s.now)).PeersSound :=
      ticked.kept (.of_pt rfl rfl) lamp
    exact lit.stands (joinTick_stands _)
  have tested (u : State) (hu : u.PeersSound) : (joiningTest (promote u)).PeersSound := by
    have promoted : (promote u).PeersSound :=
      hu.kept (.of_pt (by simp) (by simp)) (.of_blocks (by simp) (promote_kLocal u) (by simp))
    exact promoted.kept (joiningTest_peers _) (joiningTest_figures _)
  have pulsed (p : PulseRequest) (u : State) (hu : u.PeersSound) : (requestPulse p u).PeersSound :=
    hu.kept (.of_pt rfl rfl) (.of_blocks rfl rfl rfl)
  have test : (s.frameTested order).PeersSound := by
    unfold State.frameTested
    split
    · exact tested _ counted
    · exact tested _ (counted.stands (beginOutputFrame_stands _))
  rw [frameStartRunning_eq]
  split
  · exact (pulsed _ _ test).stands (beginOutputFrame_stands _)
  · exact pulsed _ _ test

theorem takePassComplete : (takePassComplete s).PeersSound := by
  have same : (runPass s).PeersSound := h.stands (runPass_stands s)
  exact recomputed same.table ⟨⟨one_le_passMaximumOf _, passMaximumOf_le h.figures.narrow⟩, same.figures.lAnn,
    same.figures.l0, same.figures.l1, same.figures.narrow⟩

theorem formAverage : (formAverage s).PeersSound := by
  obtain ⟨l0, l1, lAnn⟩ := averageLamp_le (p := s.profile) h.figures.l0 h.figures.l1 h.figures.lAnn
  have announced (u : State) (pt : u.pt = s.pt) (sc : u.sc = s.sc) (we : u.we = s.we) (mt : u.mt = s.mt)
      (ls : u.ls = averageLamp s.profile s.ls) : (announceLamp s.ls.lAnn u).PeersSound := by
    have table : u.TableSound := by
      rw [State.TableSound, State.profile, pt, sc]
      exact h.table
    have figures : u.FiguresSound := ⟨we ▸ h.figures.kLocal, ls ▸ lAnn, ls ▸ l0, ls ▸ l1, mt ▸ h.figures.narrow⟩
    unfold announceLamp
    split
    · next same =>
      refine ⟨table, figures, ?_⟩
      unfold State.ViewFormed
      rw [pt, formedView_congr s u _ (by rw [pt]) (by rw [State.profile, sc]; rfl) same (by rw [we])]
      exact h.formed
    · have viewed := recomputed table figures
      refine viewed.kept (.of_pt ?_ (lampTest_runsOn _).profile) (.of_blocks ?_ ?_ ?_) <;> rw [lampTest_rest]
  unfold Machine.formAverage
  dsimp only
  split
  · exact announced (raiseFault (s.modLs _)) rfl rfl rfl rfl rfl
  · exact announced (s.modLs _) rfl rfl rfl rfl rfl

theorem stopShow : (stopShow s).PeersSound := by
  have peers : KeepsPeers s (setState .stopping s) := .of_pt (by simp) (by simp)
  exact h.kept (peers.trans (.of_pt rfl rfl)) (stopShow_figures s)

end State.PeersSound

/-! ### The effects at CONFIG -/

section

variable {s : State} (h : PeersHeld s)

include h

/-- A START forms the view afresh of an empty table (R9, R64). -/
theorem startShow_peersHeld (config : s.sc.state = .config) : PeersHeld (startShow s) := by
  obtain ⟨-, -, absent⟩ := h.config config
  have figures := h.figures
  obtain ⟨l0, l1, -, lAnn⟩ := lampStart_figures s.now s.ls
  have ls := startShow_ls s
  have entries : (startShow s).pt.entries = List.replicate 16 .absent := by
    simpa [startShow, formViewAfresh] using absent
  have unheard : (startShow s).pt.unheard = 0 := by simp [startShow, formViewAfresh]
  have kLocal : (startShow s).we.kLocal = s.we.kLocal := by
    rw [startShow, formViewAfresh, engineViewChange_kLocal]
    simp
  have view : (startShow s).pt.view =
      { alive := [], lSelf := 0, ceiling := 0, kDome := s.we.kLocal, serial := s.pt.view.serial + 1 } := by
    simp [startShow, formViewAfresh]
  have table : (startShow s).TableSound := .of_absent entries (unheard ▸ Nat.zero_le _)
  have alive : (startShow s).alive = [] := by
    have entry (n : StationNo) : (startShow s).pt.entry n = .absent := by
      have lt : n.val < (List.replicate 16 PeerEntry.absent).length := n.isLt
      rw [PeerTable.entry, entries, List.getD_eq_getElem _ _ lt, List.getElem_replicate]
    simp [State.alive, State.peersWith, entry, PeerEntry.absent]
  refine peersHeld_of_running (by simp [startShow_state]) table
    ⟨kLocal ▸ figures.kLocal, ?_, ?_, ?_, (startShow_keepsGrid s).mt ▸ figures.narrow⟩ ?_
  · rw [ls, lAnn]; exact Nat.zero_le _
  · rw [ls, l0]; exact Nat.zero_le _
  · rw [ls, l1]; exact Nat.zero_le _
  · rw [State.ViewFormed, view, State.formedView, alive, ls, lAnn, kLocal]
    rfl

theorem acceptProfile_peersHeld {r : RawProfile} (config : s.sc.state = .config) : PeersHeld (acceptProfile r s) := by
  obtain ⟨view, lAnn, absent⟩ := h.config config
  have unheard := h.unheard_of_config config
  have figures := h.figures
  have pt : (acceptProfile r s).pt = s.pt := by rw [acceptProfile_rest]
  have ls : (acceptProfile r s).ls = s.ls := by rw [acceptProfile_rest]
  have narrow : (acceptProfile r s).mt.Narrow := by
    have mt : (acceptProfile r s).mt = Mesh.blank := by simp [acceptProfile]
    rw [mt]
    nofun
  have kLocal : (acceptProfile r s).we.kLocal = 1 := by rw [acceptProfile_we]
  exact peersHeld_of_config (by rw [acceptProfile_sc]; exact config) (by rw [pt, absent]) (by rw [pt, unheard])
    (by rw [pt]; exact view) (by rw [ls, lAnn])
    ⟨by rw [kLocal]; decide, ls ▸ figures.lAnn, ls ▸ figures.l0, ls ▸ figures.l1, narrow⟩

theorem enterConfig_peersHeld : PeersHeld (enterConfig s) := by
  have figures := h.figures
  obtain ⟨config, -, -, pt, -, -, we, -, ls, -, -, mt, -⟩ := enterConfig_enters s
  exact peersHeld_of_config config (by rw [pt]) (by rw [pt]) (by rw [pt]; rfl) (by rw [ls])
    ⟨by simp [we], by rw [ls]; exact Nat.zero_le _, by rw [ls]; exact figures.l0, by rw [ls]; exact figures.l1,
      mt ▸ figures.narrow⟩

end

/-- A part in reset holds no peers (R17, R50). -/
theorem heldInReset_peersHeld (s : State) : PeersHeld (heldInReset s) :=
  have kLocal : (heldInReset s).we.kLocal = 1 := rfl
  peersHeld_of_config rfl rfl rfl rfl rfl
    ⟨by simp [kLocal], Nat.zero_le _, Nat.zero_le _, Nat.zero_le _, nofun⟩

/-! ### O55 -/

theorem Stands.peersHeld {s t : State} (h : Stands s t) (held : PeersHeld s) : PeersHeld t := by
  by_cases config : s.sc.state = .config
  · obtain ⟨view, lAnn, absent⟩ := held.config config
    have unheard := held.unheard_of_config config
    exact peersHeld_of_config (h.state.trans config) (by rw [h.pt, absent]) (by rw [h.pt, unheard])
      (by rw [h.pt]; exact view) (h.lAnn.trans lAnn) (held.figures.kept (.of_stands h))
  · have sound : s.PeersSound := ⟨held.table, held.figures, held.formed config⟩
    obtain ⟨table, figures, formed⟩ := sound.stands h
    exact peersHeld_of_running (by rw [h.state]; exact config) table figures formed

theorem Effect.peersHeld {s t : State} (h : Effect s t) (held : PeersHeld s) : PeersHeld t := by
  have sound (running : s.sc.state ≠ .config) : s.PeersSound := ⟨held.table, held.figures, held.formed running⟩
  have kept {u : State} (runs : RunsOn s u) (running : s.sc.state ≠ .config) (keeps : s.PeersSound → u.PeersSound) :
      PeersHeld u := by
    obtain ⟨table, figures, formed⟩ := keeps (sound running)
    exact peersHeld_of_running (runs.running running) table figures formed
  cases h with
  | profile config _ => exact acceptProfile_peersHeld held config
  | start config _ => exact startShow_peersHeld held config
  | stop running => exact kept (stopShow_runsOn s) running .stopShow
  | config => exact enterConfig_peersHeld held
  | held => exact heldInReset_peersHeld s
  | frame running => exact kept (frameStartRunning_runsOn ..) running fun h => h.frameStartRunning _
  | message running other acts hands =>
    exact kept (deliverMessage_runsOn acts hands s) running fun h => h.deliverMessage other acts hands
  | silent due =>
    exact kept (takeSilent_runsOn ..) (ne_config_of_running (by simp_all [State.silentDue])) fun h =>
      h.takeSilent _ due
  | isolated due =>
    exact kept (takeIsolated_runsOn ..) (ne_config_of_running (by simp_all [State.isolatedDue])) fun h =>
      h.takeIsolated _
  | reference running _ => exact kept (becomeReference_runsOn ..) running fun h => h.becomeReference _
  | lockTimeout joining => exact kept (takeLockTimeout_runsOn ..) (by simp [joining]) fun h => h.takeLockTimeout _
  | pass running => exact kept (takePassComplete_runsOn s) running .takePassComplete
  | average running => exact kept (formAverage_runsOn s) running .formAverage

/-- Settles O55: a running station's table, figures and view (`State.PeersSound`), which a recomputation makes agree
(`State.PeersSound.recomputed`), and the empty ones of CONFIG. -/
theorem peersKept : Obligations.PeersKept := by
  unfold Obligations.PeersKept
  intro s t silence figures view next
  exact (step_takes next).keeps Stands.peersHeld Effect.peersHeld ⟨silence, figures, view⟩

end Sys2Proof.Machine

/-! SUPPORT. START, STOP, RESET and the reset line (R9, R14, R16, R17). -/

namespace Sys2Proof.Machine

/-! ### START (R9, R64, R84, R115, R134, R147, R152) -/

/-- The Lamp Sampler of an accepted START, by whether a manual conversion runs and has begun at this instant (R134,
R147). -/
theorem lampStart_eq (now : Nat) (l : Lamp) : lampStart now l =
    let manual := l.conversion.any Conversion.manual
    let repeats := manual && l.repeatedAt == some now
    { l with
      mode := if manual && !repeats then l.mode else .auto, autoPending := (manual && !repeats) || l.autoPending,
      stopPending := false, conversion := if repeats then none else l.conversion, sequences := 0, acc0 := ⟨0, 0⟩,
      acc1 := ⟨0, 0⟩, l0 := 0, l1 := 0, fault0 := false, fault1 := false, lMeas := 0, lAnn := 0 } := by
  unfold lampStart
  by_cases manual : l.conversion.any Conversion.manual = true
  · by_cases repeats : l.repeatedAt = some now
    · simp [manual, repeats, Accumulator.zero]
    · simp [manual, repeats, Accumulator.zero]
  · simp [manual, Accumulator.zero]

/-- A station that comes from CONFIG with no frame in PICTURE turns none BLACK (R1, R120). -/
theorem setState_joining_of_config {s : State} (config : s.sc.state = .config) (black : s.wbp.mode ≠ .picture) :
    setState .joining s = { s with
      sc := { s.sc with state := .joining }, svp := { s.svp with causes := { s.svp.causes with state := true } } } := by
  have moves : s.sc.state ≠ .joining := by simp [config]
  rw [setState_of_ne _ _ moves]
  exact turnBlack_of_not_picture _ black

/-- An idle engine starts a pass from a changed view (R109). -/
theorem engineViewChange_idle {s : State} (idle : s.we.engine = .idle) : engineViewChange s = startPass s := if_pos idle

theorem startShow_eq {s : State} (config : s.sc.state = .config) (black : s.wbp.mode ≠ .picture)
    (idle : s.we.engine = .idle) :
    let view : View := { alive := [], lSelf := 0, ceiling := 0, kDome := s.we.kLocal, serial := s.pt.view.serial + 1 }
    startShow s = { s with
      sc := { s.sc with state := .joining, joinCount := 0, lockTimeoutCount := 0, lockWaived := false },
      ls := lampStart s.now s.ls, cu := cadenceStart s.profile.period s.cu, slc := linkStart s.now s.slc,
      fs := storeStart (micros s.now) s.fs, pt := { s.pt with unheard := 0, view := view },
      we := { s.we with
        engine := .computing, copy := view, position := 0, passMaximum := 1, passStart := some s.now,
        saturated := false },
      wbp := { s.wbp with underrun := false },
      svp := { s.svp with causes := { s.svp.causes with state := true } } } := by
  intro view
  have joined := setState_joining_of_config config black
  have engine : (startShow s).we = { s.we with
      engine := .computing, copy := view, position := 0, passMaximum := 1, passStart := some s.now,
      saturated := false } := by
    rw [startShow, formViewAfresh, engineViewChange_idle (by simpa using idle)]
    simp [startPass, view]
  apply State.ext
  case we => exact engine
  all_goals simp [startShow, formViewAfresh, joined, view]

/-- Settles O8: the state that START leaves, block by block (`startShow_eq`, `lampStart_eq`). -/
theorem startAccepted : Obligations.StartAccepted := by
  unfold Obligations.StartAccepted
  intro dt s takes config valid complete weights shows now manual repeats view
  let u := endTransaction (s.advance dt)
  have uConfig : u.sc.state = .config := config
  have uValid : u.sc.profileValid = true := valid
  have uComplete : u.meshComplete = true := beq_iff_eq.mpr complete
  have black : u.wbp.mode ≠ .picture := fun picture => by simpa [config] using shows picture
  have idle : u.we.engine = .idle := (weights.2.2 config).2.2
  change execStart dt s = _
  rw [execStart, actionCommand_open dt s _ takes]
  refine congrArg Host.Outcome.next ?_
  rw [if_neg (not_not.mpr uConfig), if_neg (Bool.not_eq_false _ ▸ uValid), if_neg (Bool.not_eq_false _ ▸ uComplete),
    startShow_eq uConfig black idle, lampStart_eq]
  rfl

/-! ### STOP (R14, R35, R120, R160) -/

/-- STOP moves the state, requests its LEAVE and may turn the output BLACK (R14). -/
theorem stopShow_eq (s : State) : stopShow s = { s with
    sc := { s.sc with state := .stopping },
    slc := { s.slc with queue := { s.slc.queue with leave := some (fresh { reason := 2, forStop := true }) } },
    svp := (setState .stopping s).svp, wbp := (setState .stopping s).wbp, fs := (setState .stopping s).fs } := by
  have moved : (setState .stopping s).sc = { s.sc with state := .stopping } := by rw [setState_frame]
  apply State.ext
  case sc => exact moved
  all_goals simp [stopShow, requestLeave, modQueue_frame]

/-- A state that changes raises STATE (R1, R27). -/
theorem setState_svp {st : ShowState} {s : State} (moves : s.sc.state ≠ st) :
    (setState st s).svp = { s.svp with causes := { s.svp.causes with state := true } } := by
  have moved : (s.sc.state != st) = true := by simp [moves]
  rw [setState_frame]
  simp [moved]

/-- Settles O9: the move to STOPPING (`stopShow_eq`, `setState_svp`), and what it does to the output
(`setState_turnsBlack`). -/
theorem stopTaken : Obligations.StopTaken := by
  unfold Obligations.StopTaken
  intro dt s takes running
  let u := endTransaction (s.advance dt)
  have same : u.sc.state = s.sc.state := rfl
  have moves : u.sc.state ≠ .stopping := by rw [same]; obtain h | h | h := running <;> simp [h]
  have run : exec (.stop dt) s = .next (setResult .ok 0 (stopShow u)) := by
    change execStop dt s = _
    rw [execStop, actionCommand_open dt s _ takes]
    obtain h | h | h := running <;> rw [show (endTransaction (s.advance dt)).sc.state = _ from h]
  obtain ⟨wbp, fs⟩ := setState_turnsBlack .stopping u
  have turns : ((setState .stopping u).sc.state != u.sc.state && (setState .stopping u).sc.state != .showing &&
      u.wbp.mode == .picture) = (u.wbp.mode == .picture) := by
    have state : (setState .stopping u).sc.state = .stopping := by rw [setState_frame]
    have moved : (ShowState.stopping != u.sc.state) = true := by simp [Ne.symm moves]
    rw [state, moved]
    rfl
  rw [turns] at wbp fs
  rw [stopShow_eq, setState_svp moves] at run
  refine ⟨_, run, rfl, rfl, rfl, ?_, fun picture => ?_, fun hidden => ?_, rfl⟩
  · exact wbp.trans (by simp [u, endTransaction])
  · have turned : (u.wbp.mode == .picture) = true := beq_iff_eq.mpr picture
    refine fs.trans ((if_pos turned).trans ?_)
    cases burst : s.fs.arb.burst with
    | none => simp [u, endTransaction, burst]
    | some b => cases b <;> simp [u, endTransaction, burst, Burst.dropRead]
  · have stays : ¬(u.wbp.mode == .picture) = true := fun h => hidden (beq_iff_eq.mp h)
    exact fs.trans (if_neg stays)

/-! ### RESET (R16) -/

theorem enterConfig_svp (s : State) : (enterConfig s).svp =
    { s.svp with causes := (enterConfig s).svp.causes } := by
  simp only [enterConfig]
  rw [setState_frame]
  simp

/-- Settles O10. -/
theorem resetTaken : Obligations.ResetTaken := by
  unfold Obligations.ResetTaken
  intro dt line s takes
  let v : State := endTransaction (s.advance dt)
  let w : State := v.modSlc fun l => if l.busy then setLine line.dominant (v.now - line.run) l else l
  let u : State := enterConfig w
  have enters : EntersConfig w u := enterConfig_enters w
  have slc : u.slc.dominant = w.slc.dominant ∧ u.slc.since = w.slc.since := by
    obtain ⟨-, -, slc, -⟩ := enters
    rw [slc]
    exact ⟨rfl, rfl⟩
  have run : exec (.reset ⟨dt, line⟩) s = .next (setResult .ok 0 (softReset line v)) :=
    actionCommand_open dt s (fun s => setResult .ok 0 (softReset line s)) takes
  have dominant : u.slc.dominant = w.slc.dominant := slc.1
  have since : u.slc.since = w.slc.since := slc.2
  refine ⟨_, u, run, fun silent => ?_, ?_, ?_⟩
  · have kept : w.slc = s.slc := if_neg (by simp [v, endTransaction, silent])
    rw [dominant, since, kept]
    exact ⟨rfl, rfl⟩
  · have before : w = { s with
        now := s.now + dt, slc := { s.slc with dominant := w.slc.dominant, since := w.slc.since },
        svp := { s.svp with transaction := .closed, shiftOut := [] } } := by
      have line : w.slc = { s.slc with dominant := w.slc.dominant, since := w.slc.since } := by
        simp only [w, State.modSlc_slc]
        split <;> rfl
      conv_lhs => rw [show w = { v with slc := w.slc } from rfl, line]
      rfl
    rw [dominant, since, ← before]
    exact enters
  · have svp : u.svp = { u.svp with transaction := .closed, shiftOut := [] } := by
      rw [enterConfig_svp w]
      rfl
    rw [← svp]
    rfl

/-! ### The reset line (R17, R30, R178, R179) -/

theorem eventWhen_low {s : State} (low : s.rstnLow = true) (dt : Nat) (due : State → Bool) (f : State → State) :
    eventWhen dt s due f = .next (s.advance dt) := by
  simp [eventWhen, event, low]

/-- While RSTN is low only time passes (R17, R179). -/
theorem exec_low {c : Instr} {s : State} (low : s.rstnLow = true) (reset : ∀ dt, c ≠ .hardwareReset dt)
    (release : ∀ dt, c ≠ .rstnRelease dt) : ∃ dt, exec c s = .next (s.advance dt) := by
  cases c <;> simp only [exec, execProfile, execMesh, execStart, execStop, execReset, execSampleSingle,
    execSampleContinuous, execSampleStop, execStatus, execPeers, execCounters, execTrap, execReadSample, execUnknown,
    execLength, execFrameStart, execCutoff, execStartMarkBegin, execArbitrationLost, execBitFault, execMessageComplete,
    execPulseExpired, execStuck, execLinkNormal, execStartMarkRecognised, execMessageEndedShort, execPulse, execReady,
    execLeave, execSilent, execIsolated, execColdStartTest, execOrphanTest, execLockTimeout, execPassComplete,
    execConversionComplete, execManualConversionComplete, execInputFrameStart, execInputPixel, execLineEnd,
    execTrailerLineEnd, execInputLost, execWriteBurst, execReadBurst, execPixelDue, execStrayPulse,
    execArbitrationFieldEnd, execTransactionBegin, actionCommand, readCommand, eventWhen_low low]
  case hardwareReset dt => exact absurd rfl (reset dt)
  case rstnRelease dt => exact absurd rfl (release dt)
  all_goals exact ⟨_, rfl⟩

/-- Settles O12: RSTN low, held (`exec_low`) and released. -/
theorem resetLine : Obligations.ResetLine := by
  unfold Obligations.ResetLine
  refine ⟨fun dt s => ⟨rfl, fun low => ?_, fun low => ?_⟩, fun c s low reset release => exec_low low reset release⟩
  · exact congrArg Host.Outcome.next (if_pos low)
  · simp [State.drivesSeam, State.attentionLow, State.sdoDriven, low]

/-! ### After reset -/

/-- Settles O51: nothing is stored, queued or shown after reset, no profile is valid, and no station runs. -/
theorem resetSound : Obligations.ResetSound := by
  unfold Obligations.ResetSound
  intro s
  have peers : PeersHeld s := peersHeld_of_config rfl rfl rfl rfl rfl
    ⟨⟨le_refl 1, by decide⟩, Nat.zero_le _, Nat.zero_le _, Nat.zero_le _, nofun⟩
  have lock : LockHeld s := lockHeld_of_config rfl rfl rfl
  have station : StationSound s := ⟨⟨rfl, nofun⟩, fun _ => ⟨rfl, rfl⟩, nofun⟩
  have profile : ProfileHeld s := ⟨⟨nofun, nofun⟩, nofun⟩
  obtain ⟨silence, figures, view⟩ := peers
  refine ⟨⟨by decide, by decide, by decide⟩, ?_, silence, figures, view, lock, station,
    ⟨meshSound_blank rfl, weightsSound_of_zero rfl rfl rfl⟩, profile⟩
  exact ⟨by decide, by decide, by decide⟩

end Sys2Proof.Machine

/-! SUPPORT. The counts and the promotion of an own frame start, the lock timeout, and the message sent (R10, R11, R33, R41,
R57, R58, R110, R138). -/

namespace Sys2Proof.Machine

/-! ### The counts of an own frame start (R11, R57, R58, R138) -/

section

variable (order : SameInstant) (s : State)

theorem frameTested_pt : (s.frameTested order).pt = (silenceTick (s.modCu frameCounts)).pt := by
  unfold State.frameTested State.frameCounted
  split <;> simp

theorem frameStartRunning_pt : (frameStartRunning order s).pt = (silenceTick (s.modCu frameCounts)).pt := by
  rw [frameStartRunning_eq, ← frameTested_pt order s]
  split
  · exact beginOutputFrame_pt _
  · rfl

theorem frameTested_ls : (s.frameTested order).ls = lampFrameStart s.now s.ls := by
  unfold State.frameTested State.frameCounted
  split <;> simp

theorem frameStartRunning_ls : (frameStartRunning order s).ls = lampFrameStart s.now s.ls := by
  rw [frameStartRunning_eq, ← frameTested_ls order s]
  split
  · exact beginOutputFrame_ls _
  · rfl

theorem frameStartRunning_we : (frameStartRunning order s).we = (s.frameTested order).we := by
  rw [frameStartRunning_eq]
  split
  · exact beginOutputFrame_we _
  · rfl

theorem frameStartRunning_svp : (frameStartRunning order s).svp = (s.frameTested order).svp := by
  rw [frameStartRunning_eq]
  split
  · exact beginOutputFrame_svp _
  · rfl

/-- What the promotion and the JOINING test of a frame start meet: the counts are taken, the output frame has begun or not
(R110, R120). -/
def State.frameCountedFor : State := if order.outputAfter = true then s.frameCounted else beginOutputFrame s.frameCounted

/-- The counts and the output frame move nothing that the promotion and the JOINING test read. -/
theorem frameCountedFor_kept : (s.frameCountedFor order).sc = joinTick s.sc ∧ (s.frameCountedFor order).we = s.we ∧
    (s.frameCountedFor order).now = s.now ∧ (s.frameCountedFor order).svp = s.svp ∧
    (s.frameCountedFor order).pt.view = s.pt.view ∧ (s.frameCountedFor order).cu.lock = s.cu.lock ∧
    (s.frameCountedFor order).ls.lAnn = s.ls.lAnn := by
  unfold State.frameCountedFor State.frameCounted
  split <;> refine ⟨?_, ?_, ?_, ?_, ?_, ?_, ?_⟩ <;> simp [frameCounts, lampFrameStart_lAnn]

end

/-- The conversion that a frame start begins under AUTO (R138). -/
theorem lampFrameStart_eq (now : Nat) (l : Lamp) : lampFrameStart now l = { l with
    conversion := if l.mode = .auto ∧ l.conversion = none then
        some { channel := .lamp0, manual := false, completesAt := now + 16000 }
      else l.conversion } := by
  unfold lampFrameStart
  split <;> rfl

/-- The join counts (R11). -/
theorem joinTick_eq (c : Station) : joinTick c = { c with
    joinCount := if c.state = .joining ∧ c.joinCount < 4 then c.joinCount + 1 else c.joinCount,
    lockTimeoutCount := if c.state = .joining ∧ 4 ≤ c.joinCount then min 1023 (c.lockTimeoutCount + 1)
      else c.lockTimeoutCount } := by
  have window : Config.joinWindowFrames = 4 := rfl
  unfold joinTick
  rw [window]
  by_cases joining : c.state = .joining
  · by_cases early : c.joinCount < 4
    · simp [joining, early]
    · simp [joining, early, Nat.le_of_not_lt early]
  · simp [joining]

/-- Settles O15: the silence counts (`silenceTick_pt`), the join counts (`joinTick_eq`) and the sequence begun
(`lampFrameStart_eq`), of which the promotion and the output frame move nothing. -/
theorem frameStartCounts : Obligations.FrameStartCounts := by
  unfold Obligations.FrameStartCounts
  intro dt e order s live timed ends now
  refine ⟨_, exec_frameStart_due live timed ends now, fun stands => ?_, fun running => ?_⟩
  · have stands : (s.advance dt).running = false := stands
    rw [takeFrameStart_of_not_running order stands]
    exact ⟨by simp [State.periodBegun], by simp [State.periodBegun], by simp [State.periodBegun],
      by simp [State.periodBegun], by simp [State.periodBegun]⟩
  · intro limit unheard
    have runs : (s.advance dt).running = true := running
    let u := (s.advance dt).periodBegun
    have sc : u.sc = s.sc := periodBegun_sc (s.advance dt)
    have ls : u.ls = s.ls := periodBegun_ls (s.advance dt)
    have pt : u.pt = s.pt := by simp [u, State.periodBegun]
    have begun : u.now = s.now + dt := by simp [u, State.periodBegun]
    have heard : (u.modCu frameCounts).somePeerHeard = s.somePeerHeard := by
      simp [State.somePeerHeard, State.peersWith, State.profile, pt, sc]
    rw [takeFrameStart_of_running order runs]
    refine ⟨?_, ?_, ?_⟩
    · rw [frameStartRunning_pt, silenceTick_pt, heard, State.modCu_pt, pt, State.profile, State.modCu_sc, sc]
      rfl
    · rw [frameStartRunning_ls, lampFrameStart_eq, ls, begun]
    · have counted := (frameCountedFor_kept order u).1
      have tested : (frameStartRunning order u).sc = { joinTick s.sc with
          state := (frameStartRunning order u).sc.state,
          leftJoining := (frameStartRunning order u).sc.leftJoining } := by
        rw [frameStartRunning_sc, ← sc, ← counted]
        show (joiningTest (promote (u.frameCountedFor order))).sc = _
        conv_lhs => rw [joiningTest_frame]
        rw [promote_sc]
        rfl
      rw [tested, joinTick_eq]

/-! ### The promotion (R107, R110) -/

/-- What a promotion leaves of the engine (R110). -/
theorem promote_we (s : State) : (promote s).we =
    if s.we.engine = .pending then
      if s.we.again = true then { s.we with
        shown := s.we.work, work := s.we.shown, promoted := true, promotedAt := some s.now, again := false,
        engine := .computing, copy := s.pt.view, position := 0, passMaximum := 1, passStart := some s.now }
      else { s.we with
        shown := s.we.work, work := s.we.shown, promoted := true, engine := .idle, promotedAt := some s.now }
    else s.we := by
  unfold promote
  split
  · dsimp only
    split
    · rfl
    · rfl
  · rfl

theorem promote_promoted (s : State) : (promote s).we.promoted = true ↔ s.we.promoted = true ∨ s.we.engine = .pending := by
  rw [promote_we]
  split
  · next pending => split <;> simp [pending]
  · next other => simp [other]

/-- The state, its instant and its cause after a JOINING test (R1, R10). -/
theorem joiningTest_exit (s : State) :
    if s.sc.state = .joining ∧ s.lockMet = true ∧ s.we.promoted = true then
      (joiningTest s).sc.state = (if s.profile.tMin ≤ s.ls.lAnn then .showing else .dark) ∧
      (joiningTest s).sc.leftJoining = some s.now ∧
      (joiningTest s).svp = { s.svp with causes := { s.svp.causes with state := true } }
    else (joiningTest s).sc.state = s.sc.state ∧ (joiningTest s).sc.leftJoining = s.sc.leftJoining ∧
      (joiningTest s).svp = s.svp := by
  obtain ⟨state, left⟩ := joiningTest_state s
  have svp : (joiningTest s).svp = { s.svp with causes := { s.svp.causes with
      state := s.svp.causes.state || s.sc.state != (joiningTest s).sc.state } } := by
    conv_lhs => rw [joiningTest_frame]
  split
  · next leaves =>
    rw [if_pos leaves] at state left
    have moved : (s.sc.state != (joiningTest s).sc.state) = true := by
      rw [state, leaves.1]
      split <;> rfl
    exact ⟨state, left, by rw [svp, moved]; simp⟩
  · next stays =>
    rw [if_neg stays] at state left
    exact ⟨state, left, by rw [svp, state]; simp⟩

/-- Settles O16: the promotion (`promote_we`) and the JOINING test that follows it (`joiningTest_exit`). -/
theorem frameStartPromotes : Obligations.FrameStartPromotes := by
  unfold Obligations.FrameStartPromotes
  intro dt e order s live timed ends now running
  have runs : (s.advance dt).running = true := running
  let u := (s.advance dt).periodBegun
  let v := u.frameCountedFor order
  have sc : u.sc = s.sc := periodBegun_sc (s.advance dt)
  obtain ⟨vsc, vwe, vnow, vsvp, vview, vlock, vann⟩ := frameCountedFor_kept order u
  have we : v.we = s.we := vwe.trans (periodBegun_we (s.advance dt))
  have begun : v.now = s.now + dt := vnow.trans (by simp [u, State.periodBegun])
  have view : v.pt.view = s.pt.view := vview.trans (by simp [u, State.periodBegun])
  have svp : v.svp = s.svp := vsvp.trans (by simp [u, State.periodBegun])
  have lock : v.cu.lock = s.cu.lock := vlock.trans (by rw [periodBegun_cu]; rfl)
  have ann : v.ls.lAnn = s.ls.lAnn := vann.trans (by rw [periodBegun_ls]; rfl)
  have station : v.sc = joinTick s.sc := by rw [vsc, sc]
  have promoted : (promote v).we = (promote { s with now := s.now + dt }).we := by
    rw [promote_we, promote_we, we, begun, view]
  have taken : takeFrameStart order (s.advance dt) = frameStartRunning order u := takeFrameStart_of_running order runs
  have engine : (frameStartRunning order u).we = (promote v).we := by
    rw [frameStartRunning_we]
    exact joiningTest_we _
  refine ⟨_, (exec_frameStart_due live timed ends now).trans (congrArg _ taken), fun other => ?_, fun pending once => ?_,
    fun pending again => ?_, ?_⟩
  · rw [engine, promote_we, we, if_neg other]
  · rw [engine, promote_we, we, begun, if_pos pending, if_neg (by simp [once])]
  · rw [engine, promote_we, we, begun, view, if_pos pending, if_pos again]
  · have exit := joiningTest_exit (promote v)
    have met : (promote v).lockMet = s.lockMet := by
      have waived : (promote v).sc.lockWaived = s.sc.lockWaived := by rw [promote_sc, station, joinTick_frame]
      simp only [State.lockMet, promote_cu, lock, waived]
    have table : (promote v).we.promoted = true ↔ s.we.promoted = true ∨ s.we.engine = .pending := by
      rw [promote_promoted, we]
    have profile : (promote v).profile = s.profile := by
      rw [State.profile, promote_sc, station, joinTick_frame]
      rfl
    have state : (promote v).sc.state = s.sc.state := by rw [promote_sc, station, joinTick_frame]
    have left : (promote v).sc.leftJoining = s.sc.leftJoining := by rw [promote_sc, station, joinTick_frame]
    rw [frameStartRunning_sc, frameStartRunning_svp]
    show if _ then (joiningTest (promote v)).sc.state = _ ∧ (joiningTest (promote v)).sc.leftJoining = _ ∧
      (joiningTest (promote v)).svp = _ else _
    simp only [met, table, profile, state, left, promote_ls, promote_svp, promote_now, ann, svp, begun] at exit
    exact exit

/-! ### The lock timeout (R11) -/

/-- Settles O23: the JOINING test of a station whose lock condition is waived (`joiningTest_exit`), carried to PULSE and
output by the order of the blocks (`applyOrder_carried`). -/
theorem lockTimeoutWaives : Obligations.LockTimeoutWaives := by
  unfold Obligations.LockTimeoutWaives
  intro dt f order s live joining begun now late
  let u : State := s.advance dt
  let w : State := u.modSc fun c => { c with lockWaived := true }
  let x : State := joiningTest w
  have due : u.lockTimeoutDue = true := by
    simp only [State.lockTimeoutDue, Bool.and_eq_true, beq_iff_eq, decide_eq_true_eq]
    exact ⟨⟨by simp [u, State.atFrameStart, begun, now], joining⟩, late⟩
  have run : exec (.lockTimeout dt order) s = .next (applyOrder order u x) := eventWhen_due dt s _ _ live due
  have turns : TurnsBlack u x := joiningTest_turnsBlack w
  have carried : CarriedByOrder order u (applyOrder order u x) := applyOrder_carried (by simp [x, w]) (by simp [x, w]) turns
  have met : w.lockMet = true := by simp [w, State.lockMet]
  have wstate : w.sc.state = .joining := joining
  have leaves : (w.sc.state = .joining ∧ w.lockMet = true ∧ w.we.promoted = true) ↔ s.we.promoted = true := by
    rw [wstate, met]
    simp [w, u]
  have exit := joiningTest_exit w
  simp only [leaves] at exit
  have sc : x.sc = { s.sc with lockWaived := true, state := x.sc.state, leftJoining := x.sc.leftJoining } := by
    show (joiningTest w).sc = _
    conv_lhs => rw [joiningTest_frame]
    rfl
  refine ⟨_, run, ?_, ?_, carried, ?_⟩
  · rw [applyOrder_sc, sc]
    split at exit
    · next promoted =>
      obtain ⟨state, left, -⟩ := exit
      rw [if_pos promoted, if_pos promoted, state, left]
      rfl
    · next waits =>
      obtain ⟨state, left, -⟩ := exit
      rw [if_neg waits, if_neg waits, state, left, wstate]
      rfl
  · rw [applyOrder_svp]
    split at exit
    · next promoted =>
      obtain ⟨-, -, svp⟩ := exit
      rw [promoted, Bool.or_true]
      exact svp
    · next waits =>
      obtain ⟨-, -, svp⟩ := exit
      rw [Bool.eq_false_of_not_eq_true waits, Bool.or_false]
      exact svp
  · apply State.ext <;> simp [x, w, u]

/-! ### The message sent (R15, R33, R38, R41) -/

/-- Settles O27: the end of the arbitration field, and the completion, of which a STOP's LEAVE makes the entry to CONFIG
(`enterConfig_enters`). -/
theorem messageSent : Obligations.MessageSent := by
  unfold Obligations.MessageSent
  intro dt m s live onLine
  refine ⟨fun field now => ?_, fun sending now => ?_⟩
  · have due : (s.advance dt).fieldEndDue = true := by
      simp [State.fieldEndDue, onLine, field, now, Config.bitTime]
    refine (eventWhen_due dt s State.fieldEndDue takeFieldEnd live due).trans ?_
    simp [takeFieldEnd, State.modSlc, State.advance, onLine]
  · intro crc done
    have due : (s.advance dt).completionDue = true := by
      simp [State.completionDue, onLine, sending, now, Config.bitTime]
    have taken : takeCompletion (s.advance dt) = if m.body.isStopLeave then stopComplete done else done := by
      unfold takeCompletion
      rw [State.advance_slc, onLine]
      rfl
    have run : exec (.messageComplete dt) s = .next (if m.body.isStopLeave then stopComplete done else done) :=
      (eventWhen_due dt s State.completionDue takeCompletion live due).trans (congrArg _ taken)
    have state : done.sc.state = s.sc.state := rfl
    rw [run]
    refine ⟨fun other => ?_, fun stop stopping => ?_⟩
    · obtain plain | runs := other
      · rw [plain]
        rfl
      · have goesOn : stopComplete done = done := if_neg runs
        rw [goesOn, ite_self]
    · have ends : stopComplete done = enterConfig done := if_pos stopping
      rw [if_pos stop, ends]
      exact ⟨_, rfl, enterConfig_enters done, enterConfig_counters done⟩

end Sys2Proof.Machine

/-! SUPPORT. The four-sequence average: the sampler's part of it, and what a changed L_ann moves (R10, R12, R13, R139 to
R142). -/

namespace Sys2Proof.Machine

/-! ### The sampler's part (R140 to R142) -/

/-- Channel 0's value from its accumulator, or the held one (R140). -/
def Lamp.formed0 (p : Profile) (l : Lamp) : Nat :=
  if l.acc0.number = 0 then l.l0 else channelValue p.dark0 p.rated0 l.acc0

/-- Channel 1's value from its accumulator, or the held one; in SINGLE mode it is held (R140). -/
def Lamp.formed1 (p : Profile) (l : Lamp) : Nat :=
  if p.lampMode = .single ∨ l.acc1.number = 0 then l.l1 else channelValue p.dark1 p.rated1 l.acc1

theorem averageLamp_eq (p : Profile) (l : Lamp) :
    let m := if p.lampMode = .single then l.formed0 p else (l.formed0 p + l.formed1 p) / 2
    averageLamp p l = { l with
      acc0 := ⟨0, 0⟩, acc1 := ⟨0, 0⟩, sequences := 0, l0 := l.formed0 p, l1 := l.formed1 p,
      fault0 := decide (l.acc0.number = 0),
      fault1 := if p.lampMode = .single then l.fault1 else decide (l.acc1.number = 0),
      lMeas := m, lAnn := if announces p m l.lAnn = true then m else l.lAnn } := by
  intro m
  cases mode : p.lampMode with
  | single =>
    by_cases none0 : l.acc0.number = 0
    · simp [averageLamp, averageLamp0, measured, Lamp.formed0, Lamp.formed1, m, mode, none0, Accumulator.zero]
    · simp [averageLamp, averageLamp0, measured, Lamp.formed0, Lamp.formed1, m, mode, none0, Accumulator.zero]
  | dual =>
    by_cases none0 : l.acc0.number = 0 <;> by_cases none1 : l.acc1.number = 0 <;>
      simp [averageLamp, averageLamp0, averageLamp1, measured, Lamp.formed0, Lamp.formed1, m, mode, none0, none1,
        Accumulator.zero]

/-- Two figures on different sides of a threshold (R142). -/
theorem crosses_iff (threshold a b : Nat) :
    crosses threshold a b = true ↔ a < threshold ∧ threshold ≤ b ∨ b < threshold ∧ threshold ≤ a := by
  unfold crosses
  by_cases ha : a < threshold <;> by_cases hb : b < threshold <;> simp [ha, hb] <;> omega

/-- When L_ann takes L_meas (R142). -/
theorem announces_iff {p : Profile} (step : 0 < p.lStep) (meas ann : Nat) : announces p meas ann = true ↔
    (p.lStep ≤ meas - ann ∨ p.lStep ≤ ann - meas) ∨
      (meas < p.tMin ∧ p.tMin ≤ ann ∨ ann < p.tMin ∧ p.tMin ≤ meas) ∨
      (meas < p.tReturn ∧ p.tReturn ≤ ann ∨ ann < p.tReturn ∧ p.tReturn ≤ meas) := by
  have far : p.lStep ≤ ((meas : Int) - (ann : Int)).natAbs ↔ p.lStep ≤ meas - ann ∨ p.lStep ≤ ann - meas := by omega
  simp only [announces, Bool.or_eq_true, decide_eq_true_eq, crosses_iff, far, or_assoc]

/-! ### What a changed L_ann moves (R10, R12, R13) -/

/-- The station state that a changed L_ann gives (R10, R12, R13; assumption log, entry 29). -/
def State.lampState (s : State) : ShowState :=
  if s.justLeftJoining = true then s.joiningExit
  else
    match s.sc.state with
    | .showing => if s.ls.lAnn < s.profile.tMin then .dark else .showing
    | .dark => if s.profile.tReturn ≤ s.ls.lAnn then .showing else .dark
    | .joining => if s.lockMet = true ∧ s.we.promoted = true then s.joiningExit else .joining
    | .config => .config
    | .stopping => .stopping

/-- What a changed L_ann makes of station, LEAVE, causes and output, from `s` to `t` (R10, R12, R13, R27, R120). -/
structure LampMoved (s t : State) : Prop where
  state : t.sc.state = s.lampState
  sc : t.sc = { s.sc with
    state := t.sc.state,
    leftJoining := if s.sc.state = .joining ∧ t.sc.state ≠ .joining then some s.now else s.sc.leftJoining }
  slc : t.slc = { s.slc with queue := { s.slc.queue with
    leave := if ¬s.justLeftJoining = true ∧ s.sc.state = .showing ∧ t.sc.state = .dark then
        some (fresh { reason := 1, forStop := false })
      else s.slc.queue.leave } }
  svp : t.svp = { s.svp with causes := { s.svp.causes with
    state := s.svp.causes.state || t.sc.state != s.sc.state } }
  turns : TurnsBlack s t

/-- A station that a changed L_ann leaves in its state. -/
theorem lampMoved_stays {s : State} (stays : s.sc.state = s.lampState) : LampMoved s s where
  state := stays
  sc := by simp
  slc := by
    have same : ¬(¬s.justLeftJoining = true ∧ s.sc.state = .showing ∧ s.sc.state = .dark) := by
      rintro ⟨-, showing, dark⟩
      simp [showing] at dark
    rw [if_neg same]
  svp := by simp
  turns := by simp [TurnsBlack]

/-- A move that requests no LEAVE, from a state other than JOINING. -/
theorem lampMoved_setState {st : ShowState} {s : State} (lands : st = s.lampState) (left : s.sc.state ≠ .joining)
    (quiet : ¬(¬s.justLeftJoining = true ∧ s.sc.state = .showing ∧ st = .dark)) : LampMoved s (setState st s) := by
  have state : (setState st s).sc.state = st := by rw [setState_frame]
  refine ⟨state.trans lands, ?_, ?_, ?_, setState_turnsBlack st s⟩
  · rw [if_neg fun h => left h.1]
    conv_lhs => rw [setState_frame]
    rw [state]
  · rw [state, if_neg quiet]
    exact setState_slc ..
  · rw [state, bne_comm]
    conv_lhs => rw [setState_frame]

/-- A SHOWING station below T_min goes DARK, with a LAMP LEAVE (R12). -/
theorem lampMoved_dark {s : State} (other : s.justLeftJoining = false) (showing : s.sc.state = .showing)
    (below : s.ls.lAnn < s.profile.tMin) :
    LampMoved s (requestLeave { reason := 1, forStop := false } (setState .dark s)) := by
  have state : (setState .dark s).sc.state = .dark := by rw [setState_frame]
  have moves : s.sc.state ≠ .dark := by simp [showing]
  have sc : (requestLeave { reason := 1, forStop := false } (setState .dark s)).sc = (setState .dark s).sc := rfl
  refine ⟨?_, ?_, ?_, ?_, setState_turnsBlack .dark s⟩
  · rw [sc, state]
    simp [State.lampState, other, showing, below]
  · rw [sc, state, if_neg fun h => by simp [showing] at h]
    rw [setState_frame]
  · rw [sc, state, if_pos ⟨by simp [other], showing, rfl⟩]
    unfold requestLeave
    rw [modQueue_frame, setState_slc]
  · have raised : (ShowState.dark != s.sc.state) = true := by simp [showing]
    rw [sc, state, raised, Bool.or_true]
    exact setState_svp moves

/-- A JOINING station makes its JOINING test (R10). -/
theorem lampMoved_joiningTest {s : State} (other : s.justLeftJoining = false) (joining : s.sc.state = .joining) :
    LampMoved s (joiningTest s) := by
  obtain ⟨state, left⟩ := joiningTest_state s
  have lands : (joiningTest s).sc.state = s.lampState := by
    rw [state]
    simp [State.lampState, other, joining, State.joiningExit]
  refine ⟨lands, ?_, ?_, ?_, joiningTest_turnsBlack s⟩
  · have leftJoining : (joiningTest s).sc.leftJoining =
        if s.sc.state = .joining ∧ (joiningTest s).sc.state ≠ .joining then some s.now else s.sc.leftJoining := by
      rw [left, state]
      by_cases leaves : s.lockMet = true ∧ s.we.promoted = true
      · by_cases bright : s.profile.tMin ≤ s.ls.lAnn <;> simp [joining, leaves, bright]
      · simp [joining, leaves]
    rw [← leftJoining]
    conv_lhs => rw [joiningTest_frame]
  · have quiet : ¬(¬s.justLeftJoining = true ∧ s.sc.state = .showing ∧ (joiningTest s).sc.state = .dark) := by
      simp [joining]
    rw [if_neg quiet]
    exact joiningTest_slc s
  · rw [bne_comm]
    conv_lhs => rw [joiningTest_frame]

theorem lampTest_moved (s : State) : LampMoved s (lampTest s) := by
  unfold lampTest
  split
  · next just =>
    have lands : s.joiningExit = s.lampState := by rw [State.lampState, if_pos just]
    have left : s.sc.state ≠ .joining := fun joining => by simp [State.justLeftJoining, joining] at just
    exact lampMoved_setState lands left fun h => h.1 just
  · next other =>
    split
    · next showing =>
      split
      · next below =>
        exact lampMoved_dark (Bool.eq_false_of_not_eq_true other) showing below
      · next above => exact lampMoved_stays (by simp [State.lampState, other, showing, above])
    · next dark =>
      split
      · next above =>
        exact lampMoved_setState (by simp [State.lampState, other, dark, above]) (by simp [dark]) (by simp [dark])
      · next below => exact lampMoved_stays (by simp [State.lampState, other, dark, below])
    · next joining => exact lampMoved_joiningTest (Bool.eq_false_of_not_eq_true other) joining
    · next config => exact lampMoved_stays (by simp [State.lampState, other, config])
    · next stopping => exact lampMoved_stays (by simp [State.lampState, other, stopping])

/-! ### O41 -/

/-- The sampler once a conversion's code is taken and its sequence, the fourth, is complete (R139). -/
def Lamp.fourthTaken (channel : Channel) (code : Nat) (l : Lamp) : Lamp :=
  { takeCode channel code l with conversion := none, sequences := l.sequences + 1 }

/-- A code taken into the accumulator of its channel completes the sequence, and leaves the figures (R139). -/
theorem Lamp.fourthTaken_eq (channel : Channel) (code : BitVec 12) (l : Lamp) :
    let taken (k : Channel) (a : Accumulator) : Accumulator :=
      if channel ≠ k ∨ code = 4095 then a else { sum := a.sum + code.toNat, number := a.number + 1 }
    l.fourthTaken channel code.toNat = { l with
      acc0 := taken .lamp0 l.acc0, acc1 := taken .lamp1 l.acc1, conversion := none, sequences := l.sequences + 1 } := by
  intro taken
  cases channel <;> simp [Lamp.fourthTaken, takeCode, Accumulator.take_toNat, taken]

/-- The part once the average has been formed, before L_ann is announced (R140). -/
def State.averaged (before : Lamp) (s : State) : State := { s with
  ls := averageLamp s.profile s.ls,
  svp := { s.svp with causes := { s.svp.causes with
    fault := s.svp.causes.fault || ((averageLamp s.profile s.ls).fault0 && !before.fault0) ||
      ((averageLamp s.profile s.ls).fault1 && !before.fault1) } } }

theorem formAverage_eq (s : State) : formAverage s = announceLamp s.ls.lAnn (s.averaged s.ls) := by
  have raised (new : Bool) (u : State) : (if new = true then raiseFault u else u) =
      { u with svp := { u.svp with causes := { u.svp.causes with fault := u.svp.causes.fault || new } } } := by
    cases new
    · simp
    · simp [raiseFault, State.modSvp]
  unfold formAverage
  simp only [raised, State.averaged, ← Bool.or_assoc]
  rfl

/-- What the announcement of L_ann moves, from `s` to `t`, where it stood at `ann` before (R10, R12, R13, R63, R142). -/
structure Announced (ann : Nat) (s t : State) : Prop where
  pt : t.pt = { s.pt with
    view := if s.ls.lAnn = ann ∨ t.formedView s.pt.view.serial = s.pt.view then s.pt.view
      else t.formedView (s.pt.view.serial + 1) }
  told : ViewTold s t
  turns : TurnsBlack s t
  state : t.sc.state = if s.ls.lAnn = ann then s.sc.state else s.lampState
  sc : t.sc = { s.sc with
    state := t.sc.state,
    leftJoining := if s.sc.state = .joining ∧ t.sc.state ≠ .joining then some s.now else s.sc.leftJoining }
  slc : t.slc = { s.slc with queue := { s.slc.queue with
    leave := if ¬s.justLeftJoining = true ∧ s.sc.state = .showing ∧ t.sc.state = .dark then
        some (fresh { reason := 1, forStop := false })
      else s.slc.queue.leave } }
  svp : t.svp = { s.svp with causes := { s.svp.causes with
    state := s.svp.causes.state || t.sc.state != s.sc.state } }
  rest : t = { s with
    pt := t.pt, we := t.we, sc := t.sc, slc := t.slc, svp := t.svp, wbp := t.wbp, fs := t.fs }

/-- An L_ann that stands moves nothing (R142). -/
theorem announced_same {ann : Nat} {s : State} (same : s.ls.lAnn = ann) : Announced ann s s where
  pt := by simp [same]
  told := by simp [ViewTold]
  turns := by simp [TurnsBlack]
  state := by simp [same]
  sc := by simp
  slc := by
    have quiet : ¬(¬s.justLeftJoining = true ∧ s.sc.state = .showing ∧ s.sc.state = .dark) := by
      rintro ⟨-, showing, dark⟩
      simp [showing] at dark
    rw [if_neg quiet]
  svp := by simp
  rest := rfl

/-- A changed L_ann recomputes the view, of which the engine is told, and makes the station's tests (R63, R109, R142). -/
theorem announced_changed {ann : Nat} {s : State} (changed : s.ls.lAnn ≠ ann) :
    Announced ann s (lampTest (recomputeView s)) := by
  have moved := lampTest_moved (recomputeView s)
  have rest := lampTest_rest (recomputeView s)
  have told := recomputeView_told s
  generalize lampTest (recomputeView s) = t at moved rest
  have just : (recomputeView s).justLeftJoining = s.justLeftJoining := by simp [State.justLeftJoining]
  have lands : (recomputeView s).lampState = s.lampState := by
    simp only [State.lampState, just, State.joiningExit, State.lockMet, State.profile, recomputeView_sc,
      recomputeView_ls, recomputeView_cu, (recomputeView_engine s).1]
    rfl
  have pt : t.pt = (recomputeView s).pt := by rw [rest]
  have formed (n : BitVec 8) : t.formedView n = s.formedView n :=
    formedView_congr s t n (by rw [pt, recomputeView_frame]) (by rw [State.profile, moved.sc, recomputeView_sc]; rfl)
      (by rw [rest, recomputeView_ls]) (by rw [rest]; exact recomputeView_kLocal s)
  refine ⟨?_, ?_, ?_, ?_, ?_, ?_, ?_, ?_⟩
  · have view := recomputeView_view s
    have frame : (recomputeView s).pt = { s.pt with view := (recomputeView s).pt.view } := by
      conv_lhs => rw [recomputeView_frame]
    rw [pt, frame, view, formed, formed]
    by_cases same : s.formedView s.pt.view.serial = s.pt.view
    · simp [same]
    · simp [same, changed]
  · have we : t.we = (recomputeView s).we := by rw [rest]
    have now : t.now = (recomputeView s).now := by rw [rest]
    unfold ViewTold at told ⊢
    rw [we, pt, now]
    exact told
  · have turns := moved.turns
    unfold TurnsBlack at turns ⊢
    rw [recomputeView_sc, recomputeView_wbp, recomputeView_fs] at turns
    exact turns
  · rw [if_neg changed, moved.state, lands]
  · simpa using moved.sc
  · simpa [just] using moved.slc
  · simpa using moved.svp
  · rw [rest]
    apply State.ext <;> simp

theorem announceLamp_announced (ann : Nat) (s : State) : Announced ann s (announceLamp ann s) := by
  unfold announceLamp
  split
  · next same => exact announced_same same
  · next changed => exact announced_changed changed

/-- The fourth sequence's last code forms the average (R139, R140). -/
theorem takeSequenceCode_of_fourth {conversion : Conversion} {s : State} (code : Nat)
    (started : s.ls.conversion = some conversion)
    (last : ¬(conversion.channel = .lamp0 ∧ s.profile.lampMode = .dual)) (fourth : s.ls.sequences = 3) :
    takeSequenceCode code s = formAverage (s.modLs (Lamp.fourthTaken conversion.channel code)) := by
  simp [takeSequenceCode, started, last, completeSequence, fourth, State.modLs, Config.sequencesPerAverage,
    Lamp.fourthTaken]

/-- The part as the fourth sequence's last code leaves it, before L_ann is announced (R139, R140). -/
def State.fourthAveraged (dt : Nat) (channel : Channel) (code : BitVec 12) (s : State) : State :=
  ((s.advance dt).modLs (Lamp.fourthTaken channel code.toNat)).averaged (s.ls.fourthTaken channel code.toNat)

theorem exec_fourth {dt : Nat} {channel : Channel} {code : BitVec 12} {s : State} (live : s.rstnLow = false)
    (running : s.running = true)
    (due : s.ls.conversion = some { channel := channel, manual := false, completesAt := s.now + dt })
    (last : channel = .lamp1 ∨ s.profile.lampMode = .single) (fourth : s.ls.sequences = 3) :
    exec (.conversionComplete dt code) s = .next (announceLamp s.ls.lAnn (s.fourthAveraged dt channel code)) := by
  have unpaired : ¬(channel = .lamp0 ∧ (s.advance dt).profile.lampMode = .dual) := by
    rintro ⟨rfl, dual⟩
    obtain second | single := last
    · cases second
    · cases single.symm.trans dual
  have ann : (s.ls.fourthTaken channel code.toNat).lAnn = s.ls.lAnn := by rw [Lamp.fourthTaken_eq]
  rw [exec_conversionComplete_due live running due,
    takeSequenceCode_of_fourth (s := s.advance dt) code.toNat due unpaired fourth, formAverage_eq, ← ann]
  rfl

/-- Settles O41: the sampler's part (`averageLamp_eq`, `announces_iff`) and what the announcement of L_ann moves
(`announceLamp_announced`). -/
theorem fourSequenceAverage : Obligations.FourSequenceAverage := by
  unfold Obligations.FourSequenceAverage
  intro dt channel code s live running due last fourth p taken value a0 a1 l0 l1 measured ann moves just step
  let l : Lamp := s.ls.fourthTaken channel code.toNat
  let w : State := s.fourthAveraged dt channel code
  let t : State := announceLamp ann w
  have l_eq : l = { s.ls with acc0 := a0, acc1 := a1, conversion := none, sequences := s.ls.sequences + 1 } :=
    Lamp.fourthTaken_eq ..
  have value0 : l.formed0 p = l0 := by rw [l_eq]; rfl
  have value1 : l.formed1 p = l1 := by rw [l_eq]; rfl
  have announced : Announced ann w t := announceLamp_announced ann w
  have lamp : t.ls = { s.ls with
      conversion := none, acc0 := ⟨0, 0⟩, acc1 := ⟨0, 0⟩, sequences := 0, l0 := l0, l1 := l1,
      fault0 := decide (a0.number = 0),
      fault1 := if p.lampMode = .single then s.ls.fault1 else decide (a1.number = 0), lMeas := measured,
      lAnn := if announces p measured ann = true then measured else ann } := by
    have formed : t.ls = averageLamp p l := by rw [announced.rest]; rfl
    rw [formed, averageLamp_eq, value0, value1, l_eq]
  have lAnn : w.ls.lAnn = t.ls.lAnn := by rw [announced.rest]
  have fault0 : t.ls.fault0 = decide (a0.number = 0) := by rw [lamp]
  have fault1 : t.ls.fault1 = if p.lampMode = .single then s.ls.fault1 else decide (a1.number = 0) := by rw [lamp]
  have follows : moves ↔ announces p measured ann = true := (announces_iff step measured ann).symm
  have left : w.justLeftJoining = true ↔ just := by
    simp [State.justLeftJoining, just, w, State.fourthAveraged, State.averaged]
  refine ⟨t, exec_fourth live running due last fourth, ?_, ?_, fun moved => ?_, fun rests => ?_, ?_, ?_, announced.told, announced.turns, ?_, ?_, ?_, ?_⟩
  · rw [fault0, decide_eq_true_eq]
  · rw [fault1]
    split <;> simp
  · rw [lamp]
    exact if_pos (follows.mp moved)
  · rw [lamp]
    exact if_neg (mt follows.mpr rests)
  · rw [lamp]
  · have pt := announced.pt
    rw [lAnn] at pt
    exact pt
  · refine announced.sc.trans (Station.ext ?_ rfl rfl rfl rfl rfl rfl rfl rfl rfl rfl rfl)
    show t.sc.state = _
    rw [announced.state, lAnn]
    refine if_congr Iff.rfl rfl (if_congr left ?_ ?_)
    · rw [State.joiningExit, lAnn]
      rfl
    · have stays : w.sc.state = s.sc.state := rfl
      rw [stays, State.joiningExit, lAnn]
      cases s.sc.state <;> rfl
  · have unset : ¬w.justLeftJoining = true ↔ ¬just := not_congr left
    refine announced.slc.trans ?_
    simp only [unset]
    rfl
  · have raised : w.svp = { s.svp with causes := { s.svp.causes with
        fault := s.svp.causes.fault || (t.ls.fault0 && !s.ls.fault0) || (t.ls.fault1 && !s.ls.fault1) } } := by
      have formed : w.ls = t.ls := by rw [announced.rest]
      have marks : l.fault0 = s.ls.fault0 ∧ l.fault1 = s.ls.fault1 := by rw [l_eq]; exact ⟨rfl, rfl⟩
      rw [← formed, ← marks.1, ← marks.2]
      rfl
    refine announced.svp.trans ?_
    rw [raised]
    rfl
  · rw [announced.rest]
    rfl

end Sys2Proof.Machine
